-- ==== Sys2Proof/Word.lean ====
section
/-! DEFINITION. The words the manual treats as bits: link characters, timing-counter stamps, check codes, CRC registers and request tags. Everything else in the model is a number, a name, a record or a list. -/

namespace Sys2Proof

/-- One character of the station link: 8 data bits (R173). -/
abbrev Byte := BitVec 8

/-- A value of the 48-bit timing counter, in counts of 0.1 µs (R16). -/
abbrev Stamp := BitVec 48

/-- A 32-bit check code or audit sequence number (R158, R167). -/
abbrev Code := BitVec 32

/-- The tag of a frame: two characters the host chooses and the part echoes (R197). -/
abbrev Tag := BitVec 16

end Sys2Proof
end

