-- ==== Sys2Proof/Syntax.lean ====
section
/-! DEFINITION. The commands of the part: one constructor of Instr for each row of spec/opcode_table.json. The first 42 rows are host requests, the other 32 are field events and timer expiries. -/

namespace Sys2Proof

/-- The four meter runs (00_scope 4.5). -/
inductive Run where
  | r1 | r2 | r3 | r4
  deriving DecidableEq, Repr

/-- The two pulse channels of a run. -/
inductive Channel where
  | a | b
  deriving DecidableEq, Repr

/-- The two prover detectors. -/
inductive Detector where
  | d1 | d2
  deriving DecidableEq, Repr

/-- Why a proving record ended FAILED or ABORTED, in the order of the codes of R201 (1 to 12). -/
inductive EndCause where
  | repeatability | mfRange | alignTimeout | launchTimeout | passTimeout | sequence
  | runFailed | runClosed | cancelled | gradeChange | configChanged | power
  deriving DecidableEq, Repr

/-- What a request frame carries beside its type and body (R197): the station character it is addressed to
(0 is the broadcast station) and its tag. -/
structure Header where
  station : Nat
  tag : Tag
  deriving DecidableEq, Repr

/-- One group of a CSTG body (R198): a field index and the field's value as it stands on the link. -/
structure FieldGroup where
  index : Nat
  value : List Byte
  deriving DecidableEq, Repr

/-- What the manual leaves to the order in which the blocks reach one boundary, supplied with the boundary:
whether the verification of the block at the rotation position is taken before the applications (R165), and which
abort cause is taken first where several reach the proving record at one boundary (R118). -/
structure BoundaryOrder where
  verifyFirst : Bool
  causeFirst : EndCause
  deriving DecidableEq, Repr

/-- The commands. `dt` is the number of timing-counter counts (0.1 µs) since the command before it; the counter
advances by it while the part is RUNNING. Request operands are the fields of the request body in the units of R198. -/
inductive Instr where
  | plsg (dt : Nat) (h : Header) (run part : Nat)
  | ftst (dt : Nat) (h : Header) (run : Nat)
  | prdg (dt : Nat) (h : Header) (point : Option Nat) (part : Nat)
  | subs (dt : Nat) (h : Header) (point : Nat) (value : Int)
  | tset (dt : Nat) (h : Header) (time : Nat)
  | totg (dt : Nat) (h : Header) (run : Option Nat) (part : Nat)
  | snap (dt : Nat) (h : Header)
  | snpg (dt : Nat) (h : Header) (part : Nat)
  | ropn (dt : Nat) (h : Header) (run : Nat)
  | rcls (dt : Nat) (h : Header) (run : Nat)
  | gset (dt : Nat) (h : Header) (grade : Nat) (name : List Byte) (alpha f rho : Nat)
  | gget (dt : Nat) (h : Header) (grade : Option Nat) (part : Nat)
  | bsch (dt : Nat) (h : Header) (id grade : Nat) (nomination : Option Nat) (destination : Option (List Byte))
  | bdel (dt : Nat) (h : Header) (id : Nat)
  | bsta (dt : Nat) (h : Header)
  | bend (dt : Nat) (h : Header)
  | bcut (dt : Nat) (h : Header)
  | bget (dt : Nat) (h : Header) (part : Nat)
  | tget (dt : Nat) (h : Header) (ticket : Option Nat) (part : Nat)
  | trel (dt : Nat) (h : Header) (ticket : Nat)
  | preq (dt : Nat) (h : Header) (run rounds attempts limit : Nat)
  | pcan (dt : Nat) (h : Header) (run : Nat)
  | paln (dt : Nat) (h : Header) (run : Nat)
  | pget (dt : Nat) (h : Header) (number : Option Nat) (part : Nat)
  | pacc (dt : Nat) (h : Header) (run : Nat) (confirm : Bool)
  | prej (dt : Nat) (h : Header) (run : Nat)
  | pena (dt : Nat) (h : Header)
  | pdis (dt : Nat) (h : Header)
  | mfgt (dt : Nat) (h : Header) (run : Nat) (rate : Option Nat) (part : Nat)
  | mfsp (dt : Nat) (h : Header) (run rate mf : Nat)
  | mfdp (dt : Nat) (h : Header) (run rate : Nat)
  | cndg (dt : Nat) (h : Header) (scope : Option Nat) (part : Nat)
  | cndc (dt : Nat) (h : Header) (target : Option (Nat × Nat))
  | cstg (dt : Nat) (h : Header) (block : Nat) (groups : List FieldGroup)
  | ccom (dt : Nat) (h : Header) (block : Nat)
  | cget (dt : Nat) (h : Header) (block copy part : Nat)
  | ktst (dt : Nat) (h : Header) (block : Nat)
  | aget (dt : Nat) (h : Header) (number : Option Nat) (part : Nat)
  | atak (dt : Nat) (h : Header) (number : Nat)
  | stat (dt : Nat) (h : Header) (part : Nat)
  | rstr (dt : Nat) (h : Header)
  | rack (dt : Nat) (h : Header)
  | meterChannelRisingEdge (dt : Nat) (run : Run) (channel : Channel)
  | meterChannelFall (dt : Nat) (run : Run) (channel : Channel)
  /-- `comparatorFault`: should the pulse close a test window, the comparator judges the injected pair a match
  (R15: only a fault in the comparator can). -/
  | qualificationTimeExpiry (dt : Nat) (run : Run) (channel : Channel) (comparatorFault : Bool)
  | detectorActivation (dt : Nat) (detector : Detector)
  | detectorRelease (dt : Nat) (detector : Detector)
  | debounceExpiry (dt : Nat) (detector : Detector)
  | deadTimeExpiry (dt : Nat) (detector : Detector)
  /-- `fraction`: the fraction of span the converter delivers, in millionths (R25). -/
  | conversionCompletion (dt : Nat) (fraction : Nat)
  | staleTimerExpiry (dt : Nat) (point : Fin 16)
  | periodBoundary (dt : Nat) (order : BoundaryOrder)
  | alignTimeoutExpiry (dt : Nat)
  | launchTimeoutExpiry (dt : Nat)
  | passTimeoutExpiry (dt : Nat)
  | holdTimerExpiry (dt : Nat)
  | permitLineFall (dt : Nat)
  | permitLineRise (dt : Nat)
  | externalFilterExpiry (dt : Nat)
  | characterReceived (dt : Nat) (character : Byte)
  | silenceTimerExpiry (dt : Nat)
  | replyStart (dt : Nat)
  | replyDeadlineExpiry (dt : Nat)
  | replyEnd (dt : Nat)
  | powerFailWarning (dt : Nat) (order : BoundaryOrder)
  | warningDeassertion (dt : Nat)
  | mainPowerReturn (dt : Nat)
  | mainPowerFailure (dt : Nat)
  | backupSupplyFailure (dt : Nat)
  | resetLineFall (dt : Nat)
  | resetLineRise (dt : Nat)
  | resetQualificationExpiry (dt : Nat)
  | stationClockSecond (dt : Nat)
  | secondsSinceStartAdvance (dt : Nat)
  deriving DecidableEq, Repr

end Sys2Proof
end

