-- ==== Sys2Proof/Decode.lean ====
section
/-! DEFINITION. The command a word spells by the bits of the table: the table gives no row any bits, so no word spells one. -/

namespace Sys2Proof

/-- The command whose bits are w: none, since spec/opcode_table.json gives no row any bits. -/
def decodeTableWord (_nbits _w : Nat) : Option Instr := none

end Sys2Proof
end

