-- ==== Sys2Proof/Config.lean ====
section
/-! DEFINITION. What is fixed for the part and never changes (capacities, the reference temperature), and the FREE VALUES: constants with no body that stand where the manual states no value. No proof can see what a free value is. -/

namespace Sys2Proof.Config

/-- The timing counter's rate: 10 MHz (R16). -/
def countsPerSecond : Nat := 10000000

/-- The reference temperature 15.00 °C, in thousandths of a degree (00_scope 4.1). -/
def referenceTemperature : Int := 15000

/-- The greatest value of a total or accumulator (R57). -/
def totalMax : Nat := 999999999999

/-- The capacity of the audit trail (R167). -/
def auditCapacity : Nat := 48

/-- The capacity of the ticket slots (R85). -/
def slotCapacity : Nat := 12

/-- The capacity of the batch queue (R70). -/
def queueCapacity : Nat := 8

/-- The capacity of a meter factor curve (R126). -/
def curveCapacity : Nat := 8

/-- The capacity of the proving history (R122). -/
def historyCapacity : Nat := 4

/-- FREE VALUE. The part code STAT reports (R186): the manual gives no value. Log entry 10. -/
opaque partCode : BitVec 16

/-- FREE VALUE. The revision letter STAT reports, A to Z (R186). Log entry 10. -/
opaque revision : Fin 26

/-- FREE VALUE. The character at a position of a field whose value does not fit the field's width (R198 gives the
width and no rule for a value beyond it): width, value, position. Log entry 11. -/
opaque overflowCharacter : Nat → Int → Nat → Byte

/-- FREE VALUE. Ni of a pass whose pulse interval is zero (R109 divides by it): N and the detector interval.
Log entry 12. -/
opaque interpolatedPulses : Nat → Nat → Nat

/-- FREE VALUE. The rate of a pass whose detector interval is zero (R109 divides by it): Ni and K. Log entry 12. -/
opaque passRate : Nat → Nat → Nat

/-- FREE VALUE. MF_round of a round whose meter volume is zero (R110 divides by it): from Vp. Log entry 12. -/
opaque roundFactor : Rat → Int

/-- FREE VALUE. The spread of rounds whose smallest MF_round is zero (R114 divides by it): from the largest.
Log entry 12. -/
opaque spread : Int → Rat

/-- FREE VALUE. A total that a negative increment would carry below zero (R57 states only the rollover above):
the old total and the increment. Log entry 13. -/
opaque totalBelowZero : Nat → Int → Nat

/-- FREE VALUE. What the station clock holds once both supplies have been lost, until the cold start sets it (R192).
Log entry 14. -/
opaque lostClock : Nat

/-- FREE VALUE. The α of a grade entry that is EMPTY (no rule reads one; the grade is named). Log entry 15. -/
opaque emptyAlpha : Nat → Nat

/-- FREE VALUE. The F of a grade entry that is EMPTY. Log entry 15. -/
opaque emptyF : Nat → Nat

/-- FREE VALUE. The ρref of a grade entry that is EMPTY. Log entry 15. -/
opaque emptyRho : Nat → Nat

/-- FREE VALUE. IV, in m³, of a period computed with a K-factor of zero (no valid block holds one): from n.
Log entry 12. -/
opaque volumeOfZeroK : Nat → Rat

/-- FREE VALUE. CPL where 1 − F·P is zero (no valid F and P give one): from F and P. Log entry 12. -/
opaque pressureFactor : Nat → Int → Int

end Sys2Proof.Config
end

