-- ==== Sys2Proof/Machine/Types.lean ====
section
/-! DEFINITION. The plain-data types State is built of, block by block, with the small accessors of the tables (one value per run, one record per condition). -/

namespace Sys2Proof.Machine

open Sys2Proof

/-! ### One value for each run -/

/-- One value for each of the four runs. -/
structure PerRun (α : Type) where
  r1 : α
  r2 : α
  r3 : α
  r4 : α
  deriving DecidableEq, Repr

/-- The value of one run. -/
def PerRun.get {α : Type} (t : PerRun α) : Run → α
  | .r1 => t.r1
  | .r2 => t.r2
  | .r3 => t.r3
  | .r4 => t.r4

/-- The table with one run's value replaced. -/
def PerRun.set {α : Type} (t : PerRun α) (r : Run) (x : α) : PerRun α :=
  match r with
  | .r1 => { t with r1 := x }
  | .r2 => { t with r2 := x }
  | .r3 => { t with r3 := x }
  | .r4 => { t with r4 := x }

/-- The table of a function of the run. -/
def PerRun.tab {α : Type} (f : Run → α) : PerRun α := ⟨f .r1, f .r2, f .r3, f .r4⟩

/-- The four values, run 1 first. -/
def PerRun.list {α : Type} (t : PerRun α) : List α := [t.r1, t.r2, t.r3, t.r4]

/-- The runs in order. -/
def allRuns : List Run := [.r1, .r2, .r3, .r4]

/-- The number of a run, 1 to 4. -/
def runNumber : Run → Nat
  | .r1 => 1
  | .r2 => 2
  | .r3 => 3
  | .r4 => 4

/-- The run a number names, if it names one. -/
def runOf (n : Nat) : Option Run :=
  match n with
  | 1 => some .r1
  | 2 => some .r2
  | 3 => some .r3
  | 4 => some .r4
  | _ => none

/-! ### Pulse input unit (chapter 1) -/

/-- One pulse channel of a run: its qualification in progress with the qualification time (µs) it began with (R1,
R21), its two period counts (R3), its counts in the open window (R6), its silence tally (R8) and whether it is LOST
(R9). -/
structure PulseChannel where
  qualifying : Option Nat
  forward : Nat
  reverse : Nat
  window : Nat
  noise : Nat
  silence : Nat
  lost : Bool
  deriving DecidableEq, Repr

inductive TestResult where
  | none | pass | fail
  deriving DecidableEq, Repr

/-- The pulse state of one run: both channels, the counting channel of the period (R12), the W, L and noise limit
the open window opened with (R7), the mismatch and match tallies (R8), the test mark (R14) and the last test result
with its station time (R15). -/
structure RunPulse where
  a : PulseChannel
  b : PulseChannel
  counting : Channel
  w : Nat
  l : Nat
  noiseLimit : Nat
  mismatch : Nat
  matched : Nat
  testMark : Bool
  lastTest : TestResult
  lastTestTime : Option Nat
  deriving DecidableEq, Repr

inductive DetectorPhase where
  | idle | qualifying | dead
  deriving DecidableEq, Repr

/-- One prover detector (R17, R18): its phase, the debounce time (ms) of a qualification in progress, and the stamp
of its last accepted activation since the start. -/
structure DetectorState where
  phase : DetectorPhase
  debounce : Nat
  last : Option Stamp
  deriving DecidableEq, Repr

structure PulseUnit where
  runs : PerRun RunPulse
  d1 : DetectorState
  d2 : DetectorState
  deriving DecidableEq, Repr

def RunPulse.channel (p : RunPulse) : Channel → PulseChannel
  | .a => p.a
  | .b => p.b

def RunPulse.setChannel (p : RunPulse) (c : Channel) (x : PulseChannel) : RunPulse :=
  match c with
  | .a => { p with a := x }
  | .b => { p with b := x }

def otherChannel : Channel → Channel
  | .a => .b
  | .b => .a

def PulseUnit.detector (u : PulseUnit) : Detector → DetectorState
  | .d1 => u.d1
  | .d2 => u.d2

def PulseUnit.setDetector (u : PulseUnit) (d : Detector) (x : DetectorState) : PulseUnit :=
  match d with
  | .d1 => { u with d1 := x }
  | .d2 => { u with d2 := x }

def otherDetector : Detector → Detector
  | .d1 => .d2
  | .d2 => .d1

/-! ### Configuration blocks (chapter 9) -/

inductive PointKind where
  | temperature | pressure | water
  deriving DecidableEq, Repr

/-- The setup of one point (R23). Span, valid range and deviation limit are in the resolution of the setup's kind,
as they stand on the link (R198). -/
structure PointSetup where
  kind : PointKind
  input : Nat
  spanLow : Int
  spanHigh : Int
  validLow : Int
  validHigh : Int
  integration : Nat
  stale : Nat
  partner : Option Nat
  deviation : Int
  deriving DecidableEq, Repr

/-- The POINTS block: sixteen setups and the scan list (R23, R30). -/
structure PointsBlock where
  setups : Vector PointSetup 16
  scanList : List Nat
  deriving DecidableEq, Repr

/-- A RUN block (R160): K in 0.001 pulses/m³, points, rates in 0.1 m³/h, and the settings of section 1.1. -/
structure RunBlock where
  k : Nat
  tempPoint : Nat
  pressPoint : Nat
  minRate : Nat
  maxRate : Nat
  qualTime : Nat
  w : Nat
  l : Nat
  m : Nat
  noiseLimit : Nat
  reverseLimit : Nat
  deriving DecidableEq, Repr

inductive ConditionClass where
  | note | flag | trip
  deriving DecidableEq, Repr

/-- The STATION block (R160, R143): period length in ms, water point, default grade, the eighteen classes in the order
of the conditions table, hold time in s, external filter time in ms. -/
structure StationBlock where
  periodLength : Nat
  waterPoint : Nat
  defaultGrade : Nat
  classes : Vector ConditionClass 18
  holdTime : Nat
  filterTime : Nat
  deriving DecidableEq, Repr

/-- The PROVER block (R97): Vb in 0.001 m³, γ and G in 10⁻⁷, points, debounce in ms, timeouts in s, stability limit in
0.1 %, deviation limit in 0.0001. -/
structure ProverBlock where
  vb : Nat
  gamma : Nat
  g : Nat
  tempPoint : Nat
  pressPoint : Nat
  debounce : Nat
  alignTimeout : Nat
  launchTimeout : Nat
  passTimeout : Nat
  stability : Nat
  deviation : Nat
  deriving DecidableEq, Repr

/-- The retained copies of a stageable block and its stored check code (R158). The block is commit-pending exactly
while its pending copy is present. -/
structure Slot (α : Type) where
  current : α
  pending : Option α
  code : Code
  deriving DecidableEq, Repr

/-- The eight blocks, in the order of the verification rotation (R165). -/
inductive BlockId where
  | station | prover | points | grades | run (r : Run)
  deriving DecidableEq, Repr

/-- The part of the configuration unit that is not retained (R158, R172): staged copies, mismatch marks, rotation
position. -/
structure ConfigWork where
  stagedStation : Option StationBlock
  stagedProver : Option ProverBlock
  stagedPoints : Option PointsBlock
  stagedRuns : PerRun (Option RunBlock)
  markStation : Bool
  markProver : Bool
  markPoints : Bool
  markGrades : Bool
  markRuns : PerRun Bool
  rotation : BlockId
  deriving DecidableEq, Repr

/-! ### Measurement scanner (chapter 2) -/

inductive PointStatus where
  | none | good | range | stale | deviation
  deriving DecidableEq, Repr

/-- The value and time of a latest reading. Values are in thousandths of the engineering unit. -/
structure Reading where
  value : Int
  time : Nat
  deriving DecidableEq, Repr

/-- A running timer: the stamp it was started at and the time it runs for, in the unit of its block's field. -/
structure Timer where
  started : Stamp
  length : Nat
  deriving DecidableEq, Repr

/-- What the scanner keeps for a point (R24): latest reading, status, and the stale timer with the stale time (s) it
runs for (absent when stopped). -/
structure PointState where
  reading : Option Reading
  status : PointStatus
  staleTimer : Option Timer
  deriving DecidableEq, Repr

/-- A conversion in progress (R25, R39): its point, its sort, the setup and the stamp it started with, and whether its
completion moves the scan position. -/
structure Conversion where
  point : Fin 16
  injected : Bool
  setup : PointSetup
  started : Stamp
  moves : Bool
  deriving DecidableEq, Repr

/-- The tag of an injected chain (R108): record, round, pass (1 or 2), and whether the activation ends the pass. -/
structure ChainTag where
  record : Nat
  round : Nat
  pass : Nat
  ends : Bool
  deriving DecidableEq, Repr

/-- An injected chain: its tag, its points in order, and those not yet stored. -/
structure Chain where
  tag : ChainTag
  points : List (Fin 16)
  left : List (Fin 16)
  deriving DecidableEq, Repr

/-- One entry of a delivered set (R33). -/
structure SetEntry where
  point : Fin 16
  reading : Option Reading
  status : PointStatus
  deriving DecidableEq, Repr

structure Scanner where
  converter : Option Conversion
  position : Nat
  active : Option Chain
  waiting : Option Chain
  refused : Nat
  points : Vector PointState 16
  deriving DecidableEq, Repr

/-! ### Totals (chapter 3) -/

/-- A set of the five quantities: IV, GSV and NSV litres, mass kilograms, forward pulses. -/
structure Totals where
  iv : Nat
  gsv : Nat
  nsv : Nat
  mass : Nat
  pulses : Nat
  deriving DecidableEq, Repr

/-- A GOOD and a FLAGGED set. -/
structure Split where
  good : Totals
  flagged : Totals
  deriving DecidableEq, Repr

/-- The four residues of a run, carried exactly (R53). -/
structure Residues where
  iv : Rat
  gsv : Rat
  nsv : Rat
  mass : Rat
  deriving DecidableEq, Repr

inductive Service where
  | opened | closed
  deriving DecidableEq, Repr

/-- The retained totals of one run (R192). -/
structure RunTotals where
  cumulative : Split
  reverse : Nat
  noBatch : Split
  residues : Residues
  service : Service
  pendingService : Option Service
  deriving DecidableEq, Repr

/-- The snapshot record (R62). -/
structure Snapshot where
  time : Nat
  boundary : Nat
  runs : PerRun Split
  batch : Option (Nat × PerRun Split)
  deriving DecidableEq, Repr

/-- A run's last period results (R58). The length is in timing-counter counts; IV and GSV and NSV are in m³ and mass in
kg, exact; T, P and Wc in thousandths; MF in 0.0001, the other factors in 0.00001; q in 0.1 m³/h. -/
structure LastPeriod where
  time : Nat
  length : Nat
  closing : Bool
  counting : Channel
  n : Nat
  reverse : Nat
  iv : Rat
  q : Nat
  mf : Nat
  t : Int
  p : Int
  wc : Int
  tStatus : PointStatus
  pStatus : PointStatus
  wStatus : PointStatus
  ctl : Int
  cpl : Int
  ccf : Int
  gsv : Rat
  nsv : Rat
  mass : Rat
  grade : Nat
  batch : Option Nat
  service : Service
  flagged : Bool
  deriving DecidableEq, Repr

/-- The totalizer block's state that is not retained: the period timer's length (ms) and start stamp (R42), the stamp of
the last TSET taken since the start, from which the station clock counts its seconds (R46), for each run whether it was not SOUND
at some instant of the period in progress (R55), and the last period results (R58). -/
structure Totalizer where
  periodLength : Nat
  periodStart : Stamp
  clockSet : Option Stamp
  unsound : PerRun Bool
  last : PerRun (Option LastPeriod)
  deriving DecidableEq, Repr

/-! ### Grades, batches and tickets (chapters 4 and 5) -/

/-- A HOLDING grade entry (R67): α and F in 10⁻⁷, ρref in 0.1 kg/m³. -/
structure GradeEntry where
  name : List Byte
  alpha : Nat
  f : Nat
  rho : Nat
  code : Code
  deriving DecidableEq, Repr

/-- An entry of the batch queue (R70); the nomination in 0.001 m³. -/
structure BatchEntry where
  id : Nat
  grade : Nat
  nomination : Option Nat
  destination : Option (List Byte)
  deriving DecidableEq, Repr

/-- The exact weighted sums of a run in a batch (R73, R74): m³, °C·m³, bar·m³, m³, m³, %·m³. -/
structure WeightedSums where
  iv : Rat
  tIV : Rat
  pIV : Rat
  mfIV : Rat
  gsv : Rat
  wGSV : Rat
  deriving DecidableEq, Repr

/-- One run's part of the active batch record (R73). -/
structure BatchRun where
  opening : Split
  acc : Split
  sums : WeightedSums
  periods : Nat
  flaggedPeriods : Nat
  deriving DecidableEq, Repr

/-- The active batch record (R73). -/
structure ActiveBatch where
  entry : BatchEntry
  start : Nat
  runs : PerRun BatchRun
  interruptions : Nat
  outage : Nat
  reached : Bool
  deriving DecidableEq, Repr

inductive BatchChange where
  | none | start | ends | cutover
  deriving DecidableEq, Repr

inductive CloseCause where
  | hostEnd | hostCutover | nomination
  deriving DecidableEq, Repr

/-- One run's part of a ticket (R87, R88). Averages: 0.01 °C, 0.001 bar, 0.0001, 0.01 %. -/
structure TicketRun where
  opening : Split
  closing : Split
  acc : Split
  periods : Nat
  flaggedPeriods : Nat
  sums : WeightedSums
  avgT : Option Int
  avgP : Option Int
  avgMF : Option Int
  avgW : Option Int
  deriving DecidableEq, Repr

/-- A ticket (R87 to R89). -/
structure Ticket where
  number : Nat
  entry : BatchEntry
  start : Nat
  finish : Nat
  cause : CloseCause
  reached : Bool
  interruptions : Nat
  outage : Nat
  runs : PerRun TicketRun
  stationGood : Totals
  stationFlagged : Totals
  stationTotal : Totals
  periods : Nat
  flaggedPeriods : Nat
  avgW : Option Int
  deriving DecidableEq, Repr

/-! ### Meter factor curves (chapter 7) -/

/-- A curve point (R126): rate in 0.1 m³/h, MF in 0.0001, origin a proving number or 0 for ENTERED, date as the station
time of its midnight. -/
structure CurvePoint where
  rate : Nat
  mf : Nat
  origin : Nat
  date : Nat
  deriving DecidableEq, Repr

/-! ### Proving (chapter 6) -/

/-- A queued proving request (R99); the repeatability limit in 0.0001. -/
structure ProvingRequest where
  run : Run
  rounds : Nat
  attempts : Nat
  limit : Nat
  queued : Nat
  deriving DecidableEq, Repr

/-- The marks of a round (R108, R111, R112). -/
structure RoundMarks where
  readingInvalid : Bool
  flowUnstable : Bool
  runDegraded : Bool
  deriving DecidableEq, Repr

/-- The scanner's answer to a chain (R108): a set, or a refusal as reading lost. -/
inductive ChainAnswer where
  | set (entries : List SetEntry)
  | lost
  deriving DecidableEq, Repr

/-- A pass's figures (R109): N, Δd, Δp, Ni in 0.001, rate in 0.1 m³/h. -/
structure PassFigures where
  n : Nat
  dd : Nat
  dp : Nat
  ni : Nat
  rate : Nat
  deriving DecidableEq, Repr

/-- A pass in progress or done: start detector, pass-start rate, stamps, pulse count, figures and chain answers. -/
structure PassState where
  start : Detector
  startRate : Option Nat
  d0 : Option Stamp
  p0 : Option Stamp
  d1 : Option Stamp
  p1 : Option Stamp
  count : Nat
  figures : Option PassFigures
  startAnswer : Option ChainAnswer
  endAnswer : Option ChainAnswer
  deriving DecidableEq, Repr

/-- The round in progress: its number, its first pass, its second pass once begun, and its marks. -/
structure RoundState where
  number : Nat
  first : PassState
  second : Option PassState
  marks : RoundMarks
  deriving DecidableEq, Repr

/-- The round's computed figures (R110): means in thousandths, factors in 0.00001. -/
structure RoundFigures where
  tm : Int
  pm : Int
  tp : Int
  pp : Int
  cts : Int
  cps : Int
  ctlp : Int
  cplp : Int
  ctlm : Int
  cplm : Int
  mf : Int
  deriving DecidableEq, Repr

inductive DiscardReason where
  | readingInvalid | flowUnstable | runDegraded
  deriving DecidableEq, Repr

/-- An entry of the round list (R113). -/
structure RoundEntry where
  number : Nat
  start : Detector
  first : PassFigures
  second : PassFigures
  rate : Nat
  figures : Option RoundFigures
  discarded : Option DiscardReason
  deriving DecidableEq, Repr

/-- A formed result (R114, R115): MF_new and the curve value in 0.0001, rate in 0.1 m³/h, the exact spread. -/
structure ProvingResult where
  mf : Int
  rate : Nat
  spread : Rat
  rounds : List Nat
  curveValue : Option Nat
  deviating : Bool
  time : Nat
  deriving DecidableEq, Repr

inductive RecordState where
  | aligning | armed | pass | tail | turn | complete | failed | aborted
  deriving DecidableEq, Repr

inductive Decision where
  | accepted | rejected
  deriving DecidableEq, Repr

/-- The proving record (R102). Vb, γ and G are the PROVER block's as the record uses them (R123); `timerStart` is the stamp
at which the timer of its state was started. -/
structure ProvingRecord where
  number : Nat
  request : ProvingRequest
  grade : Nat
  k : Nat
  vb : Nat
  gamma : Nat
  g : Nat
  chain : List (Fin 16)
  granted : Nat
  state : RecordState
  timerStart : Stamp
  cause : Option EndCause
  ended : Option Nat
  attempts : Nat
  accepted : Nat
  rounds : List RoundEntry
  current : Option RoundState
  result : Option ProvingResult
  decision : Option Decision
  decided : Option Nat
  deriving DecidableEq, Repr

/-- The timer a record's state runs (R102). -/
inductive RecordTimer where
  | align | launch | pass
  deriving DecidableEq, Repr

/-- R102, the state table's last column. -/
def recordTimer : RecordState → Option RecordTimer
  | .aligning => some .align
  | .armed => some .launch
  | .pass => some .pass
  | .tail => some .pass
  | .turn => some .launch
  | .complete => none
  | .failed => none
  | .aborted => none

/-! ### Audit trail (chapter 9) -/

/-- The kind of an audit entry with the fields of its kind (R168). -/
inductive AuditData where
  | configCommit (block : BlockId) (old new : Code) (gsv : Option Nat)
  | gradeSet (grade : Nat) (old new : Code)
  | curveChange (old removed new : Option CurvePoint) (gsv : Nat)
  | substituteSet (point : Nat) (old new : Int)
  | timeSet (old new : Nat)
  | runService (requested : Service) (gsv : Nat)
  | retentionAck (reckoned seconds time : Nat)
  deriving DecidableEq, Repr

/-- An audit entry (R168); scope none is the station. -/
structure AuditEntry where
  seq : Code
  time : Nat
  scope : Option Run
  data : AuditData
  deriving DecidableEq, Repr

/-! ### Integrity monitor (chapter 8) -/

/-- The thirteen run-scoped condition kinds, in table order (R141). -/
inductive RunKind where
  | channelALost | channelBLost | pulseMismatch | pulseNoise | reverseFlow | comparatorFault
  | temperatureSubstituted | temperatureDeviation | pressureSubstituted | rateOutOfRange
  | curveExtrapolated | unscheduledFlow | runConfigCheck
  deriving DecidableEq, Repr

/-- The six station-scoped condition kinds, in table order (R141). -/
inductive StationKind where
  | waterSubstituted | externalTrip | ticketStoreFull | stationConfigCheck | powerInterrupted | retentionLost
  deriving DecidableEq, Repr

/-- A record of the conditions table, by kind and scope. -/
inductive ConditionId where
  | run (k : RunKind) (r : Run)
  | station (k : StationKind)
  deriving DecidableEq, Repr

/-- The five fields of a condition record (R141). -/
structure ConditionRecord where
  active : Bool
  latched : Bool
  count : Nat
  lastOn : Option Nat
  lastOff : Option Nat
  deriving DecidableEq, Repr

/-- The 58 records: thirteen for each run, six for the station (R141). -/
structure ConditionTable where
  run : PerRun (Vector ConditionRecord 13)
  station : Vector ConditionRecord 6
  deriving DecidableEq, Repr

def allRunKinds : List RunKind :=
  [.channelALost, .channelBLost, .pulseMismatch, .pulseNoise, .reverseFlow, .comparatorFault,
   .temperatureSubstituted, .temperatureDeviation, .pressureSubstituted, .rateOutOfRange,
   .curveExtrapolated, .unscheduledFlow, .runConfigCheck]

def allStationKinds : List StationKind :=
  [.waterSubstituted, .externalTrip, .ticketStoreFull, .stationConfigCheck, .powerInterrupted, .retentionLost]

/-- The place of a run-scoped kind in the conditions table. -/
def runKindIndex : RunKind → Fin 13
  | .channelALost => 0
  | .channelBLost => 1
  | .pulseMismatch => 2
  | .pulseNoise => 3
  | .reverseFlow => 4
  | .comparatorFault => 5
  | .temperatureSubstituted => 6
  | .temperatureDeviation => 7
  | .pressureSubstituted => 8
  | .rateOutOfRange => 9
  | .curveExtrapolated => 10
  | .unscheduledFlow => 11
  | .runConfigCheck => 12

/-- The place of a station-scoped kind among the station's six. -/
def stationKindIndex : StationKind → Fin 6
  | .waterSubstituted => 0
  | .externalTrip => 1
  | .ticketStoreFull => 2
  | .stationConfigCheck => 3
  | .powerInterrupted => 4
  | .retentionLost => 5

/-- The record of a condition. -/
def ConditionTable.get (t : ConditionTable) : ConditionId → ConditionRecord
  | .run k r => (t.run.get r)[runKindIndex k]
  | .station k => t.station[stationKindIndex k]

/-- The table with one record replaced. -/
def ConditionTable.set (t : ConditionTable) (i : ConditionId) (x : ConditionRecord) : ConditionTable :=
  match i with
  | .run k r => { t with run := t.run.set r ((t.run.get r).set (runKindIndex k) x) }
  | .station k => { t with station := t.station.set (stationKindIndex k) x }

/-- An inactive record with everything clear (R157). -/
def clearRecord : ConditionRecord :=
  { active := false, latched := false, count := 0, lastOn := none, lastOff := none }

/-- The table after a start and while HALTED (R155, R157). -/
def clearTable : ConditionTable :=
  { run := PerRun.tab (fun _ => Vector.replicate 13 clearRecord), station := Vector.replicate 6 clearRecord }

inductive Integrity where
  | failed | degraded | sound
  deriving DecidableEq, Repr

/-- The integrity monitor (R141, R148, R151 to R153): the table, the permit state, the hold timer, the external filter
with the filter time (ms) it runs for, and the permit line level as last seen (true is high). -/
structure Monitor where
  table : ConditionTable
  withdrawn : Bool
  hold : Option Timer
  filter : Option Timer
  seen : Option Bool
  deriving DecidableEq, Repr

/-! ### Station link (chapter 10) -/

/-- The bit rates of the straps (R173). -/
inductive BitRate where
  | b9600 | b19200 | b38400 | b57600 | b115200
  deriving DecidableEq, Repr

/-- The statuses of a reply, in the order of R185. -/
inductive Status where
  | ok | frameLength | unknownType | badField | badState | queueFull | duplicate | notFound | notOldest
  | storeFull | auditFull | gradeInUse | curveFull | deviationUnconfirmed | configInvalid
  deriving DecidableEq, Repr

/-- A queued or sending reply (R181, R182, R187, R197): the part's number with the reply marker, type, tag, status, body,
whether its end performs an owed restart, and the instant it was formed, from which its deadline counts. -/
structure Reply where
  station : Nat
  type : Nat
  tag : Tag
  status : Status
  body : List Byte
  restart : Bool
  formed : Stamp
  deriving DecidableEq, Repr

inductive ReplyState where
  | none
  | queued (r : Reply)
  | sending (r : Reply)
  deriving DecidableEq, Repr

/-- The receiver (R175): HEADER with the characters taken after the sync, oldest first; BODY of the part's own frame
with its header and the characters taken; SKIPPING with the count left. -/
inductive Receiver where
  | ready
  | header (taken : List Byte)
  | body (station : Nat) (type : Nat) (tag : Tag) (length : Nat) (taken : List Byte)
  | skipping (left : Nat)
  | waiting
  | off
  deriving DecidableEq, Repr

inductive FrameFault where
  | none | crc | length | gap | replyAbandoned
  deriving DecidableEq, Repr

/-- The station link (R173 to R183): the straps as read at the start, the receiver, the stamp at which the silence timer
was started (none while it is stopped or has expired), the reply, the characters of the reply frame being sent (R182, R197; none while no reply is sent), and the frame fault
record. -/
structure Link where
  station : Nat
  rate : BitRate
  receiver : Receiver
  silence : Option Stamp
  reply : ReplyState
  sent : List Byte
  fault : FrameFault
  faultTime : Option Nat
  faultCount : Nat
  deriving DecidableEq, Repr

/-! ### Lines and power supervision (chapter 11) -/

/-- The field lines as they stand: levels of the meter channels (true is high), detector inputs (true is active), the
permit line as the other parts and the wiring hold it (true is high), the power-fail warning (true is asserted), main
power, the reset line (true is low), and the straps. -/
structure Lines where
  channelA : PerRun Bool
  channelB : PerRun Bool
  d1 : Bool
  d2 : Bool
  permitHigh : Bool
  warning : Bool
  mainPower : Bool
  resetLow : Bool
  strapStation : Nat
  strapRate : BitRate
  deriving DecidableEq, Repr

def Lines.channel (l : Lines) (r : Run) : Channel → Bool
  | .a => l.channelA.get r
  | .b => l.channelB.get r

def Lines.setChannel (l : Lines) (r : Run) (c : Channel) (x : Bool) : Lines :=
  match c with
  | .a => { l with channelA := l.channelA.set r x }
  | .b => { l with channelB := l.channelB.set r x }

def Lines.detector (l : Lines) : Detector → Bool
  | .d1 => l.d1
  | .d2 => l.d2

def Lines.setDetector (l : Lines) (d : Detector) (x : Bool) : Lines :=
  match d with
  | .d1 => { l with d1 := x }
  | .d2 => { l with d2 := x }

inductive Power where
  | running | halted | unpowered
  deriving DecidableEq, Repr

/-- Power supervision (R189, R192 to R195): its state, whether the reset filter is QUALIFYING, whether the last start
came of an acceptance of the reset line, whether the period in progress is the first full period after a warm start, and
the seconds since the last start. -/
structure Supply where
  power : Power
  resetQualifying : Bool
  byReset : Bool
  firstPeriod : Bool
  seconds : Nat
  deriving DecidableEq, Repr

/-! ### The retention store (R192) -/

/-- The retention store: the format mark and the agreement of its check code with its contents, and the retained
state. -/
structure Store where
  formatMark : Bool
  codeAgrees : Bool
  runs : PerRun RunTotals
  lastBoundary : Nat
  snapshot : Option Snapshot
  substitutes : Vector Int 16
  grades : Vector (Option GradeEntry) 16
  gradesCode : Code
  queue : List BatchEntry
  active : Option ActiveBatch
  slots : List Ticket
  held : Option Ticket
  ticketCounter : Nat
  proverEnabled : Bool
  record : Option ProvingRecord
  results : PerRun (Option ProvingRecord)
  history : List ProvingRecord
  provingCounter : Nat
  curves : PerRun (List CurvePoint)
  pendingCurves : PerRun (Option (List CurvePoint))
  station : Slot StationBlock
  prover : Slot ProverBlock
  points : Slot PointsBlock
  runBlocks : PerRun (Slot RunBlock)
  audit : List AuditEntry
  auditCounter : Code
  deriving DecidableEq, Repr

end Sys2Proof.Machine
end

