-- ==== Sys2Proof/Machine/Arith.lean ====
section
/-! DEFINITION. Rounding and the exact arithmetic shared by the period calculation and the proving (00_scope 4.2, R51, R110): exact rationals, rounded explicitly at the end with halves away from zero. -/

namespace Sys2Proof.Machine

open Sys2Proof

/-- Rounds to the nearest whole number with halves away from zero (00_scope 4.2). -/
def roundHalf (x : Rat) : Int :=
  if 0 ≤ x then (x + 1 / 2).floor else -((-x + 1 / 2).floor)

/-- Rounds x to n decimals and gives the result in units of the last decimal. -/
def roundTo (n : Nat) (x : Rat) : Int := roundHalf (x * (10 : Rat) ^ n)

/-- Rounds a value in thousandths to the nearest multiple of `step` thousandths, halves away from zero. -/
def roundMilli (step : Nat) (x : Rat) : Int := roundHalf (x / (step : Rat)) * (step : Int)

/-- Thousandths as an exact value. -/
def ofMilli (x : Int) : Rat := (x : Rat) / 1000

/-- CTL of R51 and R110: 1 − α·(T − 15.00), round5, in 0.00001; α in 10⁻⁷, T in thousandths. -/
def ctlFactor (alpha : Nat) (t : Int) : Int :=
  roundTo 5 (1 - (alpha : Rat) / 10000000 * ofMilli (t - Config.referenceTemperature))

/-- CPL of R51 and R110: 1 / (1 − F·P), round5, in 0.00001; F in 10⁻⁷, P in thousandths. -/
def cplFactor (f : Nat) (p : Int) : Int :=
  let d : Rat := 1 - (f : Rat) / 10000000 * ofMilli p
  if d = 0 then Config.pressureFactor f p else roundTo 5 (1 / d)

/-- CTS of R110: 1 + γ·(Tp − 15.00), round5. -/
def ctsFactor (gamma : Nat) (t : Int) : Int :=
  roundTo 5 (1 + (gamma : Rat) / 10000000 * ofMilli (t - Config.referenceTemperature))

/-- CPS of R110: 1 + G·Pp, round5. -/
def cpsFactor (g : Nat) (p : Int) : Int :=
  roundTo 5 (1 + (g : Rat) / 10000000 * ofMilli p)

/-- A factor of five decimals as an exact value. -/
def factor5 (x : Int) : Rat := (x : Rat) / 100000

/-- CCF of R51: the product of the rounded CTL and CPL and of MF (0.0001), round5. -/
def ccfFactor (ctl cpl : Int) (mf : Nat) : Int :=
  roundTo 5 (factor5 ctl * factor5 cpl * ((mf : Rat) / 10000))

/-- IV of R49 in m³: n / K, K in 0.001 pulses/m³. -/
def indicatedVolume (n k : Nat) : Rat :=
  if k = 0 then Config.volumeOfZeroK n else (n : Rat) * 1000 / (k : Rat)

/-- q of R49, in 0.1 m³/h: IV / Pe × 3600 rounded; zero when Pe is zero. Pe in timing-counter counts. -/
def indicatedRate (iv : Rat) (pe : Nat) : Nat :=
  if pe = 0 then 0
  else (roundTo 1 (iv / ((pe : Rat) / (Config.countsPerSecond : Rat)) * 3600)).toNat

/-- Adds an increment to a total with the rollover of R57. -/
def addTotal (old : Nat) (inc : Int) : Nat :=
  let sum : Int := (old : Int) + inc
  if sum < 0 then Config.totalBelowZero old inc
  else if sum > (Config.totalMax : Int) then (sum - (Config.totalMax + 1 : Int)).toNat
  else sum.toNat

/-- Adds one to a count that stops at `top`. -/
def countUp (top n : Nat) : Nat := if n < top then n + 1 else n

/-- The station time of 00:00:00 on the day of a station time (R126, R198). -/
def dateOf (time : Nat) : Nat := time / 86400 * 86400

/-- The absolute difference of two naturals. -/
def absDiff (x y : Nat) : Nat := if x ≤ y then y - x else x - y

end Sys2Proof.Machine
end

