-- ==== Sys2Proof/Machine/Operands.lean ====
section
/-! DEFINITION. The encodings of R197 and R198: numbers, optional fields, text, enumerations and the two cyclic codes, written to characters and read from them. -/

namespace Sys2Proof.Machine

open Sys2Proof

/-! ### Numbers -/

/-- The low w characters of a number, most significant first. -/
def bigEndian : Nat → Nat → List Byte
  | 0, _ => []
  | w + 1, v => BitVec.ofNat 8 (v / 256 ^ w) :: bigEndian w v

/-- The characters of a value that does not fit its width: free values (log entry 11). -/
def overflowField (w : Nat) (v : Int) : List Byte :=
  (List.range w).map fun i => Config.overflowCharacter w v i

/-- A whole number in w characters, most significant first (R198). -/
def num (w v : Nat) : List Byte :=
  if v < 256 ^ w then bigEndian w v else overflowField w v

/-- A signed number in w characters, two's complement (R198). -/
def signed (w : Nat) (v : Int) : List Byte :=
  if -((256 ^ w / 2 : Nat) : Int) ≤ v ∧ v < ((256 ^ w / 2 : Nat) : Int) then
    bigEndian w (v % ((256 ^ w : Nat) : Int)).toNat
  else overflowField w v

/-- An exact quantity that cannot be negative by its rule, sent as a whole number of its unit. -/
def whole (w : Nat) (v : Int) : List Byte :=
  if 0 ≤ v then num w v.toNat else overflowField w v

/-- A Bool as one character: 0 for no or clear, 1 for yes or set (log entry 20). -/
def flag (x : Bool) : List Byte := [if x then 1 else 0]

/-- An enumerated value as one character. -/
def enum (n : Nat) : List Byte := num 1 n

/-- An optional field (R198): the presence character, then the field, all zero when absent. -/
def optional (w : Nat) : Option (List Byte) → List Byte
  | none => 0 :: List.replicate w 0
  | some b => 1 :: b

/-- Text in w characters, zero characters after it (R198). -/
def text (w : Nat) (t : List Byte) : List Byte := t ++ List.replicate (w - t.length) 0

/-- A check code or sequence number in four characters. -/
def code (c : Code) : List Byte := bigEndian 4 c.toNat

/-- A timing-counter stamp in six characters. -/
def stamp (s : Stamp) : List Byte := bigEndian 6 s.toNat

/-- A list preceded by the one-character count of its entries (R199). -/
def counted (entries : List (List Byte)) : List Byte := num 1 entries.length ++ entries.flatten

/-- The number a character string spells, most significant character first. -/
def readNat (v : List Byte) : Nat := v.foldl (fun acc b => acc * 256 + b.toNat) 0

/-- The two's complement number a character string spells. -/
def readInt (v : List Byte) : Int :=
  let n := readNat v
  if n < 256 ^ v.length / 2 then (n : Int) else (n : Int) - ((256 ^ v.length : Nat) : Int)

/-- The w characters of a body at an offset. -/
def field (body : List Byte) (off w : Nat) : List Byte := (body.drop off).take w

/-- The number in the w characters of a body at an offset. -/
def numAt (body : List Byte) (off w : Nat) : Nat := readNat (field body off w)

/-- A field of exactly w characters as a number; none if its length is another. -/
def wireNat (w : Nat) (v : List Byte) : Option Nat := if v.length = w then some (readNat v) else none

/-- A field of exactly w characters as a signed number. -/
def wireInt (w : Nat) (v : List Byte) : Option Int := if v.length = w then some (readInt v) else none

/-- The text of a text field: what stands before the zero characters that end it. -/
def untext (v : List Byte) : List Byte := (v.reverse.dropWhile (· == 0)).reverse

/-- A printable character is one of 20 to 7E hexadecimal (R198). -/
def printable (b : Byte) : Bool := decide (0x20 ≤ b.toNat ∧ b.toNat ≤ 0x7E)

/-! ### Cyclic codes -/

/-- n shifts of the frame CRC register with the generator x¹⁶ + x¹² + x⁵ + 1 (R179). -/
def crc16Shift : Nat → BitVec 16 → BitVec 16
  | 0, r => r
  | n + 1, r => crc16Shift n (if r.msb then (r <<< 1) ^^^ 0x1021#16 else r <<< 1)

/-- One character into the frame CRC register, most significant bit first (R198). -/
def crc16Step (r : BitVec 16) (b : Byte) : BitVec 16 :=
  crc16Shift 8 (r ^^^ ((b.setWidth 16) <<< 8))

/-- The frame CRC of a character string (R179): register all ones at first, no final inversion (R198). -/
def crc16 (v : List Byte) : BitVec 16 := v.foldl crc16Step 0xFFFF#16

/-- n shifts of the check code register with the generator 04C11DB7 (R198). -/
def crc32Shift : Nat → Code → Code
  | 0, r => r
  | n + 1, r => crc32Shift n (if r.msb then (r <<< 1) ^^^ 0x04C11DB7#32 else r <<< 1)

/-- One character into the check code register, most significant bit first (R198). -/
def crc32Step (r : Code) (b : Byte) : Code :=
  crc32Shift 8 (r ^^^ ((b.setWidth 32) <<< 24))

/-- The check code of a character string (R198): register all ones at first, the final value inverted. -/
def checkCode (v : List Byte) : Code := ~~~ (v.foldl crc32Step 0xFFFFFFFF#32)

/-! ### Enumerations (R198: numbered from 0 in the order in which the owning rule lists the values) -/

def channelNumber : Channel → Nat
  | .a => 0
  | .b => 1

def detectorNumber : Detector → Nat
  | .d1 => 0
  | .d2 => 1

def testNumber : TestResult → Nat
  | .none => 0
  | .pass => 1
  | .fail => 2

def phaseNumber : DetectorPhase → Nat
  | .idle => 0
  | .qualifying => 1
  | .dead => 2

def kindNumber : PointKind → Nat
  | .temperature => 0
  | .pressure => 1
  | .water => 2

def kindOf (n : Nat) : Option PointKind :=
  match n with
  | 0 => some .temperature
  | 1 => some .pressure
  | 2 => some .water
  | _ => none

def classNumber : ConditionClass → Nat
  | .note => 0
  | .flag => 1
  | .trip => 2

def classOf (n : Nat) : Option ConditionClass :=
  match n with
  | 0 => some .note
  | 1 => some .flag
  | 2 => some .trip
  | _ => none

def pointStatusNumber : PointStatus → Nat
  | .none => 0
  | .good => 1
  | .range => 2
  | .stale => 3
  | .deviation => 4

def serviceNumber : Service → Nat
  | .opened => 0
  | .closed => 1

def changeNumber : BatchChange → Nat
  | .none => 0
  | .start => 1
  | .ends => 2
  | .cutover => 3

def closeNumber : CloseCause → Nat
  | .hostEnd => 0
  | .hostCutover => 1
  | .nomination => 2

def integrityNumber : Integrity → Nat
  | .failed => 0
  | .degraded => 1
  | .sound => 2

def recordStateNumber : RecordState → Nat
  | .aligning => 0
  | .armed => 1
  | .pass => 2
  | .tail => 3
  | .turn => 4
  | .complete => 5
  | .failed => 6
  | .aborted => 7

/-- The cause codes of R201. -/
def causeNumber : EndCause → Nat
  | .repeatability => 1
  | .mfRange => 2
  | .alignTimeout => 3
  | .launchTimeout => 4
  | .passTimeout => 5
  | .sequence => 6
  | .runFailed => 7
  | .runClosed => 8
  | .cancelled => 9
  | .gradeChange => 10
  | .configChanged => 11
  | .power => 12

def decisionNumber : Option Decision → Nat
  | none => 0
  | some .accepted => 1
  | some .rejected => 2

/-- The outcome codes of R201. -/
def outcomeNumber : Option DiscardReason → Nat
  | none => 0
  | some .readingInvalid => 1
  | some .flowUnstable => 2
  | some .runDegraded => 3

def rateNumber : BitRate → Nat
  | .b9600 => 0
  | .b19200 => 1
  | .b38400 => 2
  | .b57600 => 3
  | .b115200 => 4

def statusNumber : Status → Nat
  | .ok => 0
  | .frameLength => 1
  | .unknownType => 2
  | .badField => 3
  | .badState => 4
  | .queueFull => 5
  | .duplicate => 6
  | .notFound => 7
  | .notOldest => 8
  | .storeFull => 9
  | .auditFull => 10
  | .gradeInUse => 11
  | .curveFull => 12
  | .deviationUnconfirmed => 13
  | .configInvalid => 14

def faultNumber : FrameFault → Nat
  | .none => 0
  | .crc => 1
  | .length => 2
  | .gap => 3
  | .replyAbandoned => 4

/-- Blocks are numbered 0 to 7 in the order of the verification rotation (R198). -/
def blockNumber : BlockId → Nat
  | .station => 0
  | .prover => 1
  | .points => 2
  | .grades => 3
  | .run .r1 => 4
  | .run .r2 => 5
  | .run .r3 => 6
  | .run .r4 => 7

def blockOf (n : Nat) : Option BlockId :=
  match n with
  | 0 => some .station
  | 1 => some .prover
  | 2 => some .points
  | 3 => some .grades
  | 4 => some (.run .r1)
  | 5 => some (.run .r2)
  | 6 => some (.run .r3)
  | 7 => some (.run .r4)
  | _ => none

/-- Condition kinds are numbered 0 to 18 in the order of the conditions table (R198). -/
def conditionKindNumber : ConditionId → Nat
  | .run k _ => runKindIndex k
  | .station k => 13 + stationKindIndex k

/-- Scopes are 0 for the station and 1 to 4 for the runs (R198). -/
def conditionScopeNumber : ConditionId → Nat
  | .run _ r => runNumber r
  | .station _ => 0

/-- The record a kind and a scope name (R146), if they name one. -/
def conditionOf (kind scope : Nat) : Option ConditionId :=
  match allRunKinds[kind]? with
  | some k => (runOf scope).map (.run k)
  | none =>
    match allStationKinds[kind - 13]? with
    | some k => if scope = 0 then some (.station k) else none
    | none => none

/-! ### Point values (log entry 16): thousandths inside, the kind's resolution on the link -/

/-- One unit of a kind's resolution, in thousandths. -/
def kindStep : PointKind → Nat
  | .temperature => 10
  | .pressure => 1
  | .water => 10

/-- A value in the resolution of a kind, in thousandths. -/
def toMilli (k : PointKind) (raw : Int) : Int := raw * (kindStep k : Int)

/-- A value in thousandths, in the resolution of a kind, rounded half away from zero (R198). -/
def ofMilliTo (k : PointKind) (v : Int) : Int := roundHalf ((v : Rat) / (kindStep k : Rat))

/-- A point's value on the link: four characters, signed, in the resolution of the kind (R198). -/
def pointValue (k : PointKind) (v : Int) : List Byte := signed 4 (ofMilliTo k v)

/-- A temperature on the link: 0.01 °C in two characters, signed. -/
def temperature (v : Int) : List Byte := signed 2 (ofMilliTo .temperature v)

/-- A pressure on the link: 0.001 bar in four characters, signed. -/
def pressure (v : Int) : List Byte := signed 4 v

/-- A water content on the link: 0.01 % in two characters. -/
def water (v : Int) : List Byte := whole 2 (ofMilliTo .water v)

/-- The point a configured number names. Blocks in force name points 0 to 15 only (R160). -/
def pointIndex (n : Nat) : Fin 16 := Fin.ofNat 16 n

end Sys2Proof.Machine
end

