-- ==== Sys2Proof/Machine/Blocks.lean ====
section
/-! DEFINITION. The configuration blocks: their fields on the link, writing one staged field, the conditions CCOM judges, their check codes, and the factory blocks (R23, R41, R65, R97, R143, R158 to R160, R198). -/

namespace Sys2Proof.Machine

open Sys2Proof

/-! ### Fields in block field order (R160, R198) -/

/-- A RUN block's fields as CGET carries them. -/
def encodeRunBlock (b : RunBlock) : List Byte :=
  num 4 b.k ++ num 1 b.tempPoint ++ num 1 b.pressPoint ++ num 4 b.minRate ++ num 4 b.maxRate ++
  num 2 b.qualTime ++ num 2 b.w ++ num 1 b.l ++ num 1 b.m ++ num 2 b.noiseLimit ++ num 2 b.reverseLimit

/-- The STATION block's fields as CGET carries them. -/
def encodeStationBlock (b : StationBlock) : List Byte :=
  num 2 b.periodLength ++ num 1 b.waterPoint ++ num 1 b.defaultGrade ++
  (b.classes.toList.map fun c => enum (classNumber c)).flatten ++ num 2 b.holdTime ++ num 2 b.filterTime

/-- The PROVER block's fields as CGET carries them. -/
def encodeProverBlock (b : ProverBlock) : List Byte :=
  num 4 b.vb ++ num 4 b.gamma ++ num 4 b.g ++ num 1 b.tempPoint ++ num 1 b.pressPoint ++ num 2 b.debounce ++
  num 2 b.alignTimeout ++ num 2 b.launchTimeout ++ num 2 b.passTimeout ++ num 2 b.stability ++ num 2 b.deviation

/-- One point setup's ten fields. -/
def encodeSetup (s : PointSetup) : List Byte :=
  enum (kindNumber s.kind) ++ num 1 s.input ++ signed 4 s.spanLow ++ signed 4 s.spanHigh ++
  signed 4 s.validLow ++ signed 4 s.validHigh ++ num 2 s.integration ++ num 2 s.stale ++
  optional 1 (s.partner.map (num 1)) ++ signed 4 s.deviation

/-- The POINTS block's fields as CGET carries them: the setups, then the scan list with its count. -/
def encodePointsBlock (b : PointsBlock) : List Byte :=
  (b.setups.toList.map encodeSetup).flatten ++ counted (b.scanList.map (num 1))

/-- The four fields of a grade entry (R67). -/
def encodeGradeFields (name : List Byte) (alpha f rho : Nat) : List Byte :=
  text 12 name ++ num 4 alpha ++ num 4 f ++ num 2 rho

/-- One entry as the GRADES block code takes it (R198). -/
def encodeGradeForCode : Option GradeEntry → List Byte
  | none => 0 :: List.replicate 22 0
  | some e => 1 :: encodeGradeFields e.name e.alpha e.f e.rho

/-- The entry check code over an entry's four fields (R67). -/
def gradeEntryCode (name : List Byte) (alpha f rho : Nat) : Code :=
  checkCode (encodeGradeFields name alpha f rho)

/-- The GRADES block code over the sixteen entries (R198). -/
def gradesContentsCode (g : Vector (Option GradeEntry) 16) : Code :=
  checkCode (g.toList.map encodeGradeForCode).flatten

def runBlockCode (b : RunBlock) : Code := checkCode (encodeRunBlock b)
def stationBlockCode (b : StationBlock) : Code := checkCode (encodeStationBlock b)
def proverBlockCode (b : ProverBlock) : Code := checkCode (encodeProverBlock b)
def pointsBlockCode (b : PointsBlock) : Code := checkCode (encodePointsBlock b)

/-! ### Writing one staged field (R159). None: the field does not belong to the block, or its value is not of its form. -/

def putRunField (b : RunBlock) (g : FieldGroup) : Option RunBlock :=
  match g.index with
  | 0 => (wireNat 4 g.value).map fun x => { b with k := x }
  | 1 => (wireNat 1 g.value).map fun x => { b with tempPoint := x }
  | 2 => (wireNat 1 g.value).map fun x => { b with pressPoint := x }
  | 3 => (wireNat 4 g.value).map fun x => { b with minRate := x }
  | 4 => (wireNat 4 g.value).map fun x => { b with maxRate := x }
  | 5 => (wireNat 2 g.value).map fun x => { b with qualTime := x }
  | 6 => (wireNat 2 g.value).map fun x => { b with w := x }
  | 7 => (wireNat 1 g.value).map fun x => { b with l := x }
  | 8 => (wireNat 1 g.value).map fun x => { b with m := x }
  | 9 => (wireNat 2 g.value).map fun x => { b with noiseLimit := x }
  | 10 => (wireNat 2 g.value).map fun x => { b with reverseLimit := x }
  | _ => none

def putStationField (b : StationBlock) (g : FieldGroup) : Option StationBlock :=
  match g.index with
  | 0 => (wireNat 2 g.value).map fun x => { b with periodLength := x }
  | 1 => (wireNat 1 g.value).map fun x => { b with waterPoint := x }
  | 2 => (wireNat 1 g.value).map fun x => { b with defaultGrade := x }
  | 21 => (wireNat 2 g.value).map fun x => { b with holdTime := x }
  | 22 => (wireNat 2 g.value).map fun x => { b with filterTime := x }
  | i =>
    if h : i - 3 < 18 then
      (wireNat 1 g.value).bind fun x => (classOf x).map fun c => { b with classes := b.classes.set (i - 3) c h }
    else none

def putProverField (b : ProverBlock) (g : FieldGroup) : Option ProverBlock :=
  match g.index with
  | 0 => (wireNat 4 g.value).map fun x => { b with vb := x }
  | 1 => (wireNat 4 g.value).map fun x => { b with gamma := x }
  | 2 => (wireNat 4 g.value).map fun x => { b with g := x }
  | 3 => (wireNat 1 g.value).map fun x => { b with tempPoint := x }
  | 4 => (wireNat 1 g.value).map fun x => { b with pressPoint := x }
  | 5 => (wireNat 2 g.value).map fun x => { b with debounce := x }
  | 6 => (wireNat 2 g.value).map fun x => { b with alignTimeout := x }
  | 7 => (wireNat 2 g.value).map fun x => { b with launchTimeout := x }
  | 8 => (wireNat 2 g.value).map fun x => { b with passTimeout := x }
  | 9 => (wireNat 2 g.value).map fun x => { b with stability := x }
  | 10 => (wireNat 2 g.value).map fun x => { b with deviation := x }
  | _ => none

/-- A check partner on the link: an optional point number (R198; log entry 21 for its form). -/
def wirePartner (v : List Byte) : Option (Option Nat) :=
  match v with
  | [p, n] => if p = 1 then some (some n.toNat) else if p = 0 ∧ n = 0 then some none else none
  | _ => none

/-- A scan list on the link: its count, then its point numbers; at most 16 entries (R159, R198). -/
def wireScanList (v : List Byte) : Option (List Nat) :=
  match v with
  | n :: rest => if n.toNat ≤ 16 ∧ rest.length = n.toNat then some (rest.map (·.toNat)) else none
  | [] => none

/-- Field j of a point setup, in the order of R23. -/
def putSetupField (s : PointSetup) (j : Nat) (v : List Byte) : Option PointSetup :=
  match j with
  | 0 => (wireNat 1 v).bind fun x => (kindOf x).map fun k => { s with kind := k }
  | 1 => (wireNat 1 v).map fun x => { s with input := x }
  | 2 => (wireInt 4 v).map fun x => { s with spanLow := x }
  | 3 => (wireInt 4 v).map fun x => { s with spanHigh := x }
  | 4 => (wireInt 4 v).map fun x => { s with validLow := x }
  | 5 => (wireInt 4 v).map fun x => { s with validHigh := x }
  | 6 => (wireNat 2 v).map fun x => { s with integration := x }
  | 7 => (wireNat 2 v).map fun x => { s with stale := x }
  | 8 => (wirePartner v).map fun x => { s with partner := x }
  | 9 => (wireInt 4 v).map fun x => { s with deviation := x }
  | _ => none

/-- Field 10k + j is field j of point Pk, and field 160 the scan list (R198). -/
def putPointsField (b : PointsBlock) (g : FieldGroup) : Option PointsBlock :=
  if h : g.index / 10 < 16 then
    (putSetupField b.setups[g.index / 10] (g.index % 10) g.value).map fun s =>
      { b with setups := b.setups.set (g.index / 10) s h }
  else if g.index = 160 then (wireScanList g.value).map fun l => { b with scanList := l }
  else none

/-- Writes every group into a copy; none if one is unacceptable (R159: taken whole or refused whole). The groups are
written in their order, so of a field given twice the last value stands: the model's choice (log 51). -/
def putGroups {α : Type} (put : α → FieldGroup → Option α) : List FieldGroup → α → Option α
  | [], b => some b
  | g :: rest, b => (put b g).bind (putGroups put rest)

/-! ### The conditions CCOM judges, one for each field in field order (R160) -/

/-- A value lies in an inclusive range at a step counted from the low end. -/
def inRange (low high : Int) (v : Int) (step : Int := 1) : Bool :=
  decide (low ≤ v ∧ v ≤ high ∧ (v - low) % step = 0)

/-- A field names a point P0 to P15 of a kind, judged against the setups given. -/
def pointOfKind (setups : Vector PointSetup 16) (n : Nat) (k : PointKind) : Bool :=
  if h : n < 16 then decide (setups[n].kind = k) else false

def runConditions (setups : Vector PointSetup 16) (b : RunBlock) : List Bool :=
  [ inRange 1000 99999999 b.k,
    pointOfKind setups b.tempPoint .temperature,
    pointOfKind setups b.pressPoint .pressure,
    inRange 1 999999 b.minRate && decide (b.minRate < b.maxRate),
    inRange 1 999999 b.maxRate,
    inRange 1 100 b.qualTime,
    inRange 100 10000 b.w,
    inRange 0 50 b.l,
    inRange 1 15 b.m,
    inRange 0 1000 b.noiseLimit,
    inRange 0 1000 b.reverseLimit ]

/-- Whether a grade number names a HOLDING entry. -/
def gradeHolding (grades : Vector (Option GradeEntry) 16) (n : Nat) : Bool :=
  if h : n - 1 < 16 then decide (1 ≤ n) && (grades[n - 1]).isSome else false

def stationConditions (setups : Vector PointSetup 16) (grades : Vector (Option GradeEntry) 16) (b : StationBlock) :
    List Bool :=
  [ inRange 200 2000 b.periodLength 100,
    pointOfKind setups b.waterPoint .water,
    gradeHolding grades b.defaultGrade ] ++
  (List.range 13).map (fun _ => true) ++
  [ true,
    decide (b.classes[14] ≠ ConditionClass.trip),
    true, true, true,
    inRange 1 60 b.holdTime,
    inRange 20 2000 b.filterTime 10 ]

def proverConditions (setups : Vector PointSetup 16) (b : ProverBlock) : List Bool :=
  [ inRange 1000 100000 b.vb,
    inRange 100 500 b.gamma,
    inRange 1 100 b.g,
    pointOfKind setups b.tempPoint .temperature,
    pointOfKind setups b.pressPoint .pressure,
    inRange 1 50 b.debounce,
    inRange 60 3600 b.alignTimeout,
    inRange 30 1800 b.launchTimeout,
    inRange 10 600 b.passTimeout,
    inRange 5 100 b.stability,
    inRange 5 100 b.deviation ]

/-- The span and valid range limits of a kind, in its resolution (R23). -/
def kindRange : PointKind → Int × Int
  | .temperature => (-10000, 20000)
  | .pressure => (-1000, 200000)
  | .water => (0, 10000)

/-- The range of the deviation limit of a kind, in its resolution (R23). -/
def deviationRange : PointKind → Int × Int
  | .temperature => (1, 1000)
  | .pressure => (1, 10000)
  | .water => (1, 1000)

/-- The condition on the check partner of point i (R23). -/
def partnerCondition (setups : Vector PointSetup 16) (i : Nat) (s : PointSetup) : Bool :=
  match s.partner with
  | none => true
  | some p =>
    if h : p < 16 then
      decide (p ≠ i) && decide (setups[p].kind = s.kind) && decide (setups[p].partner = some i) &&
        decide (setups[p].deviation = s.deviation)
    else false

/-- The ten conditions of the setup of point i; `required` lists the points other blocks name, with the kinds they
require. -/
def setupConditions (setups : Vector PointSetup 16) (required : List (Nat × PointKind)) (i : Nat) (s : PointSetup) :
    List Bool :=
  let r := kindRange s.kind
  let d := deviationRange s.kind
  [ required.all fun q => decide (q.1 = i → q.2 = s.kind),
    inRange 0 15 s.input,
    inRange r.1 r.2 s.spanLow && decide (s.spanLow < s.spanHigh),
    inRange r.1 r.2 s.spanHigh,
    inRange r.1 r.2 s.validLow && decide (s.validLow < s.validHigh),
    inRange r.1 r.2 s.validHigh,
    decide (s.integration ∈ [10, 20, 40, 80]),
    inRange 1 60 s.stale,
    partnerCondition setups i s,
    inRange d.1 d.2 s.deviation ]

def pointsConditions (required : List (Nat × PointKind)) (b : PointsBlock) : List Bool :=
  (b.setups.toList.zipIdx.map fun e => setupConditions b.setups required e.2 e.1).flatten ++
  [ decide (b.scanList.length ≤ 16) && b.scanList.all (fun p => decide (p < 16)) && decide b.scanList.Nodup ]

/-- The offending field: the first whose condition fails (R160). -/
def offending : List Bool → Option Nat
  | [] => none
  | true :: rest => (offending rest).map (· + 1)
  | false :: _ => some 0

/-! ### Factory blocks -/

/-- The factory setup of point i (R41). -/
def factorySetup (i : Nat) : PointSetup :=
  if i = 10 then
    { kind := .water, input := i, spanLow := 0, spanHigh := 500, validLow := 0, validHigh := 500,
      integration := 40, stale := 10, partner := none, deviation := 10 }
  else if (4 ≤ i ∧ i ≤ 7) ∨ i = 9 then
    { kind := .pressure, input := i, spanLow := 0, spanHigh := 100000, validLow := 0, validHigh := 60000,
      integration := 40, stale := 10, partner := none, deviation := 500 }
  else
    { kind := .temperature, input := i, spanLow := -5000, spanHigh := 15000, validLow := -2000, validHigh := 8000,
      integration := 40, stale := 10, partner := none, deviation := 50 }

/-- The factory POINTS block (R41): an empty scan list. -/
def factoryPoints : PointsBlock :=
  { setups := Vector.ofFn fun i => factorySetup i, scanList := [] }

/-- The factory RUN block (R65, section 1.1): temperature point P(r−1), pressure point P(r+3). -/
def factoryRun (r : Run) : RunBlock :=
  { k := 1000000, tempPoint := runNumber r - 1, pressPoint := runNumber r + 3, minRate := 10, maxRate := 999999,
    qualTime := 10, w := 1000, l := 2, m := 3, noiseLimit := 10, reverseLimit := 5 }

/-- The factory STATION block (R65, R143): every class FLAG. -/
def factoryStation : StationBlock :=
  { periodLength := 500, waterPoint := 10, defaultGrade := 1, classes := Vector.replicate 18 .flag,
    holdTime := 10, filterTime := 200 }

/-- The factory PROVER block (R97). -/
def factoryProver : ProverBlock :=
  { vb := 8000, gamma := 335, g := 40, tempPoint := 8, pressPoint := 9, debounce := 5, alignTimeout := 600,
    launchTimeout := 300, passTimeout := 120, stability := 20, deviation := 25 }

/-- Grade 1 after a cold start (R67). -/
def factoryGrade : GradeEntry :=
  { name := [], alpha := 9000, f := 800, rho := 8600, code := gradeEntryCode [] 9000 800 8600 }

/-- The grade table after a cold start (R67). -/
def factoryGrades : Vector (Option GradeEntry) 16 :=
  Vector.ofFn fun i => if i.val = 0 then some factoryGrade else none

/-- The substitute value after a cold start, in thousandths (R36), by the kind of the factory POINTS block. -/
def factorySubstitute : PointKind → Int
  | .temperature => 15000
  | .pressure => 0
  | .water => 0

end Sys2Proof.Machine
end

