-- ==== Sys2Proof/Machine/Factory.lean ====
section
/-! DEFINITION. The values a start gives: the factory retention store of a cold start and the fresh state of each block's part that is not retained (R22, R41, R65, R84, R96, R125, R140, R157, R172, R188, R192). -/

namespace Sys2Proof.Machine

open Sys2Proof

def zeroTotals : Totals := { iv := 0, gsv := 0, nsv := 0, mass := 0, pulses := 0 }

def zeroSplit : Split := { good := zeroTotals, flagged := zeroTotals }

def zeroResidues : Residues := { iv := 0, gsv := 0, nsv := 0, mass := 0 }

def zeroSums : WeightedSums := { iv := 0, tIV := 0, pIV := 0, mfIV := 0, gsv := 0, wGSV := 0 }

/-- A run's totals after a cold start (R59, R65). -/
def factoryTotals : RunTotals :=
  { cumulative := zeroSplit, reverse := 0, noBatch := zeroSplit, residues := zeroResidues, service := .closed,
    pendingService := none }

/-- The retention store as a cold start writes it at a station time (R192 and the start table of each chapter). -/
def factoryStore (time : Nat) : Store :=
  { formatMark := true
    codeAgrees := true
    runs := PerRun.tab fun _ => factoryTotals
    lastBoundary := time
    snapshot := none
    substitutes := Vector.ofFn fun i => factorySubstitute (factorySetup i).kind
    grades := factoryGrades
    gradesCode := gradesContentsCode factoryGrades
    queue := []
    active := none
    slots := []
    held := none
    ticketCounter := 1
    proverEnabled := true
    record := none
    results := PerRun.tab fun _ => none
    history := []
    provingCounter := 1
    curves := PerRun.tab fun _ => []
    pendingCurves := PerRun.tab fun _ => none
    station := { current := factoryStation, pending := none, code := stationBlockCode factoryStation }
    prover := { current := factoryProver, pending := none, code := proverBlockCode factoryProver }
    points := { current := factoryPoints, pending := none, code := pointsBlockCode factoryPoints }
    runBlocks := PerRun.tab fun r =>
      { current := factoryRun r, pending := none, code := runBlockCode (factoryRun r) }
    audit := []
    auditCounter := 1 }

/-- A pulse channel after a start (R22). -/
def freshChannel : PulseChannel :=
  { qualifying := none, forward := 0, reverse := 0, window := 0, noise := 0, silence := 0, lost := false }

/-- A run's pulse state after a start (R22): a newly opened window under the current RUN block (R7). -/
def freshRunPulse (b : RunBlock) : RunPulse :=
  { a := freshChannel, b := freshChannel, counting := .a, w := b.w, l := b.l, noiseLimit := b.noiseLimit,
    mismatch := 0, matched := 0, testMark := false, lastTest := .none, lastTestTime := none }

def freshDetector : DetectorState := { phase := .idle, debounce := 0, last := none }

/-- The pulse input unit after a start (R22). -/
def freshPulse (st : Store) : PulseUnit :=
  { runs := PerRun.tab fun r => freshRunPulse (st.runBlocks.get r).current, d1 := freshDetector, d2 := freshDetector }

def freshPoint : PointState := { reading := none, status := .none, staleTimer := none }

/-- The scanner after a start, before its first conversion starts (R41). -/
def freshScanner : Scanner :=
  { converter := none, position := 0, active := none, waiting := none, refused := 0,
    points := Vector.replicate 16 freshPoint }

/-- The totalizer's part that is not retained after a start (R65): the period timer started with the current period
length. -/
def freshTotalizer (st : Store) : Totalizer :=
  { periodLength := st.station.current.periodLength, periodStart := 0, clockSet := none, unsound := PerRun.tab fun _ => false,
    last := PerRun.tab fun _ => none }

/-- The configuration unit's part that is not retained after a start (R172). -/
def freshWork : ConfigWork :=
  { stagedStation := none, stagedProver := none, stagedPoints := none, stagedRuns := PerRun.tab fun _ => none,
    markStation := false, markProver := false, markPoints := false, markGrades := false,
    markRuns := PerRun.tab fun _ => false, rotation := .station }

/-- The integrity monitor at a start, before the starting judgement (R157). -/
def freshMonitor : Monitor := { table := clearTable, withdrawn := false, hold := none, filter := none, seen := none }

/-- The station link after a start, with the straps read (R188). -/
def freshLink (l : Lines) : Link :=
  { station := l.strapStation, rate := l.strapRate, receiver := .waiting, silence := some 0, reply := .none,
    sent := [], fault := .none, faultTime := none, faultCount := 0 }

/-- The lines of the reset state (log entry 2): meter channels low, detectors inactive, permit line high, warning
deasserted, main power present, reset line high, straps of station 1 at 9600 bit/s. -/
def resetLines : Lines :=
  { channelA := PerRun.tab fun _ => false, channelB := PerRun.tab fun _ => false, d1 := false, d2 := false,
    permitHigh := true, warning := false, mainPower := true, resetLow := false, strapStation := 1,
    strapRate := .b9600 }

/-- The monitor of the reset state: RETENTION_LOST active since station time 0, the permit withdrawn and the hold timer
running for the factory 10 s (R157, R195). -/
def resetMonitor : Monitor :=
  { table := clearTable.set (.station .retentionLost)
      { active := true, latched := true, count := 1, lastOn := some 0, lastOff := none }
    withdrawn := true
    hold := some { started := 0, length := 10 }
    filter := none
    seen := none }

end Sys2Proof.Machine
end

