-- ==== Sys2Proof/Machine/State.lean ====
section
/-! DEFINITION. State: every piece of state the manual gives the part, as plain data, with the queue of waiting commands; the reset state; the reasons a step can stop; and one named update per field. -/

namespace Sys2Proof.Machine

open Sys2Proof

/-- The part. -/
structure State where
  /-- the field lines as they stand -/
  lines : Lines
  /-- power supervision (R189, R193 to R195) -/
  supply : Supply
  /-- the station clock: whole seconds since 2000-01-01 00:00:00 (R45) -/
  clock : Nat
  /-- the 48-bit timing counter (R16) -/
  counter : Stamp
  /-- the retention store: all retained state (R192) -/
  store : Store
  /-- the pulse input unit (chapter 1) -/
  pulse : PulseUnit
  /-- the measurement scanner (chapter 2) -/
  scanner : Scanner
  /-- period timer, period flags in the making, last period results (chapter 3) -/
  totalizer : Totalizer
  /-- the batch sequencer's pending change (R75) -/
  change : BatchChange
  /-- the proving queue, oldest first (R99) -/
  requests : List ProvingRequest
  /-- staged copies, mismatch marks, rotation position (R158, R165) -/
  work : ConfigWork
  /-- the integrity monitor (chapter 8) -/
  monitor : Monitor
  /-- the station link (chapter 10) -/
  link : Link
  /-- the commands waiting, first in first out (the model's own) -/
  pending : List Instr
  deriving DecidableEq, Repr

/-- Reasons to stop with a fault. There is none: every command of the table has an effect, or is no event, in every
state, and what the manual leaves unstated is a value, not a stop. The type stays closed and empty. -/
inductive Fault where
  deriving DecidableEq, Repr

/-- Reasons to refuse a command. -/
inductive Refusal where
  /-- Raised by exec alone, for a command that has no meaning yet; no command is left so. Safe: nothing can be proved
  about a state that is never reached. -/
  | notModelled (mnemonic : String)
  deriving DecidableEq, Repr

/-- The part after its first start, which is cold (R192): RUNNING on factory values, RETENTION_LOST active, the permit
withdrawn, the receiver WAITING, and no command waiting. The starts of the power chapter lead to this state from an
unpowered part whose backup memory holds no format mark. -/
def State.reset : State :=
  { lines := resetLines
    supply := { power := .running, resetQualifying := false, byReset := false, firstPeriod := false, seconds := 0 }
    clock := 0
    counter := 0
    store := factoryStore 0
    pulse := freshPulse (factoryStore 0)
    scanner := freshScanner
    totalizer := { freshTotalizer (factoryStore 0) with unsound := PerRun.tab fun _ => true }
    change := .none
    requests := []
    work := freshWork
    monitor := resetMonitor
    link := freshLink resetLines
    pending := [] }

/-! ### One named update per field -/

def State.withLines (s : State) (x : Lines) : State := { s with lines := x }
def State.withSupply (s : State) (x : Supply) : State := { s with supply := x }
def State.withClock (s : State) (x : Nat) : State := { s with clock := x }
def State.withCounter (s : State) (x : Stamp) : State := { s with counter := x }
def State.withStore (s : State) (x : Store) : State := { s with store := x }
def State.withPulse (s : State) (x : PulseUnit) : State := { s with pulse := x }
def State.withScanner (s : State) (x : Scanner) : State := { s with scanner := x }
def State.withTotalizer (s : State) (x : Totalizer) : State := { s with totalizer := x }
def State.withChange (s : State) (x : BatchChange) : State := { s with change := x }
def State.withRequests (s : State) (x : List ProvingRequest) : State := { s with requests := x }
def State.withWork (s : State) (x : ConfigWork) : State := { s with work := x }
def State.withMonitor (s : State) (x : Monitor) : State := { s with monitor := x }
def State.withLink (s : State) (x : Link) : State := { s with link := x }
def State.withPending (s : State) (x : List Instr) : State := { s with pending := x }

end Sys2Proof.Machine
end

