-- ==== Sys2Proof/Machine/Ops.lean ====
section
/-! DEFINITION. Shared operations over State: the timing counter, the blocks in force, points and their effective values, cumulative figures, filing a proving record that leaves the prover, and audit entries. -/

namespace Sys2Proof.Machine

open Sys2Proof

/-- The part has started and takes commands (R189). -/
def State.running (s : State) : Bool := decide (s.supply.power = .running)

/-- The timing counter runs on by dt counts while the part is RUNNING, modulo 2⁴⁸ (R16). -/
def advance (dt : Nat) (s : State) : State :=
  if s.running then s.withCounter (s.counter + BitVec.ofNat 48 dt) else s

/-- The wrapper of a command that is an event only while the part is RUNNING. -/
def whileRunning (dt : Nat) (f : State → State) (s : State) : State :=
  if s.running then f (advance dt s) else s

/-- Whether an interval begun at a stamp began at this very instant. It has not ended: an expiry or a completion taken now
belongs to the interval it replaced, and is no event (R29, R34, R150, R178; log entry 4). -/
def State.beginsNow (s : State) (t : Stamp) : Bool := decide (t = s.counter)

/-- Whether this is the instant of an acceptance of the reset line (R192, log entry 43): the last start came of one, and
no timing-counter count and no second has passed since. An update of the retention store taken at it, second, is not
made. -/
def State.resetInstant (s : State) : Bool :=
  s.running && s.supply.byReset && decide (s.counter = 0) && decide (s.supply.seconds = 0)

/-! ### The blocks in force -/

def State.runBlock (s : State) (r : Run) : RunBlock := (s.store.runBlocks.get r).current
def State.stationBlock (s : State) : StationBlock := s.store.station.current
def State.proverBlock (s : State) : ProverBlock := s.store.prover.current
def State.pointsBlock (s : State) : PointsBlock := s.store.points.current
def State.setup (s : State) (p : Fin 16) : PointSetup := s.pointsBlock.setups[p]

/-! ### Nested updates -/

def State.setRunPulse (s : State) (r : Run) (x : RunPulse) : State :=
  s.withPulse { s.pulse with runs := s.pulse.runs.set r x }

def State.setDetector (s : State) (d : Detector) (x : DetectorState) : State :=
  s.withPulse (s.pulse.setDetector d x)

def State.setPoint (s : State) (p : Fin 16) (x : PointState) : State :=
  s.withScanner { s.scanner with points := s.scanner.points.set p x }

def State.setRunTotals (s : State) (r : Run) (x : RunTotals) : State :=
  s.withStore { s.store with runs := s.store.runs.set r x }

def State.setRecord (s : State) (x : Option ProvingRecord) : State := s.withStore { s.store with record := x }

def State.setActive (s : State) (x : Option ActiveBatch) : State := s.withStore { s.store with active := x }

/-! ### Points -/

/-- The effective value of a point, in thousandths (R35): the latest reading if the status is GOOD, and otherwise the
substitute value. -/
def State.effective (s : State) (p : Fin 16) : Int :=
  let q := s.scanner.points[p]
  match q.status, q.reading with
  | .good, some x => x.value
  | _, _ => s.store.substitutes[p]

/-- A point's status. -/
def State.pointStatus (s : State) (p : Fin 16) : PointStatus := s.scanner.points[p].status

/-! ### Cumulative figures -/

/-- A run's cumulative GSV: the sum of its GOOD and FLAGGED sets (R60, R133, R161). -/
def State.cumulativeGSV (s : State) (r : Run) : Nat :=
  (s.store.runs.get r).cumulative.good.gsv + (s.store.runs.get r).cumulative.flagged.gsv

/-- The batch's total GSV over the four runs (R80). -/
def batchGSV (b : ActiveBatch) : Nat :=
  (b.runs.list.map fun x => x.acc.good.gsv + x.acc.flagged.gsv).sum

/-- The grade of the period in progress: the active batch's, or the default grade (R48, R102). -/
def State.gradeNow (s : State) : Nat :=
  match s.store.active with
  | some b => b.entry.grade
  | none => s.stationBlock.defaultGrade

/-- The entry of a grade number, if HOLDING. -/
def State.gradeEntry (s : State) (g : Nat) : Option GradeEntry :=
  if h : g - 1 < 16 then (if 1 ≤ g then s.store.grades[g - 1] else none) else none

/-- The coefficients α, F and ρref of a grade as the entry stands (R48). -/
def State.coefficients (s : State) (g : Nat) : Nat × Nat × Nat :=
  match s.gradeEntry g with
  | some e => (e.alpha, e.f, e.rho)
  | none => (Config.emptyAlpha g, Config.emptyF g, Config.emptyRho g)

/-! ### A proving record leaving the prover -/

/-- Enters a record at the newest end of the history, dropping the oldest beyond four (R122). -/
def pushHistory (h : List ProvingRecord) (r : ProvingRecord) : List ProvingRecord :=
  (h ++ [r]).drop (h.length + 1 - Config.historyCapacity)

/-- The record holding the prover leaves it ABORTED or FAILED with a cause, and enters the history (R102, R122).
Nothing happens if no record holds the prover. That the round in progress is dropped is the model's choice (log 48). -/
def endRecord (state : RecordState) (cause : EndCause) (s : State) : State :=
  match s.store.record with
  | none => s
  | some r =>
    let ended : ProvingRecord :=
      { r with state := state, cause := some cause, ended := some s.clock, current := none }
    s.withStore { s.store with record := none, history := pushHistory s.store.history ended }

/-- Aborts the record holding the prover. -/
def abortRecord (cause : EndCause) (s : State) : State := endRecord .aborted cause s

/-- Marks the round in progress of a record, if there is one. -/
def markRound (f : RoundMarks → RoundMarks) (r : ProvingRecord) : ProvingRecord :=
  match r.current with
  | none => r
  | some c => { r with current := some { c with marks := f c.marks } }

/-! ### Requests -/

/-- A request's answer: the status, the reply body, and whether a restart is owed at the reply's end (R181, R187). -/
structure Answer where
  status : Status
  body : List Byte := []
  restart : Bool := false
  deriving DecidableEq, Repr

/-- An OK answer with a body. -/
def ok (body : List Byte := []) : Answer := { status := .ok, body := body }

/-- A refusal: no effect, an empty body (R181, R185). -/
def refuse (s : State) (st : Status) : State × Answer := (s, { status := st })

/-- The reply body of a reading request (R199): the part number, the last part number, and the stretch of the record
stream; BAD_FIELD beyond the last part. -/
def partBody (stream : List Byte) (p : Nat) : Answer :=
  let last := (stream.length - 1) / 238
  if last < p then { status := .badField }
  else ok (num 1 p ++ num 1 last ++ (stream.drop (238 * p)).take 238)

/-- A reading request that changes no state. -/
def read (stream : List Byte) (p : Nat) (s : State) : State × Answer := (s, partBody stream p)

end Sys2Proof.Machine
end

