-- ==== Sys2Proof/Machine/Flags.lean ====
section
/-! DEFINITION. The integrity monitor: judgements, integrity states, what a change of state hands on, the permit line, and the audit entries that depend on a condition (R142 to R157, R167, R169). -/

namespace Sys2Proof.Machine

open Sys2Proof

/-! ### Classes and integrity states -/

/-- The class of a condition under a STATION block; RETENTION_LOST is fixed at TRIP (R143). -/
def conditionClass (b : StationBlock) : ConditionId → ConditionClass
  | .run k _ => b.classes[(runKindIndex k).val]'(Nat.lt_of_lt_of_le (runKindIndex k).isLt (by decide))
  | .station .retentionLost => .trip
  | .station .waterSubstituted => b.classes[13]
  | .station .externalTrip => b.classes[14]
  | .station .ticketStoreFull => b.classes[15]
  | .station .stationConfigCheck => b.classes[16]
  | .station .powerInterrupted => b.classes[17]

/-- The records of a scope, in table order. -/
def runConditionIds (r : Run) : List ConditionId := allRunKinds.map fun k => .run k r

def stationConditionIds : List ConditionId := allStationKinds.map .station

/-- The 58 records (R141). Run 1 to 4, each by kind, then the station, is the model's order (log 52). -/
def allConditionIds : List ConditionId :=
  (allRuns.map runConditionIds).flatten ++ stationConditionIds

/-- Whether a record of a list is active with a class. -/
def anyActive (t : ConditionTable) (b : StationBlock) (c : ConditionClass) (ids : List ConditionId) : Bool :=
  ids.any fun i => (t.get i).active && decide (conditionClass b i = c)

/-- A run's integrity state from the active records and the classes (R145). -/
def integrityOf (t : ConditionTable) (b : StationBlock) (r : Run) : Integrity :=
  let ids := runConditionIds r ++ stationConditionIds
  if anyActive t b .trip ids then .failed
  else if anyActive t b .flag ids then .degraded
  else .sound

/-- A run's integrity state under the classes in force (R144, R145). -/
def State.integrity (s : State) (r : Run) : Integrity := integrityOf s.monitor.table s.stationBlock r

def State.integrities (s : State) : PerRun Integrity := PerRun.tab s.integrity

/-- Whether any TRIP-class condition is active. -/
def State.tripActive (s : State) : Bool := anyActive s.monitor.table s.stationBlock .trip allConditionIds

/-- Whether a condition is active. -/
def State.active (s : State) (i : ConditionId) : Bool := (s.monitor.table.get i).active

/-! ### Handing on a change of integrity state (R145) -/

/-- The totalizer's part: the period in progress holds an instant at which the run was not SOUND (R55). -/
def markUnsound (r : Run) (s : State) : State :=
  s.withTotalizer { s.totalizer with unsound := s.totalizer.unsound.set r true }

/-- The prover controller's part: FAILED aborts the run's record, DEGRADED marks its round (R112). -/
def proverFollows (r : Run) (new : Integrity) (s : State) : State :=
  match s.store.record with
  | none => s
  | some rec =>
    if rec.request.run = r then
      match new with
      | .failed => abortRecord .runFailed s
      | .degraded => s.setRecord (some (markRound (fun m => { m with runDegraded := true }) rec))
      | .sound => s
    else s

/-- Hands on one run's change, if its state changed. -/
def handRun (old : PerRun Integrity) (s : State) (r : Run) : State :=
  let new := s.integrity r
  if new = old.get r then s
  else
    let s1 := if new = .sound then s else markUnsound r s
    proverFollows r new s1

/-- Hands on every run's change since the states `old`. -/
def handChanges (old : PerRun Integrity) (s : State) : State := allRuns.foldl (handRun old) s

/-! ### Judgements (R142) -/

/-- The record after an activation at a station time. -/
def activated (t : Nat) (c : ConditionRecord) : ConditionRecord :=
  { c with active := true, latched := true, count := countUp 255 c.count, lastOn := some t }

/-- The record after a deactivation at a station time. -/
def deactivated (t : Nat) (c : ConditionRecord) : ConditionRecord := { c with active := false, lastOff := some t }

/-- Takes a judgement against the record alone and hands on the changes of integrity state; nothing happens where the
judgement agrees with the record (R142, R145). -/
def setCondition (i : ConditionId) (on : Bool) (s : State) : State :=
  let c := s.monitor.table.get i
  if c.active = on then s
  else
    let c' := if on then activated s.clock c else deactivated s.clock c
    handChanges s.integrities (s.withMonitor { s.monitor with table := s.monitor.table.set i c' })

/-! ### The permit line -/

/-- A TRIP-class activation (R148): the part withdraws, or stays withdrawn, and the hold timer starts or restarts with
the hold time in force; a running external filter is abandoned (R151). -/
def withdraw (s : State) : State :=
  s.withMonitor { s.monitor with
    withdrawn := true
    hold := some { started := s.counter, length := s.stationBlock.holdTime }
    filter := none }

/-- Reads the permit line while PERMIT (R153, R157): high judges EXTERNAL_TRIP inactive, low starts the external filter
with the full filter time. -/
def readLine (s : State) : State :=
  let s1 := s.withMonitor { s.monitor with seen := some s.lines.permitHigh }
  if s.lines.permitHigh then setCondition (.station .externalTrip) false s1
  else s1.withMonitor { s1.monitor with filter := some { started := s1.counter, length := s1.stationBlock.filterTime } }

/-- The part releases the line, becomes PERMIT and reads the line (R149, R153). -/
def release (s : State) : State := readLine (s.withMonitor { s.monitor with withdrawn := false })

/-- Releases the line at the first instant at which the hold timer is not running and no TRIP-class condition is
active (R149). -/
def releaseIfFree (s : State) : State :=
  if s.monitor.withdrawn && s.monitor.hold.isNone && !s.tripActive then release s else s

/-- Takes a judgement (R142) with what it does to the permit line: an activation of class TRIP withdraws (R148), a
deactivation may release (R149). -/
def judge (i : ConditionId) (on : Bool) (s : State) : State :=
  if s.active i = on then s
  else
    let s1 := setCondition i on s
    if on then (if conditionClass s.stationBlock i = .trip then withdraw s1 else s1)
    else releaseIfFree s1

/-- Brings a STATION block's classes into force (R144): states derived afresh, and the permit line reconsidered. -/
def applyClasses (oldBlock : StationBlock) (old : PerRun Integrity) (s : State) : State :=
  let s1 := handChanges old s
  if allConditionIds.any fun i =>
      s1.active i && decide (conditionClass s1.stationBlock i = .trip) && decide (conditionClass oldBlock i ≠ .trip)
  then withdraw s1
  else releaseIfFree s1

/-! ### The audit trail -/

/-- Whether RETENTION_LOST is active. -/
def State.retentionLost (s : State) : Bool := s.active (.station .retentionLost)

/-- Whether an entry is free to a request other than the retention acknowledgement (R169). -/
def State.auditFree (s : State) : Bool :=
  decide (s.store.audit.length < (if s.retentionLost then Config.auditCapacity - 1 else Config.auditCapacity))

/-- Makes an audit entry with the next sequence number (R167, R168). -/
def addAudit (scope : Option Run) (d : AuditData) (s : State) : State :=
  let e : AuditEntry := { seq := s.store.auditCounter, time := s.clock, scope := scope, data := d }
  s.withStore { s.store with audit := s.store.audit ++ [e], auditCounter := s.store.auditCounter + 1 }

end Sys2Proof.Machine
end

