-- ==== Sys2Proof/Machine/Curve.lean ====
section
/-! DEFINITION. Meter factor curves: bands, lookups, placing and deleting points, and the changes of a pending curve (chapter 7). -/

namespace Sys2Proof.Machine

open Sys2Proof

/-- A rate lies in the band of another (R127): the difference is at most five hundredths of the lower. -/
def inBand (x y : Nat) : Bool := decide (absDiff x y * 100 ≤ 5 * min x y)

/-- Successive rates are more than 5 % apart: the higher exceeds the lower by more than five hundredths of the lower
(R126). -/
def farApart (low high : Nat) : Bool := decide (low < high ∧ (high - low) * 100 > 5 * low)

/-- The form of a curve (R126): at most 8 points, rates rising and more than 5 % apart, every MF in 0.8000 to 1.2000. -/
def curveSpaced : List CurvePoint → Bool
  | [] => true
  | [_] => true
  | p :: q :: rest => farApart p.rate q.rate && curveSpaced (q :: rest)

def curveForm (c : List CurvePoint) : Bool :=
  decide (c.length ≤ Config.curveCapacity) && curveSpaced c && c.all fun p => decide (8000 ≤ p.mf ∧ p.mf ≤ 12000)

/-- Linear interpolation between two points, rounded to 4 decimals (R128). -/
def interpolate (p1 p2 : CurvePoint) (q : Nat) : Nat :=
  let x : Rat := ((q : Rat) - (p1.rate : Rat)) / ((p2.rate : Rat) - (p1.rate : Rat))
  (roundHalf ((p1.mf : Rat) + x * ((p2.mf : Rat) - (p1.mf : Rat)))).toNat

/-- The lookup from a point on whose rate q is above or equal (R128). -/
def lookupFrom (p : CurvePoint) (q : Nat) : List CurvePoint → Nat
  | [] => p.mf
  | p2 :: rest =>
    if q = p2.rate then p2.mf
    else if q < p2.rate then interpolate p p2 q
    else lookupFrom p2 q rest

/-- The lookup of a curve at a rate, in 0.0001 (R128). -/
def lookup (c : List CurvePoint) (q : Nat) : Nat :=
  match c with
  | [] => 10000
  | p :: rest => if q ≤ p.rate then p.mf else lookupFrom p q rest

/-- Whether a lookup is extrapolated (R128): q greater than zero, and the curve empty or q outside its span. -/
def extrapolated (c : List CurvePoint) (q : Nat) : Bool :=
  decide (0 < q) &&
    match c with
    | [] => true
    | p :: rest => decide (q < p.rate) || decide (((p :: rest).getLast (by simp)).rate < q)

/-- The working curve of a run (R131). -/
def State.workingCurve (s : State) (r : Run) : List CurvePoint :=
  match s.store.pendingCurves.get r with
  | some c => c
  | none => s.store.curves.get r

/-- Inserts a point in rate order. -/
def insertPoint (x : CurvePoint) : List CurvePoint → List CurvePoint
  | [] => [x]
  | p :: rest => if x.rate < p.rate then x :: p :: rest else p :: insertPoint x rest

/-- What placing a point does (R132): the curve after it, the point replaced and the point removed. -/
structure Placement where
  curve : List CurvePoint
  replaced : Option CurvePoint
  removed : Option CurvePoint
  deriving DecidableEq, Repr

/-- Places an offered point in a working curve; none is CURVE_FULL (R132). -/
def place (c : List CurvePoint) (x : CurvePoint) : Option Placement :=
  let others := c.filter fun p => !inBand p.rate x.rate
  match c.filter fun p => inBand p.rate x.rate with
  | [] =>
    if c.length < Config.curveCapacity then
      some { curve := insertPoint x c, replaced := none, removed := none }
    else none
  | [p] => some { curve := insertPoint x others, replaced := some p, removed := none }
  | p :: p2 :: _ =>
    if absDiff p.rate x.rate ≤ absDiff p2.rate x.rate then
      some { curve := insertPoint x others, replaced := some p, removed := some p2 }
    else some { curve := insertPoint x others, replaced := some p2, removed := some p }

/-- Makes a run's pending curve and its CURVE_CHANGE audit entry (R131, R133). -/
def changeCurve (r : Run) (c : List CurvePoint) (old removed new : Option CurvePoint) (s : State) : State :=
  addAudit (some r) (.curveChange old removed new (s.cumulativeGSV r))
    (s.withStore { s.store with pendingCurves := s.store.pendingCurves.set r (some c) })

/-- Offers a point to a run's curve: the change made and audited, with its placement; none is CURVE_FULL. -/
def offerPoint (r : Run) (x : CurvePoint) (s : State) : Option (State × Placement) :=
  (place (s.workingCurve r) x).map fun pl =>
    (changeCurve r pl.curve pl.replaced pl.removed (some x) s, pl)

/-- The pending curve of a run becomes current at a boundary (R134). -/
def applyCurve (s : State) (r : Run) : State :=
  match s.store.pendingCurves.get r with
  | none => s
  | some c =>
    s.withStore { s.store with
      curves := s.store.curves.set r c, pendingCurves := s.store.pendingCurves.set r none }

end Sys2Proof.Machine
end

