-- ==== Sys2Proof/Machine/Scanner.lean ====
section
/-! DEFINITION. The measurement scanner: starting conversions, storing readings with the partner comparison, TEMPERATURE_DEVIATION, staleness and chain requests (chapter 2). -/

namespace Sys2Proof.Machine

open Sys2Proof

/-- Starts a conversion of a point under its setup in force. -/
def startConversion (p : Fin 16) (injected : Bool) (s : State) : State :=
  s.withScanner { s.scanner with
    converter := some { point := p, injected := injected, setup := s.setup p, started := s.counter, moves := true } }

/-- The next conversion starts if the converter is IDLE and there is one to start: the active chain's next point, or
else the point at the scan position (R30, R33). -/
def nextConversion (s : State) : State :=
  if s.scanner.converter.isSome then s
  else
    match s.scanner.active with
    | some c =>
      match c.left with
      | p :: _ => startConversion p true s
      | [] => s
    | none =>
      match s.pointsBlock.scanList[s.scanner.position]? with
      | some p => startConversion (pointIndex p) false s
      | none => s

/-- A chain request (R31, R32). The Bool answers whether it was taken; a refusal is counted (R38). -/
def requestChain (c : Chain) (s : State) : State × Bool :=
  match s.scanner.active with
  | none => (nextConversion (s.withScanner { s.scanner with converter := none, active := some c }), true)
  | some _ =>
    match s.scanner.waiting with
    | none => (s.withScanner { s.scanner with waiting := some c }, true)
    | some _ => (s.withScanner { s.scanner with refused := countUp 65535 s.scanner.refused }, false)

/-- The judgement TEMPERATURE_DEVIATION for every run whose current RUN block names the point as its temperature
point (R28). -/
def judgeDeviation (p : Fin 16) (on : Bool) (s : State) : State :=
  allRuns.foldl (fun s r =>
    if pointIndex (s.runBlock r).tempPoint = p then judge (.run .temperatureDeviation r) on s else s) s

/-- Hands over the judgement of a status change of a point, where there is one (R28). -/
def statusChanged (p : Fin 16) (old : PointStatus) (s : State) : State :=
  let new := s.pointStatus p
  if old = new then s
  else if new = .deviation then judgeDeviation p true s
  else if old = .deviation then judgeDeviation p false s
  else s

/-- Sets a point's status alone. -/
def setStatus (p : Fin 16) (st : PointStatus) (s : State) : State :=
  s.setPoint p { s.scanner.points[p] with status := st }

/-- The reading of a conversion (R25): span low plus the fraction (millionths) of the span, rounded to the resolution
of the kind; in thousandths. -/
def readingOf (u : PointSetup) (fraction : Nat) : Int :=
  let x : Rat := (u.spanLow : Rat) + (fraction : Rat) / 1000000 * ((u.spanHigh : Rat) - (u.spanLow : Rat))
  toMilli u.kind (roundHalf x)

/-- Whether a reading lies in the valid range of a setup; a reading equal to a limit does (R26). -/
def inValidRange (u : PointSetup) (v : Int) : Bool :=
  decide (toMilli u.kind u.validLow ≤ v ∧ v ≤ toMilli u.kind u.validHigh)

/-- The comparison of R27 for a point that has stored an in-range reading of value v: the status of both points, or
none where the partner has no in-range reading. -/
def comparison (u : PointSetup) (v : Int) (partner : PointState) : Option PointStatus :=
  match partner.status, partner.reading with
  | .good, some x =>
    some (if toMilli u.kind u.deviation < (v - x.value).natAbs then .deviation else .good)
  | .deviation, some x =>
    some (if toMilli u.kind u.deviation < (v - x.value).natAbs then .deviation else .good)
  | _, _ => none

/-- Stores a completed conversion's reading under the setup it started with (R26 to R28, R39); the stale timer restarts
with the stale time in force. -/
def storeReading (p : Fin 16) (u : PointSetup) (v : Int) (s : State) : State :=
  let old := s.pointStatus p
  let st : PointStatus := if inValidRange u v then .good else .range
  let s1 := s.setPoint p { reading := some { value := v, time := s.clock }, status := st,
                           staleTimer := some { started := s.counter, length := (s.setup p).stale } }
  if st = .range then statusChanged p old s1
  else
    match u.partner with
    | none => statusChanged p old s1
    | some n =>
      let q := pointIndex n
      match comparison u v s1.scanner.points[q] with
      | none => statusChanged p old s1
      | some r =>
        let oldQ := s1.pointStatus q
        let s2 := setStatus q r (setStatus p r s1)
        statusChanged q oldQ (statusChanged p old s2)

/-- Expiry of a point's stale timer (R29); a timer that a reading has just restarted does not expire. -/
def goStale (p : Fin 16) (s : State) : State :=
  match (s.scanner.points[p]).staleTimer with
  | none => s
  | some t =>
    if s.beginsNow t.started then s
    else
      let old := s.pointStatus p
      statusChanged p old (s.setPoint p { s.scanner.points[p] with status := .stale, staleTimer := none })

/-- Advances the scan position at the completion of a normal conversion, from the tail back to the head (R30). -/
def advancePosition (s : State) : State :=
  s.withScanner { s.scanner with
    position := (s.scanner.position + 1) % s.pointsBlock.scanList.length }

/-- A POINTS block becomes current (R39): the position goes to the head, a normal conversion in progress no longer
moves it, and an IDLE converter starts on the new list. -/
def scannerTakesPoints (s : State) : State :=
  nextConversion (s.withScanner { s.scanner with
    position := 0
    converter := s.scanner.converter.map fun c => { c with moves := false } })

/-- The set a complete chain delivers (R33). -/
def chainSet (c : Chain) (s : State) : List SetEntry :=
  c.points.map fun p =>
    { point := p, reading := s.scanner.points[p].reading, status := s.scanner.points[p].status }

end Sys2Proof.Machine
end

