-- ==== Sys2Proof/Machine/Prover.lean ====
section
/-! DEFINITION. The prover controller: the arbiter, activations and pulses of a proving record, chain answers, pass and round figures, rounds and results (chapter 6). -/

namespace Sys2Proof.Machine

open Sys2Proof

/-! ### The arbiter (R101, R102) -/

/-- The proving counter after a grant (R122): 0 is not given to a record. -/
def nextProvingNumber (n : Nat) : Nat := if n < 4294967295 then n + 1 else 1

/-- The record that opens at a grant (R102). -/
def openedRecord (q : ProvingRequest) (s : State) : ProvingRecord :=
  { number := s.store.provingCounter
    request := q
    grade := s.gradeNow
    k := (s.runBlock q.run).k
    vb := s.proverBlock.vb
    gamma := s.proverBlock.gamma
    g := s.proverBlock.g
    chain := [ pointIndex (s.runBlock q.run).tempPoint, pointIndex (s.runBlock q.run).pressPoint,
               pointIndex s.proverBlock.tempPoint, pointIndex s.proverBlock.pressPoint ]
    granted := s.clock
    state := .aligning
    timerStart := s.counter
    cause := none
    ended := none
    attempts := 0
    accepted := 0
    rounds := []
    current := none
    result := none
    decision := none
    decided := none }

/-- Grants a request whose place in the queue is given up: its record opens and holds the prover. -/
def openRecord (q : ProvingRequest) (rest : List ProvingRequest) (s : State) : State :=
  (s.withRequests rest).withStore { s.store with
    record := some (openedRecord q s), provingCounter := nextProvingNumber s.store.provingCounter }

/-- Grants the head of the queue, and the next where the record opened is aborted at the instant of its grant because
the run is FAILED or CLOSED (R101). -/
def grantFrom : List ProvingRequest → State → State
  | [], s => s
  | q :: rest, s =>
    let s1 := openRecord q rest s
    if s.integrity q.run = .failed then grantFrom rest (abortRecord .runFailed s1)
    else if (s.store.runs.get q.run).service = .closed then grantFrom rest (abortRecord .runClosed s1)
    else s1

/-- The arbiter (R101): grants when the prover is ENABLED and holds no record. -/
def grant (s : State) : State :=
  if s.store.proverEnabled && s.store.record.isNone then grantFrom s.requests s else s

/-- At the end of an event: the grant that a record leaving the prover brings about (R101). -/
def settle (before after : State) : State :=
  if before.store.record.isSome && after.store.record.isNone then grant after else after

/-! ### Figures (R109, R110) -/

/-- The difference of two stamps, modulo 2⁴⁸ (R16). -/
def stampDiff (later earlier : Stamp) : Nat := (later - earlier).toNat

/-- The figures of a pass from its stamps and its count, K in 0.001 (R109). -/
def figuresOf (k n : Nat) (d0 p0 d1 p1 : Stamp) : PassFigures :=
  let dd := stampDiff d1 d0
  let dp := stampDiff p1 p0
  let ni : Nat :=
    if dp = 0 then Config.interpolatedPulses n dd
    else (roundTo 3 ((n : Rat) * (dd : Rat) / (dp : Rat))).toNat
  let rate : Nat :=
    if dd = 0 ∨ k = 0 then Config.passRate ni k
    else (roundTo 1 ((ni : Rat) / (k : Rat) / ((dd : Rat) / (Config.countsPerSecond : Rat)) * 3600)).toNat
  { n := n, dd := dd, dp := dp, ni := ni, rate := rate }

/-- The mean of the two values of a set pair at a place, rounded to a step of thousandths; none where a value is
absent. -/
def meanAt (step i : Nat) (x y : List SetEntry) : Option Int :=
  match (x[i]?).bind (·.reading), (y[i]?).bind (·.reading) with
  | some a, some b => some (roundMilli step (((a.value : Rat) + (b.value : Rat)) / 2))
  | _, _ => none

/-- The conditions of a pass (R109): the means of its two sets, in the order meter temperature, meter pressure, prover
temperature, prover pressure; none where its sets are not both stored. -/
def passConditions (p : PassState) : Option (List Int) :=
  match p.startAnswer, p.endAnswer with
  | some (.set x), some (.set y) =>
    match meanAt 10 0 x y, meanAt 1 1 x y, meanAt 10 2 x y, meanAt 1 3 x y with
    | some a, some b, some c, some d => some [a, b, c, d]
    | _, _, _, _ => none
  | _, _ => none

/-- The mean of the two passes' conditions at a place (R110). -/
def meanOfPasses (step i : Nat) (x y : List Int) : Int :=
  roundMilli step (((x.getD i 0 : Rat) + (y.getD i 0 : Rat)) / 2)

/-- The figures of a round with both passes' conditions present (R110): Nr in 0.001, K in 0.001. -/
def roundFiguresOf (alpha f vb gamma g k nr : Nat) (c1 c2 : List Int) : RoundFigures :=
  let tm := meanOfPasses 10 0 c1 c2
  let pm := meanOfPasses 1 1 c1 c2
  let tp := meanOfPasses 10 2 c1 c2
  let pp := meanOfPasses 1 3 c1 c2
  let cts := ctsFactor gamma tp
  let cps := cpsFactor g pp
  let ctlp := ctlFactor alpha tp
  let cplp := cplFactor f pp
  let ctlm := ctlFactor alpha tm
  let cplm := cplFactor f pm
  let vp : Rat := 2 * ((vb : Rat) / 1000) * factor5 cts * factor5 cps * factor5 ctlp * factor5 cplp
  let vm : Rat := (nr : Rat) / (k : Rat) * factor5 ctlm * factor5 cplm
  { tm := tm, pm := pm, tp := tp, pp := pp, cts := cts, cps := cps, ctlp := ctlp, cplp := cplp, ctlm := ctlm,
    cplm := cplm, mf := if k = 0 ∨ vm = 0 then Config.roundFactor vp else roundTo 5 (vp / vm) }

/-! ### Rounds and results (R113 to R115) -/

/-- The discard reason of a round: the first of the three marks it carries (R113). -/
def discardReason (m : RoundMarks) : Option DiscardReason :=
  if m.readingInvalid then some .readingInvalid
  else if m.flowUnstable then some .flowUnstable
  else if m.runDegraded then some .runDegraded
  else none

/-- The rounds a result may be formed from: the latest R accepted ones, in order of completion (R114). -/
def latestAccepted (n : Nat) (rounds : List RoundEntry) : List RoundEntry :=
  let acc := rounds.filter fun e => e.discarded.isNone
  acc.drop (acc.length - n)

/-- The MF_round of a round entry. -/
def entryFactor (e : RoundEntry) : Int :=
  match e.figures with
  | some f => f.mf
  | none => 0

def listMax : List Int → Int
  | [] => 0
  | [x] => x
  | x :: rest => max x (listMax rest)

def listMin : List Int → Int
  | [] => 0
  | [x] => x
  | x :: rest => min x (listMin rest)

/-- The spread of a set of MF_round (R114): largest less smallest, divided by the smallest, exactly. -/
def spreadOf (mfs : List Int) : Rat :=
  if listMin mfs = 0 then Config.spread (listMax mfs)
  else ((listMax mfs - listMin mfs : Int) : Rat) / (listMin mfs : Rat)

/-- The result formed from rounds whose spread is within the limit (R114). -/
def formResult (es : List RoundEntry) (time : Nat) : ProvingResult :=
  let mfs := es.map entryFactor
  let count : Rat := (es.length : Rat)
  { mf := roundHalf ((mfs.sum : Rat) / count / 10)
    rate := (roundHalf (((es.map (·.rate)).sum : Rat) / count)).toNat
    spread := spreadOf mfs
    rounds := es.map (·.number)
    curveValue := none
    deviating := false
    time := time }

/-- A formed result is judged and the record leaves the prover (R115): FAILED(MF_RANGE) outside 0.8000 to 1.2000,
otherwise COMPLETE as the run's pending result, DEVIATING or not against the current curve. -/
def judgeResult (r : ProvingRecord) (res : ProvingResult) (s : State) : State :=
  if res.mf < 8000 ∨ 12000 < res.mf then
    endRecord .failed .mfRange (s.setRecord (some { r with result := some res }))
  else
    let value := lookup (s.store.curves.get r.request.run) res.rate
    let dev : Bool := decide (s.proverBlock.deviation < (res.mf - (value : Int)).natAbs)
    let done : ProvingRecord :=
      { r with result := some { res with curveValue := some value, deviating := dev }, state := .complete,
               ended := some s.clock, current := none }
    s.withStore { s.store with record := none, results := s.store.results.set r.request.run (some done) }

/-- The controller's decision after a round has been entered (R114). -/
def afterRound (r : ProvingRecord) (s : State) : State :=
  let es := latestAccepted r.request.rounds r.rounds
  if r.request.rounds ≤ r.accepted ∧ spreadOf (es.map entryFactor) ≤ (r.request.limit : Rat) / 10000 then
    judgeResult r (formResult es s.clock) s
  else if r.request.attempts ≤ r.attempts then
    endRecord .failed .repeatability (s.setRecord (some r))
  else s.setRecord (some { r with state := .armed, timerStart := s.counter, current := none })

/-- The round list entry of a completing round (R110, R113). -/
def roundEntry (r : ProvingRecord) (c : RoundState) (p2 : PassState) (f1 f2 : PassFigures) (s : State) : RoundEntry :=
  let c1 := passConditions c.first
  let c2 := passConditions p2
  let marks : RoundMarks :=
    if c1.isSome && c2.isSome then c.marks else { c.marks with readingInvalid := true }
  let co := s.coefficients r.grade
  let figs : Option RoundFigures :=
    match marks.readingInvalid, c1, c2 with
    | false, some x, some y => some (roundFiguresOf co.1 co.2.1 r.vb r.gamma r.g r.k (f1.ni + f2.ni) x y)
    | _, _, _ => none
  { number := c.number
    start := c.first.start
    first := f1
    second := f2
    rate := (roundHalf (((f1.rate : Rat) + (f2.rate : Rat)) / 2)).toNat
    figures := figs
    discarded := discardReason marks }

/-- A completed round is entered in the round list and the record goes on (R113, R114). -/
def completeRound (r : ProvingRecord) (c : RoundState) (p2 : PassState) (f1 f2 : PassFigures) (s : State) : State :=
  let e := roundEntry r c p2 f1 f2 s
  afterRound
    { r with
      rounds := r.rounds ++ [e]
      attempts := r.attempts + 1
      accepted := if e.discarded.isNone then r.accepted + 1 else r.accepted
      current := none }
    s

/-- Completes the round in progress if its second pass has its tail pulse and every one of its four chains has been
answered (R106); otherwise stores the record. -/
def tryComplete (r : ProvingRecord) (s : State) : State :=
  match r.current with
  | none => s.setRecord (some r)
  | some c =>
    match c.second with
    | none => s.setRecord (some r)
    | some p2 =>
      match c.first.figures, p2.figures with
      | some f1, some f2 =>
        if r.state = .tail ∧ c.first.startAnswer.isSome ∧ c.first.endAnswer.isSome ∧ p2.startAnswer.isSome ∧
            p2.endAnswer.isSome then
          completeRound r c p2 f1 f2 s
        else s.setRecord (some r)
      | _, _ => s.setRecord (some r)

/-! ### Chain answers (R108) -/

/-- Whether an answer marks its round READING_INVALID: a refusal, or a set with an entry that is not GOOD. -/
def answerInvalid : ChainAnswer → Bool
  | .lost => true
  | .set es => es.any fun e => decide (e.status ≠ .good)

/-- Stores an answer with the activation it belongs to. -/
def storeAnswer (ends : Bool) (a : ChainAnswer) (p : PassState) : PassState :=
  if ends then { p with endAnswer := some a } else { p with startAnswer := some a }

/-- The controller takes the scanner's answer to a chain (R108): disregarded unless its tag names the round in progress
of the record holding the prover. The last answer awaited completes the round (R106). -/
def takeAnswer (tag : ChainTag) (a : ChainAnswer) (s : State) : State :=
  match s.store.record with
  | none => s
  | some r =>
    match r.current with
    | none => s
    | some c =>
      if tag.record = r.number ∧ tag.round = c.number then
        let marks := if answerInvalid a then { c.marks with readingInvalid := true } else c.marks
        let c' : RoundState :=
          if tag.pass = 1 then { c with first := storeAnswer tag.ends a c.first, marks := marks }
          else { c with second := c.second.map (storeAnswer tag.ends a), marks := marks }
        tryComplete { r with current := some c' } s
      else s

/-- Requests the record's chain for an activation, and takes a refusal's answer at once (R108, R32). -/
def chainFor (tag : ChainTag) (s : State) : State :=
  match s.store.record with
  | none => s
  | some r =>
    let q := requestChain { tag := tag, points := r.chain, left := r.chain } s
    if q.2 then q.1 else takeAnswer tag .lost q.1

/-! ### Detector activations (R104, R105, R107) -/

/-- A pass begun by an activation. -/
def beginPass (d : Detector) (t : Stamp) (rate : Option Nat) : PassState :=
  { start := d, startRate := rate, d0 := some t, p0 := none, d1 := none, p1 := none, count := 0, figures := none,
    startAnswer := none, endAnswer := none }

/-- The pass-start rate: q of the run's last period results, absent if there are none (R104). -/
def State.lastRate (s : State) (r : Run) : Option Nat := (s.totalizer.last.get r).map (·.q)

/-- The activation that begins a round while the record is ARMED (R104). -/
def beginRound (r : ProvingRecord) (d : Detector) (t : Stamp) (s : State) : State :=
  let degraded : Bool := decide (s.integrity r.request.run ≠ .sound)
  let c : RoundState :=
    { number := r.attempts + 1
      first := beginPass d t (s.lastRate r.request.run)
      second := none
      marks := { readingInvalid := false, flowUnstable := false, runDegraded := degraded } }
  chainFor { record := r.number, round := c.number, pass := 1, ends := false }
    (s.setRecord (some { r with state := .pass, timerStart := s.counter, current := some c }))

/-- The pass in progress of a round. -/
def currentPass (c : RoundState) : PassState :=
  match c.second with
  | some p => p
  | none => c.first

/-- The number of the pass in progress: 1 for the first, 2 for the second. That PGET sends it so is the model's choice (log
54). -/
def passNumber (c : RoundState) : Nat := if c.second.isSome then 2 else 1

/-- The round with its pass in progress replaced. -/
def setCurrentPass (c : RoundState) (p : PassState) : RoundState :=
  match c.second with
  | some _ => { c with second := some p }
  | none => { c with first := p }

/-- An activation while the record is PASS (R105): of the end detector with t_p0 taken, the end of the sweep; any other
aborts the record with SEQUENCE. -/
def passActivation (r : ProvingRecord) (c : RoundState) (d : Detector) (t : Stamp) (s : State) : State :=
  let p := currentPass c
  if d = p.start ∨ p.p0.isNone then abortRecord .sequence s
  else
    let c' := setCurrentPass c { p with d1 := some t }
    chainFor { record := r.number, round := c.number, pass := passNumber c, ends := true }
      (s.setRecord (some { r with state := .tail, current := some c' }))

/-- An activation while the record is TURN (R107): of the detector at which the first pass ended, the second pass
begins; of the other, the record aborts with SEQUENCE. -/
def turnActivation (r : ProvingRecord) (c : RoundState) (d : Detector) (t : Stamp) (s : State) : State :=
  if d = c.first.start then abortRecord .sequence s
  else
    let c' : RoundState := { c with second := some (beginPass d t (s.lastRate r.request.run)) }
    chainFor { record := r.number, round := c.number, pass := 2, ends := false }
      (s.setRecord (some { r with state := .pass, timerStart := s.counter, current := some c' }))

/-- An accepted detector activation delivered to the controller (R103 to R107). -/
def takeActivation (d : Detector) (t : Stamp) (s : State) : State :=
  match s.store.record with
  | none => s
  | some r =>
    match r.state, r.current with
    | .armed, _ => beginRound r d t s
    | .pass, some c => passActivation r c d t s
    | .tail, _ => abortRecord .sequence s
    | .turn, some c => turnActivation r c d t s
    | _, _ => s

/-! ### Meter pulses (R105, R106) -/

/-- A forward pulse of the record's run while PASS (R105): t_p0, or one more on the pass count. -/
def passPulse (r : ProvingRecord) (c : RoundState) (t : Stamp) (s : State) : State :=
  let p := currentPass c
  let p' : PassState := if p.p0.isNone then { p with p0 := some t, count := 0 } else { p with count := p.count + 1 }
  s.setRecord (some { r with current := some (setCurrentPass c p') })

/-- The tail pulse of a pass (R106): t_p1, the pass's figures, then TURN or the completion of the round. A later pulse
of a second pass that still awaits answers is disregarded. -/
def tailPulse (r : ProvingRecord) (c : RoundState) (t : Stamp) (s : State) : State :=
  let p := currentPass c
  match p.d0, p.p0, p.d1, p.p1 with
  | some d0, some p0, some d1, none =>
    let p' : PassState :=
      { p with p1 := some t, count := p.count + 1, figures := some (figuresOf r.k (p.count + 1) d0 p0 d1 t) }
    let r' : ProvingRecord := { r with current := some (setCurrentPass c p') }
    if c.second.isNone then s.setRecord (some { r' with state := .turn, timerStart := s.counter })
    else tryComplete r' s
  | _, _, _, _ => s

/-- An accepted meter pulse of a run's counting channel delivered to the controller (R105). -/
def takePulse (run : Run) (forward : Bool) (t : Stamp) (s : State) : State :=
  match s.store.record with
  | none => s
  | some r =>
    if r.request.run = run ∧ forward = true then
      match r.state, r.current with
      | .pass, some c => passPulse r c t s
      | .tail, some c => tailPulse r c t s
      | _, _ => s
    else s

/-! ### Boundaries and timeouts -/

/-- The flow stability check of a boundary taken while the record is PASS or TAIL (R111), against the rate of the
period that ends there. -/
def checkStability (s : State) : State :=
  match s.store.record with
  | none => s
  | some r =>
    match r.current with
    | none => s
    | some c =>
      if r.state = .pass ∨ r.state = .tail then
        let unstable : Bool :=
          match (currentPass c).startRate, s.lastRate r.request.run with
          | some st, some q => decide (st = 0) || decide (absDiff q st * 1000 > s.proverBlock.stability * st)
          | _, _ => true
        if unstable then s.setRecord (some (markRound (fun m => { m with flowUnstable := true }) r)) else s
      else s

/-- A boundary at which the counting channel of the record's run changes marks a round in progress (R112). -/
def countingChanged (run : Run) (s : State) : State :=
  match s.store.record with
  | none => s
  | some r =>
    if r.request.run = run then s.setRecord (some (markRound (fun m => { m with runDegraded := true }) r)) else s

/-- Expiry of a record timer (R103, R104, R106, R107): aborts the record while its state runs that timer, unless the timer
has just been started. -/
def recordTimeout (timer : RecordTimer) (cause : EndCause) (s : State) : State :=
  match s.store.record with
  | none => s
  | some r => if recordTimer r.state = some timer ∧ s.beginsNow r.timerStart = false then abortRecord cause s else s

end Sys2Proof.Machine
end

