-- ==== Sys2Proof/Machine/Pulse.lean ====
section
/-! DEFINITION. The pulse input unit: qualification, accepted pulses and their direction, fidelity windows and their judgements, the fidelity test, and the prover detectors (chapter 1). -/

namespace Sys2Proof.Machine

open Sys2Proof

def State.runPulse (s : State) (r : Run) : RunPulse := s.pulse.runs.get r

/-- The direction of a pulse accepted on a channel (R2, R13): forward whatever the level while the other channel is
LOST; otherwise by the level of the other channel: low for a pulse on A, high for a pulse on B. -/
def pulseForward (s : State) (r : Run) (c : Channel) : Bool :=
  if ((s.runPulse r).channel (otherChannel c)).lost then true
  else
    match c with
    | .a => !(s.lines.channel r .b)
    | .b => s.lines.channel r .a

/-! ### Window close (R6 to R11, R15) -/

inductive WindowKind where
  | aSilent | bSilent | mismatch | match_
  deriving DecidableEq, Repr

/-- The comparator's judgement of two counts (R7): a mismatch is a difference above L. -/
def comparatorMismatch (x y l : Nat) : Bool := decide (l < absDiff x y)

/-- The kind of a window at its close (R7). -/
def windowKind (a b l : Nat) : WindowKind :=
  if a = 0 then .aSilent
  else if b = 0 then .bSilent
  else if comparatorMismatch a b l then .mismatch
  else .match_

/-- One more on a consecutive-window tally, which stops at 15 (R8). -/
def tallyUp (n : Nat) : Nat := countUp 15 n

/-- The four tallies after a close (R8). -/
def updateTallies (k : WindowKind) (p : RunPulse) : RunPulse :=
  match k with
  | .aSilent =>
    { p with a := { p.a with silence := tallyUp p.a.silence }, b := { p.b with silence := 0 },
             mismatch := 0, matched := 0 }
  | .bSilent =>
    { p with a := { p.a with silence := 0 }, b := { p.b with silence := tallyUp p.b.silence },
             mismatch := 0, matched := 0 }
  | .mismatch =>
    { p with a := { p.a with silence := 0 }, b := { p.b with silence := 0 }, mismatch := tallyUp p.mismatch,
             matched := 0 }
  | .match_ =>
    { p with a := { p.a with silence := 0 }, b := { p.b with silence := 0 }, mismatch := 0,
             matched := tallyUp p.matched }

def lostKind : Channel → RunKind
  | .a => .channelALost
  | .b => .channelBLost

/-- Sets whether a channel of a run is LOST and hands the judgement (R9, R10). -/
def setLost (r : Run) (c : Channel) (on : Bool) (s : State) : State :=
  let p := s.runPulse r
  judge (.run (lostKind c) r) on (s.setRunPulse r (p.setChannel c { p.channel c with lost := on }))

/-- A LIVE channel whose silence tally is at least M becomes LOST (R9). -/
def judgeSilence (m : Nat) (r : Run) (c : Channel) (s : State) : State :=
  let x := (s.runPulse r).channel c
  if !x.lost && decide (m ≤ x.silence) then setLost r c true s else s

/-- A LOST channel is restored (R10). -/
def restore (r : Run) (c : Channel) (s : State) : State :=
  if ((s.runPulse r).channel c).lost then setLost r c false s else s

/-- The judgements of R10 at a close of a kind. -/
def judgeMatching (k : WindowKind) (m : Nat) (r : Run) (s : State) : State :=
  match k with
  | .match_ =>
    if m ≤ (s.runPulse r).matched then
      judge (.run .pulseMismatch r) false (restore r .b (restore r .a s))
    else s
  | .mismatch => if m ≤ (s.runPulse r).mismatch then judge (.run .pulseMismatch r) true s else s
  | .aSilent => s
  | .bSilent => s

/-- The noise judgement of a close (R11). -/
def judgeNoise (r : Run) (s : State) : State :=
  let p := s.runPulse r
  judge (.run .pulseNoise r) (decide (p.noiseLimit < p.a.noise) || decide (p.noiseLimit < p.b.noise)) s

/-- The larger count with L + 1 added (R15): the injected pair. -/
def injectedPair (a b l : Nat) : Nat × Nat := if b ≤ a then (a + (l + 1), b) else (a, b + (l + 1))

/-- The evaluation of a test window (R15): PASS where the comparator judges the injected pair a mismatch; `fault` is the
comparator fault without which it cannot judge it a match. -/
def evaluateTest (fault : Bool) (r : Run) (s : State) : State :=
  let p := s.runPulse r
  if p.testMark then
    let pair := injectedPair p.a.window p.b.window p.l
    let pass := comparatorMismatch pair.1 pair.2 p.l && !fault
    judge (.run .comparatorFault r) (!pass)
      (s.setRunPulse r { p with lastTest := if pass then .pass else .fail, lastTestTime := some s.clock })
  else s

/-- Opens the next window under the RUN block in force (R6, R7). -/
def openWindow (r : Run) (s : State) : State :=
  let p := s.runPulse r
  let b := s.runBlock r
  s.setRunPulse r { p with
    a := { p.a with window := 0, noise := 0 }, b := { p.b with window := 0, noise := 0 },
    w := b.w, l := b.l, noiseLimit := b.noiseLimit, testMark := false }

/-- A window close (R6): classification, tallies, losses and restorations with the M in force (R9, R10), noise (R11),
the test, and the next window. R6 does not place the judgements of R9 and R10; that they are handed before the noise
judgement, and A before B, is the model's choice (log 45). -/
def closeWindow (fault : Bool) (r : Run) (s : State) : State :=
  let p := s.runPulse r
  let k := windowKind p.a.window p.b.window p.l
  let m := (s.runBlock r).m
  let s1 := s.setRunPulse r (updateTallies k p)
  let s2 := judgeSilence m r .b (judgeSilence m r .a s1)
  let s3 := judgeMatching k m r s2
  openWindow r (evaluateTest fault r (judgeNoise r s3))

/-! ### Accepted pulses (R2, R3, R6, R19) -/

/-- The channel after accepting a pulse of a direction: idle again, one more in its period count and in the window. -/
def countPulse (forward : Bool) (x : PulseChannel) : PulseChannel :=
  { x with qualifying := none, window := x.window + 1,
           forward := if forward then x.forward + 1 else x.forward,
           reverse := if forward then x.reverse else x.reverse + 1 }

/-- A pulse of the counting channel is delivered to the prover controller with its stamp (R2, R19). -/
def deliverPulse (r : Run) (c : Channel) (forward : Bool) (s : State) : State :=
  if (s.runPulse r).counting = c then takePulse r forward s.counter s else s

/-- The window closes when the larger of its counts has reached W (R6). -/
def closeIfFull (fault : Bool) (r : Run) (s : State) : State :=
  let p := s.runPulse r
  if p.w ≤ max p.a.window p.b.window then closeWindow fault r s else s

/-- An edge is accepted as a pulse (R1, R2). -/
def acceptPulse (fault : Bool) (r : Run) (c : Channel) (s : State) : State :=
  let forward := pulseForward s r c
  let p := s.runPulse r
  let s1 := s.setRunPulse r (p.setChannel c (countPulse forward (p.channel c)))
  closeIfFull fault r (deliverPulse r c forward s1)

/-! ### Channel edges (R1) -/

/-- A rising edge: the level is high from here, and a qualification starts if the part is RUNNING (R1, R5). An edge on a
channel already high is no edge. -/
def risingEdge (r : Run) (c : Channel) (s : State) : State :=
  if s.lines.channel r c then s
  else
    let s1 := s.withLines (s.lines.setChannel r c true)
    if s.running then
      let p := s1.runPulse r
      s1.setRunPulse r (p.setChannel c { p.channel c with qualifying := some (s1.runBlock r).qualTime })
    else s1

/-- A fall: the level is low from here, and a qualification in progress is rejected as noise (R1). -/
def fallEdge (r : Run) (c : Channel) (s : State) : State :=
  let s1 := s.withLines (s.lines.setChannel r c false)
  let p := s1.runPulse r
  let x := p.channel c
  if s.running && x.qualifying.isSome then
    s1.setRunPulse r (p.setChannel c { x with qualifying := none, noise := countUp 65535 x.noise })
  else s1

/-- Expiry of a qualification time (R1): the channel is found high and the edge is accepted. -/
def qualificationExpires (fault : Bool) (r : Run) (c : Channel) (s : State) : State :=
  if (((s.runPulse r).channel c).qualifying).isSome && s.lines.channel r c then acceptPulse fault r c s else s

/-! ### Detectors (R17, R18) -/

/-- A detector input becomes active: an IDLE detector starts its debounce, a DEAD one ignores it. -/
def activateDetector (d : Detector) (s : State) : State :=
  if s.lines.detector d then s
  else
    let s1 := s.withLines (s.lines.setDetector d true)
    let x := s1.pulse.detector d
    if s.running && decide (x.phase = .idle) then
      s1.setDetector d { x with phase := .qualifying, debounce := s1.proverBlock.debounce }
    else s1

/-- A detector input becomes inactive: a qualification in progress ends without an activation. -/
def releaseDetector (d : Detector) (s : State) : State :=
  let s1 := s.withLines (s.lines.setDetector d false)
  let x := s1.pulse.detector d
  if s.running && decide (x.phase = .qualifying) then s1.setDetector d { x with phase := .idle } else s1

/-- The debounce time expires with the detector still QUALIFYING: the activation is accepted, stamped and delivered, and
the detector is DEAD. -/
def debounceExpires (d : Detector) (s : State) : State :=
  let x := s.pulse.detector d
  if x.phase = .qualifying then
    takeActivation d s.counter (s.setDetector d { x with phase := .dead, last := some s.counter })
  else s

/-- The dead time expires: the detector is IDLE. -/
def deadTimeExpires (d : Detector) (s : State) : State :=
  let x := s.pulse.detector d
  if x.phase = .dead then s.setDetector d { x with phase := .idle } else s

/-! ### Boundaries (R3, R12) -/

/-- The reverse count of the counting channel, which the totalizer takes (R3, R4). -/
def RunPulse.countingChannel (p : RunPulse) : PulseChannel := p.channel p.counting

/-- The period counts set to zero for the period that begins (R3). -/
def zeroCounts (p : RunPulse) : RunPulse :=
  { p with a := { p.a with forward := 0, reverse := 0 }, b := { p.b with forward := 0, reverse := 0 } }

/-- The counting channel of the period that begins (R12). -/
def countingOf (p : RunPulse) : Channel := if p.a.lost && !p.b.lost then .b else .a

/-- Fixes the counting channel of a run at a boundary; a change marks the run's round in progress (R12, R112). -/
def fixCounting (s : State) (r : Run) : State :=
  let p := s.runPulse r
  let c := countingOf p
  if c = p.counting then s else countingChanged r (s.setRunPulse r { p with counting := c })

end Sys2Proof.Machine
end

