-- ==== Sys2Proof/Machine/Totalizer.lean ====
section
/-! DEFINITION. The run totalizers: the period calculation, its judgements, residues and crediting (chapter 3), and what the active batch record takes from a period (R74). -/

namespace Sys2Proof.Machine

open Sys2Proof

/-! ### The period calculation (R47 to R52) -/

/-- A run's figures for the period that ends now, of length `pe` counts, under the settings in force (R47 to R52, R58).
The flag is left clear. -/
def periodFigures (closing : Bool) (pe : Nat) (s : State) (r : Run) : LastPeriod :=
  let p := s.runPulse r
  let b := s.runBlock r
  let n := p.countingChannel.forward
  let tp := pointIndex b.tempPoint
  let pp := pointIndex b.pressPoint
  let wp := pointIndex s.stationBlock.waterPoint
  let t := s.effective tp
  let pr := s.effective pp
  let wc := s.effective wp
  let iv := indicatedVolume n b.k
  let q := indicatedRate iv pe
  let mf := lookup (s.store.curves.get r) q
  let g := s.gradeNow
  let co := s.coefficients g
  let ctl := ctlFactor co.1 t
  let cpl := cplFactor co.2.1 pr
  let ccf := ccfFactor ctl cpl mf
  let gsv := iv * factor5 ccf
  { time := s.clock
    length := pe
    closing := closing
    counting := p.counting
    n := n
    reverse := p.countingChannel.reverse
    iv := iv
    q := q
    mf := mf
    t := t
    p := pr
    wc := wc
    tStatus := s.pointStatus tp
    pStatus := s.pointStatus pp
    wStatus := s.pointStatus wp
    ctl := ctl
    cpl := cpl
    ccf := ccf
    gsv := gsv
    nsv := gsv * (1 - ofMilli wc / 100)
    mass := gsv * ((co.2.2 : Rat) / 10)
    grade := g
    batch := s.store.active.map (·.entry.id)
    service := (s.store.runs.get r).service
    flagged := false }

/-! ### Judgements of the period's end (R4, R54, R129) -/

/-- The judgements a run's period gives, under the RUN block and the curve in force during it (R4, R50, R54). Their
order is the model's choice (log 50). -/
def periodJudgements (b : RunBlock) (curve : List CurvePoint) (f : LastPeriod) : List (RunKind × Bool) :=
  [ (.reverseFlow, decide (b.reverseLimit < f.reverse)),
    (.temperatureSubstituted, decide (f.tStatus ≠ .good)),
    (.pressureSubstituted, decide (f.pStatus ≠ .good)),
    (.rateOutOfRange, decide (0 < f.q ∧ (f.q < b.minRate ∨ b.maxRate < f.q))),
    (.curveExtrapolated, extrapolated curve f.q),
    (.unscheduledFlow, decide (f.service = .closed ∧ 0 < f.n)) ]

/-- Hands a run's judgements to the monitor. -/
def judgeRunPeriod (s : State) (r : Run) (f : LastPeriod) : State :=
  (periodJudgements (s.runBlock r) (s.store.curves.get r) f).foldl (fun s j => judge (.run j.1 r) j.2 s) s

/-- All the judgements handed at the end of a period: each run's, WATER_SUBSTITUTED once, and POWER_INTERRUPTED inactive
at the end of the first full period after a warm start (R54, R194). Run 1 to 4, then water, then power, is the model's
order (log 50). -/
def judgePeriod (closing : Bool) (figs : PerRun LastPeriod) (s : State) : State :=
  let s1 := allRuns.foldl (fun s r => judgeRunPeriod s r (figs.get r)) s
  let s2 := judge (.station .waterSubstituted) (decide (figs.r1.wStatus ≠ .good)) s1
  if s2.supply.firstPeriod && !closing then judge (.station .powerInterrupted) false s2 else s2

/-! ### Crediting (R53, R56, R57, R74) -/

/-- The whole-unit increments of a period (R53). -/
structure Increments where
  iv : Int
  gsv : Int
  nsv : Int
  mass : Int
  pulses : Nat
  deriving DecidableEq, Repr

/-- Adds a period's quantities (litres, kilograms) to the residues and splits off the whole units (R53). -/
def splitResidues (x : Residues) (f : LastPeriod) : Increments × Residues :=
  let iv := x.iv + f.iv * 1000
  let gsv := x.gsv + f.gsv * 1000
  let nsv := x.nsv + f.nsv * 1000
  let mass := x.mass + f.mass
  ({ iv := iv.floor, gsv := gsv.floor, nsv := nsv.floor, mass := mass.floor, pulses := f.n },
   { iv := iv - (iv.floor : Rat), gsv := gsv - (gsv.floor : Rat), nsv := nsv - (nsv.floor : Rat),
     mass := mass - (mass.floor : Rat) })

/-- Adds the five increments to a set (R57). -/
def addIncrements (i : Increments) (t : Totals) : Totals :=
  { iv := addTotal t.iv i.iv, gsv := addTotal t.gsv i.gsv, nsv := addTotal t.nsv i.nsv, mass := addTotal t.mass i.mass,
    pulses := addTotal t.pulses i.pulses }

/-- Adds the increments to the GOOD or the FLAGGED set (R56). -/
def creditSplit (flagged : Bool) (i : Increments) (x : Split) : Split :=
  if flagged then { x with flagged := addIncrements i x.flagged } else { x with good := addIncrements i x.good }

/-- Adds a period to the weighted sums (R74). -/
def addSums (f : LastPeriod) (x : WeightedSums) : WeightedSums :=
  { iv := x.iv + f.iv, tIV := x.tIV + ofMilli f.t * f.iv, pIV := x.pIV + ofMilli f.p * f.iv,
    mfIV := x.mfIV + (f.mf : Rat) / 10000 * f.iv, gsv := x.gsv + f.gsv, wGSV := x.wGSV + ofMilli f.wc * f.gsv }

/-- Adds a period to a run's part of the active batch record (R74). -/
def creditBatchRun (f : LastPeriod) (i : Increments) (x : BatchRun) : BatchRun :=
  { x with
    acc := creditSplit f.flagged i x.acc
    sums := addSums f x.sums
    periods := if 0 < f.n then countUp 4294967295 x.periods else x.periods
    flaggedPeriods := if 0 < f.n ∧ f.flagged = true then countUp 4294967295 x.flaggedPeriods else x.flaggedPeriods }

/-- Credits a run's period (R56): the cumulative side, and the active batch or the no-batch accumulator; keeps the last
period results (R58) and sets the period counts to zero (R3). -/
def creditRun (figs : PerRun LastPeriod) (s : State) (r : Run) : State :=
  let f := figs.get r
  let x := s.store.runs.get r
  let p := splitResidues x.residues f
  let x1 : RunTotals :=
    { x with cumulative := creditSplit f.flagged p.1 x.cumulative, residues := p.2, reverse := addTotal x.reverse f.reverse }
  let s1 :=
    match s.store.active with
    | some b =>
      (s.setRunTotals r x1).setActive
        (some { b with runs := b.runs.set r (creditBatchRun f p.1 (b.runs.get r)) })
    | none => s.setRunTotals r { x1 with noBatch := creditSplit f.flagged p.1 x1.noBatch }
  let s2 := s1.setRunPulse r (zeroCounts (s1.runPulse r))
  s2.withTotalizer { s2.totalizer with last := s2.totalizer.last.set r (some f) }

/-- The figures with their flags (R55): flagged where the run was not SOUND at some instant of the period, the instant
it ends included. -/
def flagFigures (figs : PerRun LastPeriod) (s : State) : PerRun LastPeriod :=
  PerRun.tab fun r =>
    { figs.get r with flagged := s.totalizer.unsound.get r || decide (s.integrity r ≠ .sound) }

/-- The end of a period for every run (R42, R43): figures, judgements, flags, credit, and the time of the last
boundary (R44). The flags in the making are cleared for the period that begins. -/
def endPeriod (closing : Bool) (pe : Nat) (s : State) : State :=
  let figs := PerRun.tab (periodFigures closing pe s)
  let s1 := judgePeriod closing figs s
  let s2 := allRuns.foldl (creditRun (flagFigures figs s1)) s1
  (s2.withStore { s2.store with lastBoundary := s2.clock }).withTotalizer
    { s2.totalizer with unsound := PerRun.tab fun _ => false }

/-- A pending service change takes effect (R59). -/
def applyService (s : State) (r : Run) : State :=
  let x := s.store.runs.get r
  match x.pendingService with
  | none => s
  | some v => s.setRunTotals r { x with service := v, pendingService := none }

end Sys2Proof.Machine
end

