-- ==== Sys2Proof/Machine/Batch.lean ====
section
/-! DEFINITION. The batch sequencer's boundary work and the ticket store: starts, closes, the nomination, deferred closes, tickets and their averages, and the outage charge (chapters 4 and 5). -/

namespace Sys2Proof.Machine

open Sys2Proof

/-! ### Tickets (R86 to R89) -/

/-- An average of weighted sums: rounded in units of 10⁻ⁿ, absent where the weight is zero (R88). -/
def average (n : Nat) (sum weight : Rat) : Option Int :=
  if weight = 0 then none else some (roundTo n (sum / weight))

/-- One run's part of a ticket (R87, R88). -/
def ticketRun (closing : Split) (x : BatchRun) : TicketRun :=
  { opening := x.opening
    closing := closing
    acc := x.acc
    periods := x.periods
    flaggedPeriods := x.flaggedPeriods
    sums := x.sums
    avgT := average 2 x.sums.tIV x.sums.iv
    avgP := average 3 x.sums.pIV x.sums.iv
    avgMF := average 4 x.sums.mfIV x.sums.iv
    avgW := average 2 x.sums.wGSV x.sums.gsv }

/-- The sum of sets, without rollover (R89). -/
def sumTotals (l : List Totals) : Totals :=
  { iv := (l.map (·.iv)).sum, gsv := (l.map (·.gsv)).sum, nsv := (l.map (·.nsv)).sum, mass := (l.map (·.mass)).sum,
    pulses := (l.map (·.pulses)).sum }

/-- The ticket formed from a closing batch (R86 to R89): numbered from the counter, with the cumulative sets as they
stand at the closing boundary. -/
def formTicket (number finish : Nat) (cause : CloseCause) (cum : Run → Split) (b : ActiveBatch) : Ticket :=
  let rs := b.runs.list
  { number := number
    entry := b.entry
    start := b.start
    finish := finish
    cause := cause
    reached := b.reached
    interruptions := b.interruptions
    outage := b.outage
    runs := PerRun.tab fun r => ticketRun (cum r) (b.runs.get r)
    stationGood := sumTotals (rs.map (·.acc.good))
    stationFlagged := sumTotals (rs.map (·.acc.flagged))
    stationTotal := sumTotals (rs.map (·.acc.good) ++ rs.map (·.acc.flagged))
    periods := (rs.map (·.periods)).sum
    flaggedPeriods := (rs.map (·.flaggedPeriods)).sum
    avgW := average 2 ((rs.map (·.sums.wGSV)).sum) ((rs.map (·.sums.gsv)).sum) }

/-- The active batch closes with a cause (R78, R86): its ticket is numbered and joins the slots, or the held record
while the slots are full; no batch is active. -/
def closeBatch (cause : CloseCause) (s : State) : State :=
  match s.store.active with
  | none => s
  | some b =>
    let t := formTicket s.store.ticketCounter s.clock cause (fun r => (s.store.runs.get r).cumulative) b
    let st := { s.store with active := none, ticketCounter := s.store.ticketCounter + 1 }
    if s.store.slots.length < Config.slotCapacity then s.withStore { st with slots := s.store.slots ++ [t] }
    else s.withStore { st with held := some t }

/-- The active batch record a queue entry becomes at a starting boundary (R73). -/
def startedBatch (e : BatchEntry) (s : State) : ActiveBatch :=
  { entry := e
    start := s.clock
    runs := PerRun.tab fun r =>
      { opening := (s.store.runs.get r).cumulative, acc := zeroSplit, sums := zeroSums, periods := 0,
        flaggedPeriods := 0 }
    interruptions := 0
    outage := 0
    reached := false }

/-- The head of the queue becomes the active batch (R73). -/
def startBatch (s : State) : State :=
  match s.store.queue with
  | [] => s
  | e :: rest => s.withStore { s.store with queue := rest, active := some (startedBatch e s) }

/-! ### The boundary (R78, R80, R81) -/

/-- Whether the total has reached the nomination (R80); once reached it stays reached. -/
def nominationReached (b : ActiveBatch) : Bool :=
  b.reached ||
    match b.entry.nomination with
    | none => false
    | some n => decide (n ≤ batchGSV b)

/-- The comparison of R80 at a boundary: sets the nomination reached flag. -/
def compareNomination (s : State) : State :=
  match s.store.active with
  | none => s
  | some b => s.setActive (some { b with reached := nominationReached b })

/-- What changed the active batch at a boundary, as the prover controller is told (R78). -/
inductive BatchEvent where
  | none | started | ended | cutover | nominated
  deriving DecidableEq, Repr

/-- The sequencer's work at a boundary, after the crediting (R78, R80, R81). TICKET_STORE_FULL is handed active where a
nomination close is deferred, and inactive where a close is done. -/
def sequence (s : State) : State × BatchEvent :=
  let s1 := compareNomination s
  let done := s1.withChange .none
  match s1.change with
  | .start => (startBatch done, .started)
  | .ends => (judge (.station .ticketStoreFull) false (closeBatch .hostEnd done), .ended)
  | .cutover => (startBatch (judge (.station .ticketStoreFull) false (closeBatch .hostCutover done)), .cutover)
  | .none =>
    match s1.store.active with
    | none => (s1, .none)
    | some b =>
      if b.reached then
        if s1.store.held.isNone then
          (judge (.station .ticketStoreFull) false (closeBatch .nomination s1), .nominated)
        else (judge (.station .ticketStoreFull) true s1, .none)
      else (s1, .none)

/-- Charges an interruption to the active batch at a warm start (R83). -/
def chargeOutage (now lastBoundary : Nat) (b : ActiveBatch) : ActiveBatch :=
  { b with interruptions := countUp 65535 b.interruptions,
           outage := min 4294967295 (b.outage + (now - lastBoundary)) }

/-- The oldest ticket leaves the slots, and a held ticket moves in (R90, R91). -/
def releaseOldest (s : State) : State :=
  match s.store.slots with
  | [] => s
  | _ :: rest =>
    match s.store.held with
    | some h => s.withStore { s.store with slots := rest ++ [h], held := none }
    | none => s.withStore { s.store with slots := rest }

end Sys2Proof.Machine
end

