-- ==== Sys2Proof/Machine/Blockwork.lean ====
section
/-! DEFINITION. The configuration unit's work: staging, judging and committing a copy, applications at a boundary, mismatch marks and the verification in rotation (R158 to R166). -/

namespace Sys2Proof.Machine

open Sys2Proof

/-! ### What will be in force (R160) -/

/-- The copy of a block that will be in force when a copy under judgement is applied: pending where present, else
current. -/
def Slot.next {α : Type} (x : Slot α) : α := x.pending.getD x.current

/-- The points the RUN, PROVER and STATION blocks name, with the kinds they require, as they will be in force. -/
def State.requiredKinds (s : State) : List (Nat × PointKind) :=
  (allRuns.map fun r =>
    [((s.store.runBlocks.get r).next.tempPoint, PointKind.temperature),
     ((s.store.runBlocks.get r).next.pressPoint, PointKind.pressure)]).flatten ++
  [(s.store.prover.next.tempPoint, .temperature), (s.store.prover.next.pressPoint, .pressure),
   (s.store.station.next.waterPoint, .water)]

/-- Whether a block has a pending copy (R158). -/
def State.commitPending (s : State) : BlockId → Bool
  | .station => s.store.station.pending.isSome
  | .prover => s.store.prover.pending.isSome
  | .points => s.store.points.pending.isSome
  | .grades => false
  | .run r => (s.store.runBlocks.get r).pending.isSome

/-- Whether a block has a staged copy (R158). -/
def State.staged (s : State) : BlockId → Bool
  | .station => s.work.stagedStation.isSome
  | .prover => s.work.stagedProver.isSome
  | .points => s.work.stagedPoints.isSome
  | .grades => false
  | .run r => (s.work.stagedRuns.get r).isSome

/-- The stored check code of a block. -/
def State.storedCode (s : State) : BlockId → Code
  | .station => s.store.station.code
  | .prover => s.store.prover.code
  | .points => s.store.points.code
  | .grades => s.store.gradesCode
  | .run r => (s.store.runBlocks.get r).code

/-- The code a block's current contents give. -/
def State.contentsCode (s : State) : BlockId → Code
  | .station => stationBlockCode s.stationBlock
  | .prover => proverBlockCode s.proverBlock
  | .points => pointsBlockCode s.pointsBlock
  | .grades => gradesContentsCode s.store.grades
  | .run r => runBlockCode (s.runBlock r)

/-- A block's stored check code replaced. -/
def setStoredCode (b : BlockId) (c : Code) (s : State) : State :=
  match b with
  | .station => s.withStore { s.store with station := { s.store.station with code := c } }
  | .prover => s.withStore { s.store with prover := { s.store.prover with code := c } }
  | .points => s.withStore { s.store with points := { s.store.points with code := c } }
  | .grades => s.withStore { s.store with gradesCode := c }
  | .run r =>
    s.withStore { s.store with
      runBlocks := s.store.runBlocks.set r { s.store.runBlocks.get r with code := c } }

/-! ### Staging (R159) -/

/-- Writes groups into a block's staged copy, created from the current copy where absent; none is BAD_FIELD. -/
def stageGroups (b : BlockId) (groups : List FieldGroup) (s : State) : Option State :=
  match b with
  | .station =>
    (putGroups putStationField groups (s.work.stagedStation.getD s.stationBlock)).map fun x =>
      s.withWork { s.work with stagedStation := some x }
  | .prover =>
    (putGroups putProverField groups (s.work.stagedProver.getD s.proverBlock)).map fun x =>
      s.withWork { s.work with stagedProver := some x }
  | .points =>
    (putGroups putPointsField groups (s.work.stagedPoints.getD s.pointsBlock)).map fun x =>
      s.withWork { s.work with stagedPoints := some x }
  | .grades => none
  | .run r =>
    (putGroups putRunField groups ((s.work.stagedRuns.get r).getD (s.runBlock r))).map fun x =>
      s.withWork { s.work with stagedRuns := s.work.stagedRuns.set r (some x) }

/-! ### Commit (R161) -/

/-- What a commit found: no staged copy, an offending field, or the state with the new pending copy and its code. -/
inductive Commit where
  | unstaged
  | offends (field : Nat)
  | made (code : Code) (s : State)

/-- Judges a staged copy and makes it the block's pending copy (R160, R161), before the audit entry. -/
def commitBlock (b : BlockId) (s : State) : Commit :=
  let setups := s.store.points.next.setups
  match b with
  | .station =>
    match s.work.stagedStation with
    | none => .unstaged
    | some x =>
      match offending (stationConditions setups s.store.grades x) with
      | some i => .offends i
      | none => .made (stationBlockCode x)
          (s.withStore { s.store with station := { s.store.station with pending := some x } })
  | .prover =>
    match s.work.stagedProver with
    | none => .unstaged
    | some x =>
      match offending (proverConditions setups x) with
      | some i => .offends i
      | none => .made (proverBlockCode x)
          (s.withStore { s.store with prover := { s.store.prover with pending := some x } })
  | .points =>
    match s.work.stagedPoints with
    | none => .unstaged
    | some x =>
      match offending (pointsConditions s.requiredKinds x) with
      | some i => .offends i
      | none => .made (pointsBlockCode x)
          (s.withStore { s.store with points := { s.store.points with pending := some x } })
  | .grades => .unstaged
  | .run r =>
    match s.work.stagedRuns.get r with
    | none => .unstaged
    | some x =>
      match offending (runConditions setups x) with
      | some i => .offends i
      | none => .made (runBlockCode x)
          (s.withStore { s.store with
            runBlocks := s.store.runBlocks.set r { s.store.runBlocks.get r with pending := some x } })

/-! ### Marks and their conditions (R164) -/

/-- A block's mismatch mark. -/
def State.mark (s : State) : BlockId → Bool
  | .station => s.work.markStation
  | .prover => s.work.markProver
  | .points => s.work.markPoints
  | .grades => s.work.markGrades
  | .run r => s.work.markRuns.get r

def setMark (b : BlockId) (x : Bool) (s : State) : State :=
  match b with
  | .station => s.withWork { s.work with markStation := x }
  | .prover => s.withWork { s.work with markProver := x }
  | .points => s.withWork { s.work with markPoints := x }
  | .grades => s.withWork { s.work with markGrades := x }
  | .run r => s.withWork { s.work with markRuns := s.work.markRuns.set r x }

/-- Whether any of the four station-side marks is set. -/
def State.stationMarks (s : State) : Bool :=
  s.work.markStation || s.work.markProver || s.work.markPoints || s.work.markGrades

/-- The condition a block's mark drives. -/
def checkCondition : BlockId → ConditionId
  | .run r => .run .runConfigCheck r
  | _ => .station .stationConfigCheck

/-- Sets a block's mark and judges its condition active (R164, R165). -/
def raiseMark (b : BlockId) (s : State) : State := judge (checkCondition b) true (setMark b true s)

/-- Clears a block's mark where it is set, and judges its condition inactive; for the station side only when the last
of the four is cleared (R164). -/
def clearMark (b : BlockId) (s : State) : State :=
  if s.mark b then
    let s1 := setMark b false s
    match b with
    | .run r => judge (.run .runConfigCheck r) false s1
    | _ => if s1.stationMarks then s1 else judge (.station .stationConfigCheck) false s1
  else s

/-! ### Verification (R165) -/

/-- The block after another in the rotation. -/
def nextBlock : BlockId → BlockId
  | .station => .prover
  | .prover => .points
  | .points => .grades
  | .grades => .run .r1
  | .run .r1 => .run .r2
  | .run .r2 => .run .r3
  | .run .r3 => .run .r4
  | .run .r4 => .station

/-- Whether a grade entry's stored code disagrees with its fields. -/
def entryMismatch : Option GradeEntry → Bool
  | none => false
  | some e => decide (gradeEntryCode e.name e.alpha e.f e.rho ≠ e.code)

/-- Whether a block's verification finds a mismatch (R165). -/
def State.mismatch (s : State) (b : BlockId) : Bool :=
  decide (s.contentsCode b ≠ s.storedCode b) ||
    match b with
    | .grades => s.store.grades.toList.any entryMismatch
    | _ => false

/-- Verifies a block: a mismatch sets its mark and judges its condition (R165). -/
def verifyBlock (b : BlockId) (s : State) : State := if s.mismatch b then raiseMark b s else s

/-! ### Applications (R162) -/

/-- The STATION block's application: new copy and code, staged copy removed, classes brought into force (R144), mark
cleared. That the classes are in force before the mark is cleared is the model's choice (log 49). -/
def applyStation (s : State) : State :=
  match s.store.station.pending with
  | none => s
  | some x =>
    let old := s.stationBlock
    let states := s.integrities
    let s1 := s.withStore { s.store with station := { current := x, pending := none, code := stationBlockCode x } }
    clearMark .station (applyClasses old states (s1.withWork { s1.work with stagedStation := none }))

/-- The PROVER block's application. -/
def applyProver (s : State) : State :=
  match s.store.prover.pending with
  | none => s
  | some x =>
    let s1 := s.withStore { s.store with prover := { current := x, pending := none, code := proverBlockCode x } }
    clearMark .prover (s1.withWork { s1.work with stagedProver := none })

/-- The POINTS block's application, with what it does to the scanner's work (R39). -/
def applyPoints (s : State) : State :=
  match s.store.points.pending with
  | none => s
  | some x =>
    let s1 := s.withStore { s.store with points := { current := x, pending := none, code := pointsBlockCode x } }
    clearMark .points (scannerTakesPoints (s1.withWork { s1.work with stagedPoints := none }))

/-- A RUN block's application; one that names a different temperature point judges TEMPERATURE_DEVIATION from the newly
named point's status (R28). That the mark is cleared, with RUN_CONFIG_CHECK inactive (R164), before that judgement is the
model's choice (log 49). -/
def applyRun (s : State) (r : Run) : State :=
  match (s.store.runBlocks.get r).pending with
  | none => s
  | some x =>
    let old := (s.runBlock r).tempPoint
    let s1 := s.withStore { s.store with
      runBlocks := s.store.runBlocks.set r { current := x, pending := none, code := runBlockCode x } }
    let s2 := clearMark (.run r) (s1.withWork { s1.work with stagedRuns := s1.work.stagedRuns.set r none })
    if x.tempPoint = old then s2
    else judge (.run .temperatureDeviation r) (decide (s2.pointStatus (pointIndex x.tempPoint) = .deviation)) s2

/-- Every commit-pending block is applied (R162), in the order STATION, PROVER, POINTS, RUN1 to RUN4, which is the
model's choice (log 49). -/
def applyBlocks (s : State) : State :=
  allRuns.foldl applyRun (applyPoints (applyProver (applyStation s)))

/-- The applications and the verification of the block at the rotation position, in the order the boundary brings
(R165); the rotation advances. -/
def applyAndVerify (verifyFirst : Bool) (s : State) : State :=
  let b := s.work.rotation
  let s1 := if verifyFirst then applyBlocks (verifyBlock b s) else verifyBlock b (applyBlocks s)
  s1.withWork { s1.work with rotation := nextBlock b }

end Sys2Proof.Machine
end

