-- ==== Sys2Proof/Machine/Boundary.lean ====
section
/-! DEFINITION. The period boundary: the end of the period for every run and every deferred item of the part, in one order (log entry 5), with the aborts a boundary brings to a proving (R3, R12, R42, R44, R59, R78, R111, R117, R118, R134, R162, R165, R190). -/

namespace Sys2Proof.Machine

open Sys2Proof

/-- The grade of the periods that begin at a boundary: the active batch's, or the default grade of the STATION block
that will be current (R117). -/
def State.gradeNext (s : State) : Nat :=
  match s.store.active with
  | some b => b.entry.grade
  | none => s.store.station.next.defaultGrade

/-- Whether the change a boundary performs aborts a record of a grade with GRADE_CHANGE (R117). -/
def gradeAborts (event : BatchEvent) (grade : Nat) (s : State) : Bool :=
  match event with
  | .cutover => true
  | .none => s.store.station.pending.isSome && decide (s.gradeNext ≠ grade)
  | .started => decide (s.gradeNext ≠ grade)
  | .ended => decide (s.gradeNext ≠ grade)
  | .nominated => decide (s.gradeNext ≠ grade)

/-- The causes for which this boundary aborts the record holding the prover (R117, R118), in the model's order where
the boundary names none first; `wasOpen` is the service state before the boundary. -/
def boundaryCauses (event : BatchEvent) (before s : State) : List EndCause :=
  match s.store.record with
  | none => []
  | some r =>
    let run := r.request.run
    (if gradeAborts event r.grade s then [.gradeChange] else []) ++
    (if (s.store.runBlocks.get run).pending.isSome || s.store.prover.pending.isSome then [.configChanged] else []) ++
    (if (before.store.runs.get run).pendingService = some .closed then [.runClosed] else [])

/-- The cause taken first among those of a boundary: the one the boundary names, where it is one of them (R118). -/
def firstCause (want : EndCause) (causes : List EndCause) : Option EndCause :=
  if want ∈ causes then some want else causes.head?

/-- Aborts the record holding the prover with the cause taken first, if there is one. -/
def boundaryAbort (want : EndCause) (causes : List EndCause) (s : State) : State :=
  match firstCause want causes with
  | some c => abortRecord c s
  | none => s

/-- The deferred items of a boundary, once its period has been credited: flow stability, the batch sequencer, curves,
service changes, the aborts of R117 and R118, the applications and the verification. Where the boundary names
RUN_FAILED first, the applications (which may fail the run by its classes) come before the aborts. -/
def deferredItems (order : BoundaryOrder) (s : State) : State :=
  let q := sequence (checkStability s)
  let s1 := allRuns.foldl applyService (allRuns.foldl applyCurve q.1)
  let causes := boundaryCauses q.2 s s1
  if order.causeFirst = .runFailed then
    let s2 := applyAndVerify order.verifyFirst s1
    if s2.store.record.isSome then boundaryAbort order.causeFirst causes s2 else s2
  else applyAndVerify order.verifyFirst (boundaryAbort order.causeFirst causes s1)

/-- The beginning of the next period (R12, R42, R55): the counting channels fixed, the period timer started with the
period length in force, and the period in progress marked for every run that is not SOUND as it begins. -/
def beginPeriod (s : State) : State :=
  let s1 := allRuns.foldl fixCounting s
  s1.withTotalizer { s1.totalizer with
    periodLength := s1.stationBlock.periodLength
    periodStart := s1.counter
    unsound := PerRun.tab fun r => s1.totalizer.unsound.get r || decide (s1.integrity r ≠ .sound) }

/-- A boundary (R42, R43): the period of `pe` counts ends, the deferred items are performed, the next period begins. -/
def boundary (closing : Bool) (pe : Nat) (order : BoundaryOrder) (s : State) : State :=
  beginPeriod (deferredItems order (endPeriod closing pe s))

/-- An ordinary boundary: the period has exactly the length its timer was started with (R42). The first full period
after a warm start has ended (R194), and a record that left the prover lets the next be granted (R101). One taken at the
instant of an acceptance of the reset line, second, is not made (R192), nor one at the instant a start or a boundary has
started the period timer afresh (R42, R44). -/
def ordinaryBoundary (order : BoundaryOrder) (s : State) : State :=
  if s.resetInstant || s.beginsNow s.totalizer.periodStart then s
  else
    let s1 := boundary false (s.totalizer.periodLength * (Config.countsPerSecond / 1000)) order s
    settle s (s1.withSupply { s1.supply with firstPeriod := false })

end Sys2Proof.Machine
end

