-- ==== Sys2Proof/Machine/Power.lean ====
section
/-! DEFINITION. Power supervision: the retention check, warm and cold starts, the closing period and the HALTED state, power lines and the reset line (chapter 11, with the start tables of every chapter). -/

namespace Sys2Proof.Machine

open Sys2Proof

/-! ### Starts (R189, R192) -/

/-- The retention check: the check code agrees and the format mark is there (R192). -/
def retentionCheck (st : Store) : Bool := st.codeAgrees && st.formatMark

/-- The record holding the prover at a start, filed as ABORTED(POWER) (R125). -/
def fileRecord (now : Nat) (st : Store) : Store :=
  match st.record with
  | none => st
  | some r =>
    { st with
      record := none
      history := pushHistory st.history
        { r with state := .aborted, cause := some .power, ended := some now, current := none } }

/-- The retention store after a warm start (R192): kept, with the outage charged (R83) and the record filed (R125). -/
def warmStore (now : Nat) (st : Store) : Store :=
  let st1 := fileRecord now st
  { st1 with active := st1.active.map (chargeOutage now st1.lastBoundary) }

/-- Every block's state that is not retained, set for a start (R22, R41, R65, R84, R125, R157, R172, R188, R193). -/
def freshState (clock : Nat) (st : Store) (s : State) : State :=
  { lines := s.lines
    supply := { power := .running, resetQualifying := false, byReset := false, firstPeriod := false, seconds := 0 }
    clock := clock
    counter := 0
    store := st
    pulse := freshPulse st
    scanner := freshScanner
    totalizer := freshTotalizer st
    change := .none
    requests := []
    work := freshWork
    monitor := freshMonitor
    link := freshLink s.lines
    pending := s.pending }

/-- The starting judgement, and the reading of the line if the part is then PERMIT (R157). -/
def startingJudgement (k : StationKind) (s : State) : State :=
  let s1 := judge (.station k) true s
  if s1.monitor.withdrawn then s1 else readLine s1

/-- A start (R192): warm where the retention store passes its check, otherwise cold; the first normal conversion starts
at once if there is one (R41). -/
def performStart (s : State) : State :=
  if retentionCheck s.store then
    let s1 := startingJudgement .powerInterrupted (freshState s.clock (warmStore s.clock s.store) s)
    nextConversion (s1.withSupply { s1.supply with firstPeriod := true })
  else
    nextConversion (startingJudgement .retentionLost (freshState 0 (factoryStore 0) s))

/-! ### The warning and the HALTED state (R190) -/

/-- A channel with its qualification abandoned (R5). -/
def abandonChannel (x : PulseChannel) : PulseChannel := { x with qualifying := none }

/-- A detector with its qualification abandoned (R5). One that is DEAD stays so while the part is HALTED, its dead time
expiring at no instant before the start that makes it IDLE: the model's choice (log 58). -/
def abandonDetector (x : DetectorState) : DetectorState :=
  if x.phase = .qualifying then { x with phase := .idle } else x

/-- The pulse input unit HALTED (R5). -/
def haltPulse (u : PulseUnit) : PulseUnit :=
  { runs := PerRun.tab fun r =>
      { u.runs.get r with a := abandonChannel (u.runs.get r).a, b := abandonChannel (u.runs.get r).b }
    d1 := abandonDetector u.d1
    d2 := abandonDetector u.d2 }

/-- The scanner HALTED (R40): the conversion abandoned, the chain slots emptied, the stale timers stopped. -/
def haltScanner (x : Scanner) : Scanner :=
  { x with converter := none, active := none, waiting := none,
           points := x.points.map fun p => { p with staleTimer := none } }

/-- The monitor HALTED (R155): line released, hold timer stopped, filter IDLE, table cleared. -/
def haltMonitor (m : Monitor) : Monitor :=
  { m with table := clearTable, withdrawn := false, hold := none, filter := none }

/-- The link HALTED (R188): the reply abandoned with no fault or cut off, the receiver OFF, the silence timer stopped. -/
def haltLink (l : Link) : Link := { l with reply := .none, sent := [], receiver := .off, silence := none }

/-- The part becomes HALTED: every block's work stops. -/
def halt (s : State) : State :=
  let s1 := s.withPulse (haltPulse s.pulse)
  let s2 := s1.withScanner (haltScanner s1.scanner)
  let s3 := s2.withMonitor (haltMonitor s2.monitor)
  let s4 := s3.withLink (haltLink s3.link)
  s4.withSupply { s4.supply with power := .halted, resetQualifying := false, firstPeriod := false }

/-- The length of a closing period: from the start of the period to the warning, by the timing counter (R43). -/
def closingLength (s : State) : Nat := stampDiff s.counter s.totalizer.periodStart

/-- The closing work of a warning taken while RUNNING (R190): the proving record is aborted with POWER (R124), the
period ends as a closing period, and the part is HALTED. No grant is made (R101). -/
def closeAndHalt (order : BoundaryOrder) (s : State) : State :=
  halt (boundary true (closingLength s) order (abortRecord .power s))

/-- The warning line is asserted (R190): an event only while RUNNING. -/
def takeWarning (order : BoundaryOrder) (s : State) : State :=
  let s1 := s.withLines { s.lines with warning := true }
  if s1.running then closeAndHalt order s1 else s1

/-- The warning line is deasserted (R189, R191): with main power present, a part that is not RUNNING starts. -/
def dropWarning (s : State) : State :=
  let s1 := s.withLines { s.lines with warning := false }
  if s1.lines.mainPower && !s1.running then performStart s1 else s1

/-- Main power becomes present (R189): an UNPOWERED part starts if the warning line is deasserted, else it waits. -/
def powerReturns (s : State) : State :=
  let s1 := s.withLines { s.lines with mainPower := true }
  if decide (s1.supply.power = .unpowered) && !s1.lines.warning then performStart s1 else s1

/-- Main power fails (R189): UNPOWERED from any state, with no closing period. -/
def powerFails (s : State) : State :=
  (s.withLines { s.lines with mainPower := false }).withSupply { s.supply with power := .unpowered }

/-- The backup supply fails (R192): while main power is absent, the retention store and the station clock are lost. -/
def backupFails (s : State) : State :=
  if s.lines.mainPower then s
  else (s.withStore { s.store with formatMark := false, codeAgrees := false }).withClock Config.lostClock

/-! ### The reset line (R193) -/

/-- The reset line falls: the filter starts to qualify if the part is RUNNING and the filter IDLE. -/
def resetFalls (s : State) : State :=
  let fell := !s.lines.resetLow
  let s1 := s.withLines { s.lines with resetLow := true }
  if fell && s.running then s1.withSupply { s1.supply with resetQualifying := true } else s1

/-- The reset line rises: a qualification in progress ends. -/
def resetRises (s : State) : State :=
  (s.withLines { s.lines with resetLow := false }).withSupply { s.supply with resetQualifying := false }

/-- The qualification time expires with the line still low: a start without a closing period. -/
def resetQualifies (s : State) : State :=
  if s.supply.resetQualifying && s.lines.resetLow then
    let s1 := performStart s
    s1.withSupply { s1.supply with byReset := true }
  else s

end Sys2Proof.Machine
end

