-- ==== Sys2Proof/Machine/Link.lean ====
section
/-! DEFINITION. The station link's shared operations: frame faults, the station compare, queueing a reply, abandoning one, and taking a whole request frame (R176, R180 to R184, R187). -/

namespace Sys2Proof.Machine

open Sys2Proof

/-- Records a frame fault (R180). -/
def recordFault (f : FrameFault) (s : State) : State :=
  s.withLink { s.link with fault := f, faultTime := some s.clock, faultCount := countUp 255 s.link.faultCount }

/-- Abandons a queued reply that has not begun, recording REPLY_ABANDONED; an owed restart is performed at that instant.
The Bool answers whether it was (R183, R187). -/
def abandonReply (s : State) : State × Bool :=
  match s.link.reply with
  | .queued r =>
    let s1 := recordFault .replyAbandoned (s.withLink { s.link with reply := .none })
    if r.restart then (performStart s1, true) else (s1, false)
  | .sending _ => (s, false)
  | .none => (s, false)

/-- The receiver takes the last character of a frame: READY, with the silence timer restarted (R174, R175). -/
def frameEnds (s : State) : State := s.withLink { s.link with receiver := .ready, silence := some s.counter }

/-- A reply is formed and queued, with the part's number and the reply marker (R181, R197). -/
def queueReply (type : Nat) (tag : Tag) (a : Answer) (s : State) : State :=
  s.withLink { s.link with
    reply := .queued
      { station := s.link.station + 128, type := type, tag := tag, status := a.status, body := a.body,
        restart := a.restart, formed := s.counter } }

/-- A request addressed to the part is taken and its reply queued (R181). -/
def takeRequest (type : Nat) (tag : Tag) (handler : State → State × Answer) (s : State) : State :=
  let a := handler s
  queueReply type tag a.2 a.1

/-- The whole frame of a request reaches the part (log entry 3): nothing while the part is not RUNNING or is sending;
at the station compare of its own frame a queued reply is abandoned, and an owed restart loses the frame (R176, R183,
R187); an addressed request is taken and answered (R181), a broadcast one is taken only if it acts when broadcast, and
not answered (R184); a frame of another station is counted off (R176). At the instant of an acceptance of the reset line
the frame is lost with the link's state (R188) and no update is made (R192). -/
def requestFrame (dt : Nat) (h : Header) (type : Nat) (actsBroadcast : Bool) (handler : State → State × Answer)
    (s : State) : Host.Outcome State Fault Refusal :=
  if s.running then
    let s1 := advance dt s
    if s1.link.receiver = .off ∨ s1.resetInstant = true then .next s1
    else if h.station = 0 then
      let c := abandonReply s1
      if c.2 then .next c.1
      else .next (if actsBroadcast then (handler (frameEnds c.1)).1 else frameEnds c.1)
    else if h.station = s1.link.station then
      let c := abandonReply s1
      if c.2 then .next c.1
      else .next (takeRequest type h.tag handler (frameEnds c.1))
    else .next (frameEnds s1)
  else .next s

end Sys2Proof.Machine
end

