-- ==== Sys2Proof/Machine/Readout.lean ====
section
/-! DEFINITION. The record streams of the reading requests (R20, R38, R61, R63, R69, R82, R94, R123, R138, R147, R163, R170, R186), laid out by R198 to R202: where section 12.4 to 12.6 gives no layout, the items in the order the owning rule lists them. -/

namespace Sys2Proof.Machine

open Sys2Proof

/-! ### Shared pieces -/

def encodeTotals (w : Nat) (t : Totals) : List Byte :=
  num w t.iv ++ num w t.gsv ++ num w t.nsv ++ num w t.mass ++ num w t.pulses

def encodeSplit (x : Split) : List Byte := encodeTotals 5 x.good ++ encodeTotals 5 x.flagged

def optNat (w : Nat) (x : Option Nat) : List Byte := optional w (x.map (num w))

/-- A weighted sum: 10⁻⁶ of its unit, signed, eight characters (R198). -/
def encodeSum (x : Rat) : List Byte := signed 8 (roundTo 6 x)

def encodeSums (x : WeightedSums) : List Byte :=
  encodeSum x.iv ++ encodeSum x.tIV ++ encodeSum x.pIV ++ encodeSum x.mfIV ++ encodeSum x.gsv ++ encodeSum x.wGSV

def encodeBatchEntry (e : BatchEntry) : List Byte :=
  num 3 e.id ++ num 1 e.grade ++ optNat 5 e.nomination ++ optional 8 (e.destination.map (text 8))

/-! ### PLSG (R20) -/

def qualifyingNumber (x : PulseChannel) : Nat := if x.qualifying.isSome then 1 else 0
def lostNumber (x : PulseChannel) : Nat := if x.lost then 1 else 0

/-- The stream of PLSG. The order of the counts within an item is the model's choice (log 56), and so are the detectors' states
before their stamps (log 57). -/
def plsgStream (r : Run) (s : State) : List Byte :=
  let p := s.runPulse r
  enum (channelNumber p.counting) ++ enum (lostNumber p.a) ++ enum (lostNumber p.b) ++
  enum (qualifyingNumber p.a) ++ enum (qualifyingNumber p.b) ++
  num 2 p.a.forward ++ num 2 p.a.reverse ++ num 2 p.b.forward ++ num 2 p.b.reverse ++
  num 2 p.a.window ++ num 2 p.b.window ++ num 2 p.a.noise ++ num 2 p.b.noise ++
  num 2 p.w ++ num 1 p.l ++ num 2 p.noiseLimit ++ num 1 (s.runBlock r).m ++
  num 1 p.a.silence ++ num 1 p.b.silence ++ num 1 p.mismatch ++ num 1 p.matched ++
  flag p.testMark ++ enum (testNumber p.lastTest) ++ optNat 4 p.lastTestTime ++
  enum (phaseNumber s.pulse.d1.phase) ++ enum (phaseNumber s.pulse.d2.phase) ++
  optional 6 (s.pulse.d1.last.map stamp) ++ optional 6 (s.pulse.d2.last.map stamp) ++ stamp s.counter

/-! ### PRDG (R38) -/

/-- A point of PRDG. The value and the time as two optional fields are the model's choice (log 46). -/
def encodePoint (s : State) (p : Fin 16) : List Byte :=
  let u := s.setup p
  let x := s.scanner.points[p]
  enum (kindNumber u.kind) ++ num 1 u.input ++ enum (pointStatusNumber x.status) ++
  optional 4 (x.reading.map fun r => pointValue u.kind r.value) ++ optional 4 (x.reading.map fun r => num 4 r.time) ++
  pointValue u.kind s.store.substitutes[p] ++ optNat 1 u.partner

/-- The scanner's state of PRDG. One presence character for the converting point and its sort, and the scan position
sent as the number of the point there, are the model's choices (log 46). -/
def encodeScanner (s : State) : List Byte :=
  let x := s.scanner
  enum (if x.converter.isSome then 1 else 0) ++
  optional 2 (x.converter.map fun c => num 1 c.point ++ enum (if c.injected then 1 else 0)) ++
  optNat 1 (s.pointsBlock.scanList[x.position]?) ++
  flag x.active.isSome ++ flag x.waiting.isSome ++ num 2 x.refused

def prdgStream (p : Option (Fin 16)) (s : State) : List Byte :=
  (match p with
   | some p => encodePoint s p
   | none => ((List.finRange 16).map (encodePoint s)).flatten) ++ encodeScanner s

/-! ### TOTG (R61) -/

/-- A residue truncated to 0.0001 of its unit, in two characters. -/
def encodeResidue (x : Rat) : List Byte := whole 2 (x * 10000).floor

/-- An exact period quantity in litres or kilograms, rounded to 0.001, in five characters. -/
def encodeQuantity (x : Rat) : List Byte := whole 5 (roundTo 3 x)

/-- The last period results (R58). Pe as timing-counter counts in 6 characters is the model's choice (log 19), and so are the
three statuses before the three flags of substitution (log 56). -/
def encodeLastPeriod (f : LastPeriod) : List Byte :=
  num 4 f.time ++ num 6 f.length ++ enum (if f.closing then 1 else 0) ++ enum (channelNumber f.counting) ++
  num 2 f.n ++ num 2 f.reverse ++ encodeQuantity (f.iv * 1000) ++ num 4 f.q ++ num 2 f.mf ++
  temperature f.t ++ pressure f.p ++ water f.wc ++
  enum (pointStatusNumber f.tStatus) ++ enum (pointStatusNumber f.pStatus) ++ enum (pointStatusNumber f.wStatus) ++
  flag (decide (f.tStatus ≠ .good)) ++ flag (decide (f.pStatus ≠ .good)) ++ flag (decide (f.wStatus ≠ .good)) ++
  whole 4 f.ctl ++ whole 4 f.cpl ++ whole 4 f.ccf ++
  encodeQuantity (f.gsv * 1000) ++ encodeQuantity (f.nsv * 1000) ++ encodeQuantity f.mass ++
  num 1 f.grade ++ optNat 3 f.batch ++ enum (serviceNumber f.service) ++ flag f.flagged

def encodeRunTotals (s : State) (r : Run) : List Byte :=
  let x := s.store.runs.get r
  enum (serviceNumber x.service) ++ optional 1 (x.pendingService.map fun v => enum (serviceNumber v)) ++
  encodeSplit x.cumulative ++ num 5 x.reverse ++ encodeSplit x.noBatch ++
  encodeResidue x.residues.iv ++ encodeResidue x.residues.gsv ++ encodeResidue x.residues.nsv ++
  encodeResidue x.residues.mass ++ optional 75 ((s.totalizer.last.get r).map encodeLastPeriod)

def totgStream (r : Option Run) (s : State) : List Byte :=
  (match r with
   | some r => encodeRunTotals s r
   | none => (allRuns.map (encodeRunTotals s)).flatten) ++ num 4 s.store.lastBoundary

/-! ### SNPG (R63, R202) -/

def encodeSnapshot (x : Snapshot) : List Byte :=
  num 4 x.time ++ num 4 x.boundary ++ (x.runs.list.map encodeSplit).flatten ++
  optional 203 (x.batch.map fun b => num 3 b.1 ++ (b.2.list.map encodeSplit).flatten)

/-! ### GGET (R69) -/

/-- Whether GSET of a grade would be refused with GRADE_IN_USE (R68). -/
def State.gradeInUse (s : State) (g : Nat) : Bool :=
  (match s.store.active with
   | some b => decide (b.entry.grade = g)
   | none => false) ||
  (match s.store.record with
   | some r => decide (r.grade = g)
   | none => false)

/-- A grade of GGET. That the presence character of its fields stands for EMPTY or HOLDING is the model's choice (log 56). -/
def encodeGrade (s : State) (g : Nat) : List Byte :=
  optional 26 ((s.gradeEntry g).map fun e => encodeGradeFields e.name e.alpha e.f e.rho ++ code e.code) ++
  flag (s.gradeInUse g)

def ggetStream (g : Option Nat) (s : State) : List Byte :=
  (match g with
   | some g => encodeGrade s g
   | none => ((List.range 16).map fun i => encodeGrade s (i + 1)).flatten) ++ code s.store.gradesCode

/-! ### BGET (R82) -/

/-- The active batch record (R73, R82). Its period counts in 4 characters, its interruption count in 2 and the grouping of
its items, each over the four runs, are the model's choices (log 47). -/
def encodeActiveBatch (b : ActiveBatch) : List Byte :=
  encodeBatchEntry b.entry ++ num 4 b.start ++
  (b.runs.list.map fun x => encodeSplit x.opening).flatten ++ (b.runs.list.map fun x => encodeSplit x.acc).flatten ++
  (b.runs.list.map fun x => encodeSums x.sums).flatten ++
  (b.runs.list.map fun x => num 4 x.periods ++ num 4 x.flaggedPeriods).flatten ++
  num 2 b.interruptions ++ num 4 b.outage ++ flag b.reached

/-- The length of an active batch record on the link. -/
def activeBatchLength : Nat := 19 + 4 + 4 * 50 + 4 * 50 + 4 * 48 + 4 * 8 + 2 + 4 + 1

/-- The id of the reserved head: the queue's head while a START or CUTOVER is pending (R70, R75). -/
def State.reservedHead (s : State) : Option Nat :=
  if s.change = .start ∨ s.change = .cutover then s.store.queue.head?.map (·.id) else none

/-- Whether a nomination close is now deferred (R82). -/
def State.closeDeferred (s : State) : Bool :=
  match s.store.active with
  | some b => b.reached && decide (s.change = .none)
  | none => false

/-- The stream of BGET. With no active batch the total GSV is sent as 0 and the reached flag as clear: the model's
choice (log 47). -/
def bgetStream (s : State) : List Byte :=
  optional activeBatchLength (s.store.active.map encodeActiveBatch) ++
  num 6 ((s.store.active.map batchGSV).getD 0) ++ flag ((s.store.active.map (·.reached)).getD false) ++
  flag s.closeDeferred ++ enum (changeNumber s.change) ++ optNat 3 s.reservedHead ++
  counted (s.store.queue.map encodeBatchEntry) ++ num 4 s.store.lastBoundary

/-! ### TGET (R94, R200) -/

def encodeTicketRun (x : TicketRun) : List Byte :=
  encodeSplit x.opening ++ encodeSplit x.closing ++ encodeSplit x.acc ++ num 4 x.periods ++ num 4 x.flaggedPeriods ++
  encodeSums x.sums ++ optional 2 (x.avgT.map (signed 2)) ++ optional 4 (x.avgP.map (signed 4)) ++
  optional 2 (x.avgMF.map (whole 2)) ++ optional 2 (x.avgW.map (whole 2)) ++ [0, 0]

/-- One quantity of the station sums: GOOD, FLAGGED and total in six characters each (R200). -/
def encodeStationSum (g f t : Nat) : List Byte := num 6 g ++ num 6 f ++ num 6 t

def encodeTicket (t : Ticket) : List Byte :=
  num 5 t.number ++ encodeBatchEntry t.entry ++ num 4 t.start ++ num 4 t.finish ++ enum (closeNumber t.cause) ++
  flag t.reached ++ num 2 t.interruptions ++ num 4 t.outage ++ (t.runs.list.map encodeTicketRun).flatten ++
  encodeStationSum t.stationGood.iv t.stationFlagged.iv t.stationTotal.iv ++
  encodeStationSum t.stationGood.gsv t.stationFlagged.gsv t.stationTotal.gsv ++
  encodeStationSum t.stationGood.nsv t.stationFlagged.nsv t.stationTotal.nsv ++
  encodeStationSum t.stationGood.mass t.stationFlagged.mass t.stationTotal.mass ++
  encodeStationSum t.stationGood.pulses t.stationFlagged.pulses t.stationTotal.pulses ++
  num 5 t.periods ++ num 5 t.flaggedPeriods ++ optional 2 (t.avgW.map (whole 2))

/-- A ticket of the store with its location character: 0 in the slots, 1 in the held record (R200). -/
def findTicket (n : Nat) (s : State) : Option (Nat × Ticket) :=
  match s.store.slots.find? fun t => decide (t.number = n) with
  | some t => some (0, t)
  | none =>
    match s.store.held with
    | some t => if t.number = n then some (1, t) else none
    | none => none

/-- A ticket's line in the directory (R94). -/
def encodeDirectoryTicket (t : Ticket) : List Byte :=
  num 5 t.number ++ num 3 t.entry.id ++ num 1 t.entry.grade ++ enum (closeNumber t.cause) ++ num 4 t.finish ++
  num 6 t.stationTotal.gsv

/-- The store's directory (R94). That the held ticket's line is counted in the one list with the slots' is the model's
choice (log 57). -/
def ticketDirectory (s : State) : List Byte :=
  counted ((s.store.slots ++ s.store.held.toList).map encodeDirectoryTicket) ++ num 5 s.store.ticketCounter

/-! ### PGET (R123, R201) -/

/-- Where a record stands: holding the prover 0, pending 1, history 2 (R123). -/
def findRecord (n : Nat) (s : State) : Option (Nat × ProvingRecord) :=
  match s.store.record with
  | some r => if r.number = n then some (0, r) else findEnded n s
  | none => findEnded n s
where
  /-- A record that has left the prover: a pending result, or one of the history. -/
  findEnded (n : Nat) (s : State) : Option (Nat × ProvingRecord) :=
    match (s.store.results.list.filterMap id).find? fun r => decide (r.number = n) with
    | some r => some (1, r)
    | none => (s.store.history.find? fun r => decide (r.number = n)).map fun r => (2, r)

def optStamp (x : Option Stamp) : List Byte := match x with
  | some t => stamp t
  | none => List.replicate 6 0

/-- The stamp mask: t_d0, t_p0, t_d1 and t_p1 are bits 0 to 3 (R201). -/
def stampMask (p : PassState) : Nat :=
  (if p.d0.isSome then 1 else 0) + (if p.p0.isSome then 2 else 0) + (if p.d1.isSome then 4 else 0) +
  (if p.p1.isSome then 8 else 0)

/-- The marks: READING_INVALID, FLOW_UNSTABLE and RUN_DEGRADED are bits 0 to 2 (R201). -/
def markBits (m : RoundMarks) : Nat :=
  (if m.readingInvalid then 1 else 0) + (if m.flowUnstable then 2 else 0) + (if m.runDegraded then 4 else 0)

/-- The round in progress. The pass sent as 1 or 2, and in TURN, with no pass running, as the finished first one, are the
model's choices (log 54). -/
def encodeRoundInProgress (c : RoundState) : List Byte :=
  let p := currentPass c
  num 1 (passNumber c) ++ num 1 (stampMask p) ++ optStamp p.d0 ++ optStamp p.p0 ++ optStamp p.d1 ++ optStamp p.p1 ++
  num 4 p.count ++ optNat 4 p.startRate ++ num 1 (markBits c.marks)

/-- A result. The curve value of one that was checked against none, FAILED with MF_RANGE, sent as 0, and zero characters in
the places of the 10 round numbers that its rounds do not fill, are the model's choices (log 48). -/
def encodeResult (r : ProvingResult) : List Byte :=
  whole 2 r.mf ++ num 4 r.rate ++ whole 4 (roundTo 8 r.spread) ++ num 1 r.rounds.length ++
  (r.rounds.map (num 1)).flatten ++ List.replicate (10 - r.rounds.length) 0 ++ num 2 (r.curveValue.getD 0) ++
  flag r.deviating

def encodePass (p : PassFigures) : List Byte := num 4 p.n ++ num 6 p.dd ++ num 6 p.dp ++ num 5 p.ni ++ num 4 p.rate

def encodeFigures (f : RoundFigures) : List Byte :=
  temperature f.tm ++ pressure f.pm ++ temperature f.tp ++ pressure f.pp ++ whole 4 f.cts ++ whole 4 f.cps ++
  whole 4 f.ctlp ++ whole 4 f.cplp ++ whole 4 f.ctlm ++ whole 4 f.cplm ++ whole 4 f.mf

def encodeRound (e : RoundEntry) : List Byte :=
  num 1 e.number ++ enum (detectorNumber e.start) ++ enum (outcomeNumber e.discarded) ++ encodePass e.first ++
  encodePass e.second ++ num 4 e.rate ++ optional 40 (e.figures.map encodeFigures)

/-- A proving record's stream: a head of 108 characters, then 98 for each round (R201). The decision time of a record
not decided is sent as 0: the model's choice (log 48). -/
def encodeRecord (place : Nat) (r : ProvingRecord) : List Byte :=
  num 4 r.number ++ enum place ++ num 1 (runNumber r.request.run) ++ num 1 r.request.rounds ++
  num 1 r.request.attempts ++ num 2 r.request.limit ++ num 1 r.grade ++ num 4 r.k ++ num 4 r.vb ++ num 4 r.gamma ++
  num 4 r.g ++ enum (recordStateNumber r.state) ++ enum ((r.cause.map causeNumber).getD 0) ++ num 4 r.granted ++
  optNat 4 r.ended ++ num 1 r.attempts ++ num 1 r.accepted ++
  optional 36 (r.current.map encodeRoundInProgress) ++ optional 24 (r.result.map encodeResult) ++
  enum (decisionNumber r.decision) ++ num 4 (r.decided.getD 0) ++ counted (r.rounds.map encodeRound)

def encodeRequest (q : ProvingRequest) : List Byte :=
  num 1 (runNumber q.run) ++ num 1 q.rounds ++ num 1 q.attempts ++ num 2 q.limit ++ num 4 q.queued

/-- A record's line of the directory's history: number, state, and cause or decision (R123), in one character: the model's
choice (log 54). -/
def encodeHistoryLine (r : ProvingRecord) : List Byte :=
  num 4 r.number ++ enum (recordStateNumber r.state) ++
  enum (match r.cause with
    | some c => causeNumber c
    | none => decisionNumber r.decision)

/-- The controller's directory (R123). The record holding the prover as one optional field is the model's choice (log 57). -/
def provingDirectory (s : State) : List Byte :=
  enum (if s.store.proverEnabled then 0 else 1) ++ counted (s.requests.map encodeRequest) ++
  optional 6 (s.store.record.map fun r =>
    num 4 r.number ++ num 1 (runNumber r.request.run) ++ enum (recordStateNumber r.state)) ++
  (s.store.results.list.map fun x => optNat 4 (x.map (·.number))).flatten ++
  counted (s.store.history.map encodeHistoryLine) ++ num 4 s.store.provingCounter

/-! ### MFGT (R138) -/

def encodeCurvePoint (p : CurvePoint) : List Byte := num 4 p.rate ++ num 2 p.mf ++ num 4 p.origin ++ num 4 p.date

def encodeCurve (c : List CurvePoint) : List Byte := counted (c.map encodeCurvePoint)

def encodeLookup (c : List CurvePoint) (q : Nat) : List Byte := num 2 (lookup c q) ++ flag (extrapolated c q)

/-- The stream of MFGT. A pending curve that is not present is sent as its presence character and a count of 0, and the two
lookups are an optional field each: the model's choices (logs 56 and 57). -/
def mfgtStream (r : Run) (rate : Option Nat) (s : State) : List Byte :=
  let cur := s.store.curves.get r
  let pend := s.store.pendingCurves.get r
  encodeCurve cur ++ optional 1 (pend.map encodeCurve) ++ optional 3 (rate.map (encodeLookup cur)) ++
  optional 3 (rate.bind fun q => pend.map fun c => encodeLookup c q)

/-! ### CNDG (R147, R202) -/

def encodeCondition (s : State) (i : ConditionId) : List Byte :=
  let c := s.monitor.table.get i
  num 1 (conditionKindNumber i) ++ num 1 (conditionScopeNumber i) ++ flag c.active ++ flag c.latched ++ num 1 c.count ++
  optNat 4 c.lastOn ++ optNat 4 c.lastOff ++ enum (classNumber (conditionClass s.stationBlock i))

def cndgRunStream (r : Run) (s : State) : List Byte :=
  ((runConditionIds r).map (encodeCondition s)).flatten ++ enum (integrityNumber (s.integrity r))

def cndgStationStream (s : State) : List Byte := (stationConditionIds.map (encodeCondition s)).flatten

/-- The time remaining to the hold timer's expiry, in whole milliseconds (log entry 22). -/
def holdRemaining (h : Timer) (now : Stamp) : Nat :=
  let left := h.length * Config.countsPerSecond - stampDiff now h.started
  (roundHalf ((left : Rat) / ((Config.countsPerSecond / 1000 : Nat) : Rat))).toNat

def encodeSummaryLine (s : State) (i : ConditionId) : List Byte :=
  let c := s.monitor.table.get i
  num 1 (conditionKindNumber i) ++ num 1 (conditionScopeNumber i) ++ flag c.active ++ flag c.latched ++ num 1 c.count

/-- The summary of CNDG. The order of its records, the presence character that says whether the hold timer runs, and the
character for current 0 or held 1 outside the optional level are the model's choices (log 52). -/
def cndgSummary (s : State) : List Byte :=
  (allRuns.map fun r => enum (integrityNumber (s.integrity r))).flatten ++
  counted ((allConditionIds.filter fun i => (s.monitor.table.get i).active || (s.monitor.table.get i).latched).map
    (encodeSummaryLine s)) ++
  enum (if s.monitor.withdrawn then 1 else 0) ++
  optional 2 (s.monitor.hold.map fun h => num 2 (holdRemaining h s.counter)) ++
  optional 1 (s.monitor.seen.map fun high => enum (if high then 0 else 1)) ++
  enum (if s.monitor.withdrawn then 1 else 0) ++ flag s.monitor.filter.isSome

/-! ### CGET (R163) -/

inductive BlockCopy where
  | current | staged | pending
  deriving DecidableEq, Repr

/-- The copy a number names, in the order of R163. -/
def copyOf (n : Nat) : Option BlockCopy :=
  match n with
  | 0 => some .current
  | 1 => some .staged
  | 2 => some .pending
  | _ => none

/-- A copy's fields and code: the stored code for a current copy, the computed one for the others; none where it is not
present. -/
def copyFields {α : Type} (enc : α → List Byte) (slot : Slot α) (staged : Option α) : BlockCopy → Option (List Byte)
  | .current => some (enc slot.current ++ code slot.code)
  | .staged => staged.map fun x => enc x ++ code (checkCode (enc x))
  | .pending => slot.pending.map fun x => enc x ++ code (checkCode (enc x))

def blockCopy (b : BlockId) (c : BlockCopy) (s : State) : Option (List Byte) :=
  match b with
  | .station => copyFields encodeStationBlock s.store.station s.work.stagedStation c
  | .prover => copyFields encodeProverBlock s.store.prover s.work.stagedProver c
  | .points => copyFields encodePointsBlock s.store.points s.work.stagedPoints c
  | .grades => some (ggetStream none s)
  | .run r => copyFields encodeRunBlock (s.store.runBlocks.get r) (s.work.stagedRuns.get r) c

def cgetStream (b : BlockId) (c : BlockCopy) (s : State) : Option (List Byte) :=
  (blockCopy b c s).map fun x => x ++ flag (s.commitPending b) ++ flag (s.staged b) ++ flag (s.mark b)

/-! ### AGET (R170, R202) -/

def encodeAuditPoint (p : Option CurvePoint) : List Byte := optional 14 (p.map encodeCurvePoint)

def auditKindNumber : AuditData → Nat
  | .configCommit _ _ _ _ => 0
  | .gradeSet _ _ _ => 1
  | .curveChange _ _ _ _ => 2
  | .substituteSet _ _ _ => 3
  | .timeSet _ _ => 4
  | .runService _ _ => 5
  | .retentionAck _ _ _ => 6

def encodeAuditData : AuditData → List Byte
  | .configCommit b old new gsv => num 1 (blockNumber b) ++ code old ++ code new ++ optNat 6 gsv
  | .gradeSet g old new => num 1 (blockNumber .grades) ++ num 1 g ++ code old ++ code new
  | .curveChange old removed new gsv =>
    encodeAuditPoint old ++ encodeAuditPoint removed ++ encodeAuditPoint new ++ num 6 gsv
  | .substituteSet p old new => num 1 p ++ signed 4 old ++ signed 4 new
  | .timeSet old new => num 4 old ++ num 4 new
  | .runService v gsv => enum (serviceNumber v) ++ num 6 gsv
  | .retentionAck reckoned seconds time => num 4 reckoned ++ num 4 seconds ++ num 4 time

def encodeAuditEntry (e : AuditEntry) : List Byte :=
  code e.seq ++ num 4 e.time ++ enum (auditKindNumber e.data) ++ num 1 ((e.scope.map runNumber).getD 0) ++
  encodeAuditData e.data

/-- The trail's summary (R170). That the oldest and the newest sequence number are two optional fields, a presence
character each, is the model's choice (log 57). -/
def auditSummary (s : State) : List Byte :=
  num 1 s.store.audit.length ++ optional 4 (s.store.audit.head?.map fun e => code e.seq) ++
  optional 4 (s.store.audit.getLast?.map fun e => code e.seq) ++ code s.store.auditCounter ++ flag s.retentionLost

/-! ### STAT (R186) -/

/-- The stream of STAT. The part code in 2 characters, the revision letter as its code in one and the fault count in one are
the model's choices (log 55), and so is the record holding the prover as one optional field (log 57). -/
def statStream (s : State) : List Byte :=
  bigEndian 2 Config.partCode.toNat ++ num 1 (0x41 + Config.revision.val) ++ num 1 s.link.station ++
  enum (rateNumber s.link.rate) ++ num 4 s.clock ++
  (allRuns.map fun r =>
    enum (serviceNumber (s.store.runs.get r).service) ++
    optional 1 ((s.store.runs.get r).pendingService.map fun v => enum (serviceNumber v)) ++
    enum (integrityNumber (s.integrity r))).flatten ++
  enum (if s.monitor.withdrawn then 1 else 0) ++ optNat 3 (s.store.active.map (·.entry.id)) ++
  num 1 s.store.slots.length ++ flag s.store.held.isSome ++ enum (if s.store.proverEnabled then 0 else 1) ++
  optional 5 (s.store.record.map fun r => num 1 (runNumber r.request.run) ++ num 4 r.number) ++
  num 1 s.store.audit.length ++ enum (faultNumber s.link.fault) ++ optNat 4 s.link.faultTime ++
  num 1 s.link.faultCount

end Sys2Proof.Machine
end

