-- ==== Sys2Proof/Machine/BatchCommands.lean ====
section
/-! DEFINITION. The commands of the batch sequencer and the ticket store: GSET, GGET, BSCH, BDEL, BSTA, BEND, BCUT, BGET, TGET, TREL (R68, R69, R71, R72, R75 to R77, R82, R91, R94). -/

namespace Sys2Proof.Machine

open Sys2Proof

/-- Whether a grade's fields are acceptable (R67, R68): α and F in 10⁻⁷, ρref in 0.1 kg/m³. -/
def gradeFieldsValid (name : List Byte) (alpha f rho : Nat) : Bool :=
  decide (name.length ≤ 12) && name.all printable && inRange 1000 20000 alpha 10 && inRange 100 2000 f &&
    inRange 6000 11000 rho

/-- The state with a grade entry set (R68): the entry and block codes renewed, the GRADES mark cleared (R164). -/
def setGrade (i : Fin 16) (name : List Byte) (alpha f rho : Nat) (s : State) : State :=
  let e : GradeEntry := { name := name, alpha := alpha, f := f, rho := rho, code := gradeEntryCode name alpha f rho }
  let g := s.store.grades.set i (some e)
  clearMark .grades (addAudit none (.gradeSet (i.val + 1) s.store.gradesCode (gradesContentsCode g))
    (s.withStore { s.store with grades := g, gradesCode := gradesContentsCode g }))

/-- GSET (R68). -/
def reqGset (grade : Nat) (name : List Byte) (alpha f rho : Nat) (s : State) : State × Answer :=
  if h : 1 ≤ grade ∧ grade ≤ 16 then
    if gradeFieldsValid name alpha f rho then
      if s.gradeInUse grade then refuse s .gradeInUse
      else if s.auditFree then (setGrade ⟨grade - 1, by omega⟩ name alpha f rho s, ok)
      else refuse s .auditFull
    else refuse s .badField
  else refuse s .badField

/-- GGET (R69). -/
def reqGget (grade : Option Nat) (part : Nat) (s : State) : State × Answer :=
  match grade with
  | none => read (ggetStream none s) part s
  | some g => if 1 ≤ g ∧ g ≤ 16 then read (ggetStream (some g) s) part s else refuse s .badField

/-- Whether a batch id is in its range (R70). -/
def batchIdValid (id : Nat) : Bool := decide (1 ≤ id ∧ id ≤ 999999)

def nominationValid : Option Nat → Bool
  | none => true
  | some n => decide (1 ≤ n ∧ n ≤ 9999999999)

def destinationValid : Option (List Byte) → Bool
  | none => true
  | some d => decide (1 ≤ d.length ∧ d.length ≤ 8) && d.all printable

/-- Whether an id is that of the active batch. -/
def State.activeId (s : State) (id : Nat) : Bool :=
  match s.store.active with
  | some b => decide (b.entry.id = id)
  | none => false

/-- Whether an id is that of an entry of the queue. -/
def State.queuedId (s : State) (id : Nat) : Bool := s.store.queue.any fun e => decide (e.id = id)

/-- BSCH (R71). -/
def reqBsch (id grade : Nat) (nomination : Option Nat) (destination : Option (List Byte)) (s : State) :
    State × Answer :=
  if batchIdValid id && (s.gradeEntry grade).isSome && nominationValid nomination && destinationValid destination then
    if s.activeId id || s.queuedId id then refuse s .duplicate
    else if s.store.queue.length < Config.queueCapacity then
      let e : BatchEntry := { id := id, grade := grade, nomination := nomination, destination := destination }
      (s.withStore { s.store with queue := s.store.queue ++ [e] }, ok)
    else refuse s .queueFull
  else refuse s .badField

/-- BDEL (R72). -/
def reqBdel (id : Nat) (s : State) : State × Answer :=
  if batchIdValid id then
    if s.activeId id then refuse s .badState
    else if s.queuedId id then
      if s.reservedHead = some id then refuse s .badState
      else (s.withStore { s.store with queue := s.store.queue.filter fun e => decide (e.id ≠ id) }, ok)
    else refuse s .notFound
  else refuse s .badField

/-- BSTA (R75). -/
def reqBsta (s : State) : State × Answer :=
  if s.store.active.isSome ∨ s.change ≠ .none then refuse s .badState
  else
    match s.store.queue with
    | [] => refuse s .notFound
    | e :: _ => (s.withChange .start, ok (num 3 e.id))

/-- BEND (R76). -/
def reqBend (s : State) : State × Answer :=
  if s.store.active.isNone ∨ s.change ≠ .none then refuse s .badState
  else if s.store.held.isSome then refuse s .storeFull
  else (s.withChange .ends, ok)

/-- BCUT (R77). -/
def reqBcut (s : State) : State × Answer :=
  if s.store.active.isNone ∨ s.change ≠ .none then refuse s .badState
  else
    match s.store.queue with
    | [] => refuse s .notFound
    | e :: _ => if s.store.held.isSome then refuse s .storeFull else (s.withChange .cutover, ok (num 3 e.id))

/-- BGET (R82). -/
def reqBget (part : Nat) (s : State) : State × Answer := read (bgetStream s) part s

/-- Whether a ticket number is in its range (R91, R94). -/
def ticketNumberValid (n : Nat) : Bool := decide (1 ≤ n ∧ n ≤ 999999999999)

/-- TGET (R94). -/
def reqTget (ticket : Option Nat) (part : Nat) (s : State) : State × Answer :=
  match ticket with
  | none => read (ticketDirectory s) part s
  | some n =>
    if ticketNumberValid n then
      match findTicket n s with
      | none => refuse s .notFound
      | some t => read (enum t.1 ++ encodeTicket t.2) part s
    else refuse s .badField

/-- TREL (R90, R91). -/
def reqTrel (ticket : Nat) (s : State) : State × Answer :=
  if ticketNumberValid ticket then
    match s.store.slots with
    | [] => refuse s .notFound
    | t :: _ =>
      if t.number = ticket then
        let s1 := releaseOldest s
        (s1, ok (optional 5 (s1.store.slots.head?.map fun x => num 5 x.number)))
      else if (findTicket ticket s).isSome then (s, { status := .notOldest, body := num 5 t.number })
      else refuse s .notFound
  else refuse s .badField

def execGset (dt : Nat) (h : Header) (grade : Nat) (name : List Byte) (alpha f rho : Nat) (s : State) :
    Host.Outcome State Fault Refusal :=
  requestFrame dt h 11 false (reqGset grade name alpha f rho) s

def execGget (dt : Nat) (h : Header) (grade : Option Nat) (part : Nat) (s : State) :
    Host.Outcome State Fault Refusal :=
  requestFrame dt h 12 false (reqGget grade part) s

def execBsch (dt : Nat) (h : Header) (id grade : Nat) (nomination : Option Nat) (destination : Option (List Byte))
    (s : State) : Host.Outcome State Fault Refusal :=
  requestFrame dt h 13 false (reqBsch id grade nomination destination) s

def execBdel (dt : Nat) (h : Header) (id : Nat) (s : State) : Host.Outcome State Fault Refusal :=
  requestFrame dt h 14 false (reqBdel id) s

def execBsta (dt : Nat) (h : Header) (s : State) : Host.Outcome State Fault Refusal :=
  requestFrame dt h 15 false reqBsta s

def execBend (dt : Nat) (h : Header) (s : State) : Host.Outcome State Fault Refusal :=
  requestFrame dt h 16 false reqBend s

def execBcut (dt : Nat) (h : Header) (s : State) : Host.Outcome State Fault Refusal :=
  requestFrame dt h 17 false reqBcut s

def execBget (dt : Nat) (h : Header) (part : Nat) (s : State) : Host.Outcome State Fault Refusal :=
  requestFrame dt h 18 false (reqBget part) s

def execTget (dt : Nat) (h : Header) (ticket : Option Nat) (part : Nat) (s : State) :
    Host.Outcome State Fault Refusal :=
  requestFrame dt h 19 false (reqTget ticket part) s

def execTrel (dt : Nat) (h : Header) (ticket : Nat) (s : State) : Host.Outcome State Fault Refusal :=
  requestFrame dt h 20 false (reqTrel ticket) s

end Sys2Proof.Machine
end

