-- ==== Sys2Proof/Machine/ConfigCommands.lean ====
section
/-! DEFINITION. The commands of the configuration and audit unit: CSTG, CCOM, CGET, KTST, AGET, ATAK (R159, R161, R163, R166, R170, R171). -/

namespace Sys2Proof.Machine

open Sys2Proof

/-- The stageable block a number names: any of the eight but GRADES (R158). -/
def stageableOf (n : Nat) : Option BlockId :=
  match blockOf n with
  | some .grades => none
  | b => b

/-- CSTG (R159). -/
def reqCstg (block : Nat) (groups : List FieldGroup) (s : State) : State × Answer :=
  match stageableOf block with
  | none => refuse s .badField
  | some b =>
    match stageGroups b groups s with
    | none => refuse s .badField
    | some s1 => (s1, ok)

/-- The scope of a block's CONFIG_COMMIT entry (R161). -/
def blockScope : BlockId → Option Run
  | .run r => some r
  | _ => none

/-- CCOM (R161). The body of CONFIG_INVALID is the block number and the offending field's index (log entry 23). -/
def reqCcom (block : Nat) (s : State) : State × Answer :=
  match stageableOf block with
  | none => refuse s .badField
  | some b =>
    match commitBlock b s with
    | .unstaged => refuse s .badState
    | .offends i => (s, { status := .configInvalid, body := num 1 block ++ num 2 i })
    | .made c s1 =>
      if s.auditFree then
        (addAudit (blockScope b) (.configCommit b (s.storedCode b) c ((blockScope b).map s.cumulativeGSV)) s1,
          ok (code c))
      else refuse s .auditFull

/-- The copy CGET names: none where the block or the copy is refused with BAD_FIELD (R163). -/
def namedCopy (block copy : Nat) : Option (BlockId × BlockCopy) :=
  match blockOf block, copyOf copy with
  | some .grades, some .current => some (.grades, .current)
  | some .grades, _ => none
  | some b, some c => some (b, c)
  | _, _ => none

/-- CGET (R163). -/
def reqCget (block copy part : Nat) (s : State) : State × Answer :=
  match namedCopy block copy with
  | none => refuse s .badField
  | some n =>
    match cgetStream n.1 n.2 s with
    | none => refuse s .notFound
    | some x => read x part s

/-- KTST (R166): the stored check code becomes the contents' code inverted in every bit (R198). -/
def reqKtst (block : Nat) (s : State) : State × Answer :=
  match blockOf block with
  | none => refuse s .badField
  | some b => (setStoredCode b (~~~ s.contentsCode b) s, ok)

/-- The entry of the trail that carries a sequence number. -/
def State.auditEntry (s : State) (n : Nat) : Option AuditEntry :=
  s.store.audit.find? fun e => decide (e.seq.toNat = n)

/-- AGET (R170). -/
def reqAget (number : Option Nat) (part : Nat) (s : State) : State × Answer :=
  match number with
  | none => read (auditSummary s) part s
  | some n =>
    match s.auditEntry n with
    | none => refuse s .notFound
    | some e => read (encodeAuditEntry e) part s

/-- The trail after the take-down of every entry up to and including a number: what follows the named entry. -/
def takeDown (n : Nat) : List AuditEntry → List AuditEntry
  | [] => []
  | e :: rest => if e.seq.toNat = n then rest else takeDown n rest

/-- ATAK (R171). -/
def reqAtak (number : Nat) (s : State) : State × Answer :=
  match s.auditEntry number with
  | none => refuse s .notFound
  | some _ =>
    let left := takeDown number s.store.audit
    (s.withStore { s.store with audit := left },
      ok (num 1 (s.store.audit.length - left.length) ++ optional 4 (left.head?.map fun e => code e.seq)))

def execCstg (dt : Nat) (h : Header) (block : Nat) (groups : List FieldGroup) (s : State) :
    Host.Outcome State Fault Refusal :=
  requestFrame dt h 34 false (reqCstg block groups) s

def execCcom (dt : Nat) (h : Header) (block : Nat) (s : State) : Host.Outcome State Fault Refusal :=
  requestFrame dt h 35 false (reqCcom block) s

def execCget (dt : Nat) (h : Header) (block copy part : Nat) (s : State) : Host.Outcome State Fault Refusal :=
  requestFrame dt h 36 false (reqCget block copy part) s

def execKtst (dt : Nat) (h : Header) (block : Nat) (s : State) : Host.Outcome State Fault Refusal :=
  requestFrame dt h 37 false (reqKtst block) s

def execAget (dt : Nat) (h : Header) (number : Option Nat) (part : Nat) (s : State) :
    Host.Outcome State Fault Refusal :=
  requestFrame dt h 38 false (reqAget number part) s

def execAtak (dt : Nat) (h : Header) (number : Nat) (s : State) : Host.Outcome State Fault Refusal :=
  requestFrame dt h 39 false (reqAtak number) s

end Sys2Proof.Machine
end

