-- ==== Sys2Proof/Machine/CurveCommands.lean ====
section
/-! DEFINITION. The commands of the meter factor curves: MFGT, MFSP, MFDP (R135, R136, R138). -/

namespace Sys2Proof.Machine

open Sys2Proof

/-- Whether an optional rate of MFGT is in its range, 0.0 to 99999.9 m³/h (R138). -/
def lookupRateValid : Option Nat → Bool
  | none => true
  | some q => decide (q ≤ 999999)

/-- MFGT (R138). -/
def reqMfgt (run : Nat) (rate : Option Nat) (part : Nat) (s : State) : State × Answer :=
  match runOf run with
  | none => refuse s .badField
  | some r => if lookupRateValid rate then read (mfgtStream r rate s) part s else refuse s .badField

/-- MFSP (R135); the reply carries inserted (0) or replaced (1), and the number of points of the pending curve. -/
def reqMfsp (run rate mf : Nat) (s : State) : State × Answer :=
  match runOf run with
  | none => refuse s .badField
  | some r =>
    if 1 ≤ rate ∧ rate ≤ 999999 ∧ 8000 ≤ mf ∧ mf ≤ 12000 then
      if s.auditFree then
        match offerPoint r { rate := rate, mf := mf, origin := 0, date := dateOf s.clock } s with
        | none => refuse s .curveFull
        | some p => (p.1, ok (enum (if p.2.replaced.isSome then 1 else 0) ++ num 1 p.2.curve.length))
      else refuse s .auditFull
    else refuse s .badField

/-- MFDP (R136). -/
def reqMfdp (run rate : Nat) (s : State) : State × Answer :=
  match runOf run with
  | none => refuse s .badField
  | some r =>
    let c := s.workingCurve r
    match c.find? fun p => decide (p.rate = rate) with
    | none => refuse s .notFound
    | some p =>
      if s.auditFree then
        let c' := c.filter fun x => decide (x.rate ≠ rate)
        (changeCurve r c' (some p) none none s, ok (num 1 c'.length))
      else refuse s .auditFull

def execMfgt (dt : Nat) (h : Header) (run : Nat) (rate : Option Nat) (part : Nat) (s : State) :
    Host.Outcome State Fault Refusal :=
  requestFrame dt h 29 false (reqMfgt run rate part) s

def execMfsp (dt : Nat) (h : Header) (run rate mf : Nat) (s : State) : Host.Outcome State Fault Refusal :=
  requestFrame dt h 30 false (reqMfsp run rate mf) s

def execMfdp (dt : Nat) (h : Header) (run rate : Nat) (s : State) : Host.Outcome State Fault Refusal :=
  requestFrame dt h 31 false (reqMfdp run rate) s

end Sys2Proof.Machine
end

