-- ==== Sys2Proof/Machine/LinkCommands.lean ====
section
/-! DEFINITION. The requests of the station link: STAT and RSTR (R186, R187). -/

namespace Sys2Proof.Machine

open Sys2Proof

/-- The frame fault record cleared (R180). -/
def clearFault (s : State) : State :=
  s.withLink { s.link with fault := .none, faultTime := none, faultCount := 0 }

/-- STAT (R186): a formed reply clears the frame fault record; a refused part number clears nothing (R185). -/
def reqStat (part : Nat) (s : State) : State × Answer :=
  let a := partBody (statStream s) part
  if a.status = .ok then (clearFault s, a) else (s, a)

/-- RSTR (R187): answered OK, with a restart owed at the reply's end. -/
def reqRstr (s : State) : State × Answer := (s, { status := .ok, restart := true })

def execStat (dt : Nat) (h : Header) (part : Nat) (s : State) : Host.Outcome State Fault Refusal :=
  requestFrame dt h 40 false (reqStat part) s

def execRstr (dt : Nat) (h : Header) (s : State) : Host.Outcome State Fault Refusal :=
  requestFrame dt h 41 false reqRstr s

end Sys2Proof.Machine
end

