-- ==== Sys2Proof/Machine/MonitorCommands.lean ====
section
/-! DEFINITION. The commands of the integrity monitor: CNDG, CNDC, the hold timer, the permit line and the external filter (R146 to R154). -/

namespace Sys2Proof.Machine

open Sys2Proof

/-- CNDG (R147): scope 0 is the station, 1 to 4 a run, none the summary. -/
def reqCndg (scope : Option Nat) (part : Nat) (s : State) : State × Answer :=
  match scope with
  | none => read (cndgSummary s) part s
  | some n =>
    if n = 0 then read (cndgStationStream s) part s
    else
      match runOf n with
      | none => refuse s .badField
      | some r => read (cndgRunStream r s) part s

/-- The record with its latch cleared (R146). -/
def unlatched (c : ConditionRecord) : ConditionRecord := { c with latched := false }

/-- The latch of one record cleared. -/
def clearLatch (i : ConditionId) (s : State) : State :=
  s.withMonitor { s.monitor with table := s.monitor.table.set i (unlatched (s.monitor.table.get i)) }

/-- The records a CNDC that names none clears: inactive and latched. -/
def State.clearable (s : State) : List ConditionId :=
  allConditionIds.filter fun i => (s.monitor.table.get i).latched && !(s.monitor.table.get i).active

/-- CNDC (R146). The number of latches cleared in 1 character is the model's choice (log 52). -/
def reqCndc (target : Option (Nat × Nat)) (s : State) : State × Answer :=
  match target with
  | none =>
    let ids := s.clearable
    (ids.foldl (fun s i => clearLatch i s) s, ok (num 1 ids.length))
  | some (kind, scope) =>
    match conditionOf kind scope with
    | none => refuse s .badField
    | some i => if s.active i then refuse s .badState else (clearLatch i s, ok)

def execCndg (dt : Nat) (h : Header) (scope : Option Nat) (part : Nat) (s : State) :
    Host.Outcome State Fault Refusal :=
  requestFrame dt h 32 false (reqCndg scope part) s

def execCndc (dt : Nat) (h : Header) (target : Option (Nat × Nat)) (s : State) : Host.Outcome State Fault Refusal :=
  requestFrame dt h 33 false (reqCndc target) s

/-- The hold timer expires (R149): it stops, and the part releases the line if no TRIP-class condition is active. A timer
that an activation has just restarted does not expire (R150). -/
def holdExpires (s : State) : State :=
  match s.monitor.hold with
  | none => s
  | some t => if s.beginsNow t.started then s else releaseIfFree (s.withMonitor { s.monitor with hold := none })

/-- The line falls to low, as the other parts and the wiring hold it (R152): seen while PERMIT, it starts an IDLE
filter. -/
def permitFalls (s : State) : State :=
  let fell := s.lines.permitHigh
  let s1 := s.withLines { s.lines with permitHigh := false }
  if fell && s.running && !s.monitor.withdrawn then
    s1.withMonitor { s1.monitor with
      seen := some false
      filter := match s1.monitor.filter with
        | some t => some t
        | none => some { started := s1.counter, length := s1.stationBlock.filterTime } }
  else s1

/-- The line rises to high (R152): seen while PERMIT, it stops the filter and judges EXTERNAL_TRIP inactive. -/
def permitRises (s : State) : State :=
  let rose := !s.lines.permitHigh
  let s1 := s.withLines { s.lines with permitHigh := true }
  if rose && s.running && !s.monitor.withdrawn then
    judge (.station .externalTrip) false (s1.withMonitor { s1.monitor with seen := some true, filter := none })
  else s1

/-- The external filter time expires with the filter RUNNING (R152); a filter that has just been started does not expire. -/
def filterExpires (s : State) : State :=
  match s.monitor.filter with
  | none => s
  | some t =>
    if s.beginsNow t.started then s
    else judge (.station .externalTrip) true (s.withMonitor { s.monitor with filter := none })

/-- HOLD_TIMER_EXPIRY (R149). -/
def execHoldTimerExpiry (dt : Nat) (s : State) : Host.Outcome State Fault Refusal :=
  .next (whileRunning dt (fun s => settle s (holdExpires s)) s)

/-- PERMIT_LINE_FALL (R152). -/
def execPermitLineFall (dt : Nat) (s : State) : Host.Outcome State Fault Refusal :=
  .next (permitFalls (advance dt s))

/-- PERMIT_LINE_RISE (R152). -/
def execPermitLineRise (dt : Nat) (s : State) : Host.Outcome State Fault Refusal :=
  .next (permitRises (advance dt s))

/-- EXTERNAL_FILTER_EXPIRY (R152). -/
def execExternalFilterExpiry (dt : Nat) (s : State) : Host.Outcome State Fault Refusal :=
  .next (whileRunning dt (fun s => settle s (filterExpires s)) s)

end Sys2Proof.Machine
end

