-- ==== Sys2Proof/Machine/PowerCommands.lean ====
section
/-! DEFINITION. The commands of power supervision: RACK, the warning, main power, the backup supply, the reset line and the seconds since the start (R189 to R196). -/

namespace Sys2Proof.Machine

open Sys2Proof

/-- The RETENTION_ACK entry's fields (R196): a reckoned time before 2000-01-01 is given as 2000-01-01. -/
def ackData (s : State) : AuditData := .retentionAck (s.clock - s.supply.seconds) s.supply.seconds s.clock

/-- RACK (R196). -/
def reqRack (s : State) : State × Answer :=
  if s.retentionLost then
    (judge (.station .retentionLost) false (addAudit none (ackData s) s), ok (code s.store.auditCounter))
  else refuse s .badState

def execRack (dt : Nat) (h : Header) (s : State) : Host.Outcome State Fault Refusal :=
  requestFrame dt h 42 false reqRack s

/-- POWER_FAIL_WARNING (R190). -/
def execPowerFailWarning (dt : Nat) (order : BoundaryOrder) (s : State) : Host.Outcome State Fault Refusal :=
  .next (takeWarning order (advance dt s))

/-- WARNING_DEASSERTION (R191). -/
def execWarningDeassertion (dt : Nat) (s : State) : Host.Outcome State Fault Refusal :=
  .next (dropWarning (advance dt s))

/-- MAIN_POWER_RETURN (R189). -/
def execMainPowerReturn (dt : Nat) (s : State) : Host.Outcome State Fault Refusal :=
  .next (powerReturns (advance dt s))

/-- MAIN_POWER_FAILURE (R189). -/
def execMainPowerFailure (dt : Nat) (s : State) : Host.Outcome State Fault Refusal :=
  .next (powerFails (advance dt s))

/-- BACKUP_SUPPLY_FAILURE (R192). -/
def execBackupSupplyFailure (dt : Nat) (s : State) : Host.Outcome State Fault Refusal :=
  .next (backupFails (advance dt s))

/-- RESET_LINE_FALL (R193). -/
def execResetLineFall (dt : Nat) (s : State) : Host.Outcome State Fault Refusal :=
  .next (resetFalls (advance dt s))

/-- RESET_LINE_RISE (R193). -/
def execResetLineRise (dt : Nat) (s : State) : Host.Outcome State Fault Refusal :=
  .next (resetRises (advance dt s))

/-- RESET_QUALIFICATION_EXPIRY (R193). -/
def execResetQualificationExpiry (dt : Nat) (s : State) : Host.Outcome State Fault Refusal :=
  .next (whileRunning dt resetQualifies s)

/-- The count of seconds since the last start advances (R195), but not at the instant of the start. -/
def secondPasses (s : State) : State :=
  if s.counter = 0 ∧ s.supply.seconds = 0 then s
  else s.withSupply { s.supply with seconds := countUp 4294967295 s.supply.seconds }

/-- SECONDS_SINCE_START_ADVANCE (R195). -/
def execSecondsSinceStartAdvance (dt : Nat) (s : State) : Host.Outcome State Fault Refusal :=
  .next (whileRunning dt secondPasses s)

end Sys2Proof.Machine
end

