-- ==== Sys2Proof/Machine/ProvingCommands.lean ====
section
/-! DEFINITION. The commands of the prover controller: PREQ, PCAN, PALN, PGET, PACC, PREJ, PENA, PDIS and the expiries of a record's timers (R98, R100, R103, R116, R120, R121, R123). -/

namespace Sys2Proof.Machine

open Sys2Proof

/-- Whether the fields of a PREQ are in their ranges (R99, R100); the limit in 0.0001. -/
def provingFieldsValid (rounds attempts limit : Nat) : Bool :=
  decide (2 ≤ rounds ∧ rounds ≤ 10) && decide (rounds ≤ attempts ∧ attempts ≤ 20) && decide (1 ≤ limit ∧ limit ≤ 50)

/-- Whether a run has a queued request. -/
def State.hasRequest (s : State) (r : Run) : Bool := s.requests.any fun q => decide (q.run = r)

/-- Whether the record holding the prover is a run's. -/
def State.hasRecord (s : State) (r : Run) : Bool :=
  match s.store.record with
  | some x => decide (x.request.run = r)
  | none => false

/-- Whether a run has a pending result. -/
def State.hasResult (s : State) (r : Run) : Bool := (s.store.results.get r).isSome

/-- The proving number a grant to a run has assigned, absent where the run's record was not opened (R100). -/
def grantedNumber (r : Run) (before after : State) : Option Nat :=
  match before.store.record, after.store.record with
  | none, some x => if x.request.run = r then some x.number else none
  | _, _ => none

/-- PREQ (R100). -/
def reqPreq (run rounds attempts limit : Nat) (s : State) : State × Answer :=
  match runOf run with
  | none => refuse s .badField
  | some r =>
    if provingFieldsValid rounds attempts limit then
      if (s.store.runs.get r).service = .closed ∨ s.integrity r = .failed then refuse s .badState
      else if s.hasRequest r || s.hasRecord r || s.hasResult r then refuse s .duplicate
      else
        let q : ProvingRequest :=
          { run := r, rounds := rounds, attempts := attempts, limit := limit, queued := s.clock }
        let s1 := grant (s.withRequests (s.requests ++ [q]))
        (s1, ok (optNat 4 (grantedNumber r s s1)))
    else refuse s .badField

/-- PCAN (R116); the abort lets the next request be granted (R101). -/
def reqPcan (run : Nat) (s : State) : State × Answer :=
  match runOf run with
  | none => refuse s .badField
  | some r =>
    if s.hasRequest r then (s.withRequests (s.requests.filter fun q => decide (q.run ≠ r)), ok)
    else if s.hasRecord r then (settle s (abortRecord .cancelled s), ok)
    else if s.hasResult r then refuse s .badState
    else refuse s .notFound

/-- PALN (R103). -/
def reqPaln (run : Nat) (s : State) : State × Answer :=
  match runOf run with
  | none => refuse s .badField
  | some r =>
    match s.store.record with
    | none => refuse s .badState
    | some x =>
      if x.request.run = r ∧ x.state = .aligning then 
        (s.setRecord (some { x with state := .armed, timerStart := s.counter }), ok)
      else refuse s .badState

/-- PGET (R123). -/
def reqPget (number : Option Nat) (part : Nat) (s : State) : State × Answer :=
  match number with
  | none => read (provingDirectory s) part s
  | some n =>
    match findRecord n s with
    | none => refuse s .notFound
    | some p => read (encodeRecord p.1 p.2) part s

/-- The pending result of a run decided (R120, R121): its record takes the decision and moves to the history. -/
def decideResult (r : Run) (x : ProvingRecord) (d : Decision) (s : State) : State :=
  s.withStore { s.store with
    results := s.store.results.set r none
    history := pushHistory s.store.history { x with decision := some d, decided := some s.clock } }

/-- The point a result offers to its run's curve (R120, R137). -/
def resultPoint (x : ProvingRecord) (res : ProvingResult) : CurvePoint :=
  { rate := res.rate, mf := res.mf.toNat, origin := x.number, date := dateOf res.time }

/-- What a PACC for a DEVIATING result is refused with, by its confirm field, which is read for such a result alone (R120):
clear is DEVIATION_UNCONFIRMED; a field that is neither set nor clear is BAD_FIELD (log entry 20). -/
def confirmRefusal (deviating : Bool) (confirm : Option Bool) : Option Status :=
  if deviating then
    match confirm with
    | some true => none
    | some false => some .deviationUnconfirmed
    | none => some .badField
  else none

/-- PACC (R120). A pending result always holds its figures; a record without them offers nothing (R115; log entry 25). -/
def reqPacc (run : Nat) (confirm : Option Bool) (s : State) : State × Answer :=
  match runOf run with
  | none => refuse s .badField
  | some r =>
    match s.store.results.get r with
    | none => refuse s .notFound
    | some x =>
      match x.result with
      | none => refuse s .notFound
      | some res =>
        match confirmRefusal res.deviating confirm with
        | some st => refuse s st
        | none =>
          if s.auditFree then
            match offerPoint r (resultPoint x res) s with
            | none => refuse s .curveFull
            | some p => (decideResult r x .accepted p.1, ok (num 4 x.number))
          else refuse s .auditFull

/-- PREJ (R121). -/
def reqPrej (run : Nat) (s : State) : State × Answer :=
  match runOf run with
  | none => refuse s .badField
  | some r =>
    match s.store.results.get r with
    | none => refuse s .notFound
    | some x => (decideResult r x .rejected s, ok (num 4 x.number))

/-- PENA (R98). -/
def reqPena (s : State) : State × Answer :=
  (grant (s.withStore { s.store with proverEnabled := true }), ok)

/-- PDIS (R98). -/
def reqPdis (s : State) : State × Answer :=
  if s.store.record.isSome then refuse s .badState
  else (s.withStore { s.store with proverEnabled := false }, ok)

def execPreq (dt : Nat) (h : Header) (run rounds attempts limit : Nat) (s : State) :
    Host.Outcome State Fault Refusal :=
  requestFrame dt h 21 false (reqPreq run rounds attempts limit) s

def execPcan (dt : Nat) (h : Header) (run : Nat) (s : State) : Host.Outcome State Fault Refusal :=
  requestFrame dt h 22 false (reqPcan run) s

def execPaln (dt : Nat) (h : Header) (run : Nat) (s : State) : Host.Outcome State Fault Refusal :=
  requestFrame dt h 23 false (reqPaln run) s

def execPget (dt : Nat) (h : Header) (number : Option Nat) (part : Nat) (s : State) :
    Host.Outcome State Fault Refusal :=
  requestFrame dt h 24 false (reqPget number part) s

def execPacc (dt : Nat) (h : Header) (run : Nat) (confirm : Bool) (s : State) : Host.Outcome State Fault Refusal :=
  requestFrame dt h 25 false (reqPacc run (some confirm)) s

def execPrej (dt : Nat) (h : Header) (run : Nat) (s : State) : Host.Outcome State Fault Refusal :=
  requestFrame dt h 26 false (reqPrej run) s

def execPena (dt : Nat) (h : Header) (s : State) : Host.Outcome State Fault Refusal :=
  requestFrame dt h 27 false reqPena s

def execPdis (dt : Nat) (h : Header) (s : State) : Host.Outcome State Fault Refusal :=
  requestFrame dt h 28 false reqPdis s

/-- ALIGN_TIMEOUT_EXPIRY (R103). -/
def execAlignTimeoutExpiry (dt : Nat) (s : State) : Host.Outcome State Fault Refusal :=
  .next (whileRunning dt (fun s => settle s (recordTimeout .align .alignTimeout s)) s)

/-- LAUNCH_TIMEOUT_EXPIRY (R104, R107). -/
def execLaunchTimeoutExpiry (dt : Nat) (s : State) : Host.Outcome State Fault Refusal :=
  .next (whileRunning dt (fun s => settle s (recordTimeout .launch .launchTimeout s)) s)

/-- PASS_TIMEOUT_EXPIRY (R106). -/
def execPassTimeoutExpiry (dt : Nat) (s : State) : Host.Outcome State Fault Refusal :=
  .next (whileRunning dt (fun s => settle s (recordTimeout .pass .passTimeout s)) s)

end Sys2Proof.Machine
end

