-- ==== Sys2Proof/Machine/PulseCommands.lean ====
section
/-! DEFINITION. The commands of the pulse input unit: PLSG, FTST, the channel edges and expiries, the detector events (R1, R14, R17, R18, R20). -/

namespace Sys2Proof.Machine

open Sys2Proof

/-- PLSG (R20). -/
def reqPlsg (run part : Nat) (s : State) : State × Answer :=
  match runOf run with
  | none => refuse s .badField
  | some r => read (plsgStream r s) part s

/-- FTST (R14). -/
def reqFtst (run : Nat) (s : State) : State × Answer :=
  match runOf run with
  | none => refuse s .badField
  | some r =>
    if (s.runPulse r).testMark then refuse s .badState
    else (s.setRunPulse r { s.runPulse r with testMark := true }, ok)

def execPlsg (dt : Nat) (h : Header) (run part : Nat) (s : State) : Host.Outcome State Fault Refusal :=
  requestFrame dt h 1 false (reqPlsg run part) s

def execFtst (dt : Nat) (h : Header) (run : Nat) (s : State) : Host.Outcome State Fault Refusal :=
  requestFrame dt h 2 false (reqFtst run) s

/-- METER_CHANNEL_RISING_EDGE (R1). -/
def execMeterChannelRisingEdge (dt : Nat) (run : Run) (channel : Channel) (s : State) :
    Host.Outcome State Fault Refusal :=
  .next (risingEdge run channel (advance dt s))

/-- METER_CHANNEL_FALL (R1). -/
def execMeterChannelFall (dt : Nat) (run : Run) (channel : Channel) (s : State) : Host.Outcome State Fault Refusal :=
  .next (fallEdge run channel (advance dt s))

/-- QUALIFICATION_TIME_EXPIRY (R1, R2, R6): an event only while the part is RUNNING (R5). -/
def execQualificationTimeExpiry (dt : Nat) (run : Run) (channel : Channel) (comparatorFault : Bool) (s : State) :
    Host.Outcome State Fault Refusal :=
  .next (whileRunning dt (fun s => settle s (qualificationExpires comparatorFault run channel s)) s)

/-- DETECTOR_ACTIVATION (R17, R18). -/
def execDetectorActivation (dt : Nat) (detector : Detector) (s : State) : Host.Outcome State Fault Refusal :=
  .next (activateDetector detector (advance dt s))

/-- DETECTOR_RELEASE (R17). -/
def execDetectorRelease (dt : Nat) (detector : Detector) (s : State) : Host.Outcome State Fault Refusal :=
  .next (releaseDetector detector (advance dt s))

/-- DEBOUNCE_EXPIRY (R17, R19). -/
def execDebounceExpiry (dt : Nat) (detector : Detector) (s : State) : Host.Outcome State Fault Refusal :=
  .next (whileRunning dt (fun s => settle s (debounceExpires detector s)) s)

/-- DEAD_TIME_EXPIRY (R18). -/
def execDeadTimeExpiry (dt : Nat) (detector : Detector) (s : State) : Host.Outcome State Fault Refusal :=
  .next (whileRunning dt (deadTimeExpires detector) s)

end Sys2Proof.Machine
end

