-- ==== Sys2Proof/Machine/ScannerCommands.lean ====
section
/-! DEFINITION. The commands of the measurement scanner: PRDG, SUBS, conversion completions and stale timer expiries (R25, R29, R37, R38). -/

namespace Sys2Proof.Machine

open Sys2Proof

/-- The point a request names, 0 to 15. -/
def pointNamed (n : Nat) : Option (Fin 16) := if h : n < 16 then some ⟨n, h⟩ else none

/-- PRDG (R38). -/
def reqPrdg (point : Option Nat) (part : Nat) (s : State) : State × Answer :=
  match point with
  | none => read (prdgStream none s) part s
  | some n =>
    match pointNamed n with
    | none => refuse s .badField
    | some p => read (prdgStream (some p) s) part s

/-- SUBS (R37); the value in the resolution of the point's kind. -/
def reqSubs (point : Nat) (value : Int) (s : State) : State × Answer :=
  match pointNamed point with
  | none => refuse s .badField
  | some p =>
    let u := s.setup p
    if value < u.validLow ∨ u.validHigh < value then refuse s .badField
    else if s.auditFree then
      let old := s.store.substitutes[p]
      (addAudit none (.substituteSet point (ofMilliTo u.kind old) value)
        (s.withStore { s.store with substitutes := s.store.substitutes.set p (toMilli u.kind value) }), ok)
    else refuse s .auditFull

def execPrdg (dt : Nat) (h : Header) (point : Option Nat) (part : Nat) (s : State) :
    Host.Outcome State Fault Refusal :=
  requestFrame dt h 3 false (reqPrdg point part) s

def execSubs (dt : Nat) (h : Header) (point : Nat) (value : Int) (s : State) : Host.Outcome State Fault Refusal :=
  requestFrame dt h 4 false (reqSubs point value) s

/-- The completion of an injected conversion (R33): the next point of the chain, or the set delivered, the slot emptied
and the waiting chain moved up. -/
def chainStored (s : State) : State :=
  match s.scanner.active with
  | none => s
  | some c =>
    match c.left.tail with
    | p :: rest => s.withScanner { s.scanner with active := some { c with left := p :: rest } }
    | [] =>
      let s1 := takeAnswer c.tag (.set (chainSet c s)) s
      s1.withScanner { s1.scanner with active := s1.scanner.waiting, waiting := none }

/-- A conversion completes (R25, R26, R30, R33): its reading is stored, and the next conversion starts. The fraction
lies between 0 and 1 whatever the signal. A conversion that has just started does not complete: the one that would have
was abandoned at this instant (R34). -/
def completeConversion (fraction : Nat) (s : State) : State :=
  match s.scanner.converter with
  | none => s
  | some c =>
    if s.beginsNow c.started then s
    else
      let s1 := s.withScanner { s.scanner with converter := none }
      let s2 := storeReading c.point c.setup (readingOf c.setup (min fraction 1000000)) s1
      let s3 := if c.injected then chainStored s2 else if c.moves then advancePosition s2 else s2
      nextConversion s3

/-- CONVERSION_COMPLETION (R25). -/
def execConversionCompletion (dt : Nat) (fraction : Nat) (s : State) : Host.Outcome State Fault Refusal :=
  .next (whileRunning dt (fun s => settle s (completeConversion fraction s)) s)

/-- STALE_TIMER_EXPIRY (R29). -/
def execStaleTimerExpiry (dt : Nat) (point : Fin 16) (s : State) : Host.Outcome State Fault Refusal :=
  .next (whileRunning dt (fun s => settle s (goStale point s)) s)

end Sys2Proof.Machine
end

