-- ==== Sys2Proof/Machine/TotalizerCommands.lean ====
section
/-! DEFINITION. The commands of the run totalizers: TSET, TOTG, SNAP, SNPG, ROPN, RCLS, the period boundary and the station clock (R42, R45, R46, R60 to R63). -/

namespace Sys2Proof.Machine

open Sys2Proof

/-- TSET (R46): the clock counts its next second one second from now. The audit entry's own time is read from the clock
before it is set: the model's choice (log 53). -/
def reqTset (time : Nat) (s : State) : State × Answer :=
  if 3155759999 < time then refuse s .badField
  else if s.auditFree then
    let s1 := (addAudit none (.timeSet s.clock time) s).withClock time
    (s1.withTotalizer { s1.totalizer with clockSet := some s1.counter }, ok)
  else refuse s .auditFull

/-- TOTG (R61). -/
def reqTotg (run : Option Nat) (part : Nat) (s : State) : State × Answer :=
  match run with
  | none => read (totgStream none s) part s
  | some n =>
    match runOf n with
    | none => refuse s .badField
    | some r => read (totgStream (some r) s) part s

/-- The snapshot record captured now (R62). -/
def captureSnapshot (s : State) : Snapshot :=
  { time := s.clock
    boundary := s.store.lastBoundary
    runs := PerRun.tab fun r => (s.store.runs.get r).cumulative
    batch := s.store.active.map fun b => (b.entry.id, PerRun.tab fun r => (b.runs.get r).acc) }

/-- SNAP (R62). -/
def reqSnap (s : State) : State × Answer :=
  (s.withStore { s.store with snapshot := some (captureSnapshot s) }, ok)

/-- SNPG (R63). -/
def reqSnpg (part : Nat) (s : State) : State × Answer :=
  match s.store.snapshot with
  | none => refuse s .notFound
  | some x => read (encodeSnapshot x) part s

/-- ROPN and RCLS: a pending change of a run's service state (R60). -/
def reqService (target : Service) (run : Nat) (s : State) : State × Answer :=
  match runOf run with
  | none => refuse s .badField
  | some r =>
    let x := s.store.runs.get r
    if x.pendingService.isSome then refuse s .badState
    else if x.service = target then refuse s .badState
    else if s.auditFree then
      (addAudit (some r) (.runService target (s.cumulativeGSV r))
        (s.setRunTotals r { x with pendingService := some target }), ok)
    else refuse s .auditFull

def execTset (dt : Nat) (h : Header) (time : Nat) (s : State) : Host.Outcome State Fault Refusal :=
  requestFrame dt h 5 true (reqTset time) s

def execTotg (dt : Nat) (h : Header) (run : Option Nat) (part : Nat) (s : State) : Host.Outcome State Fault Refusal :=
  requestFrame dt h 6 false (reqTotg run part) s

def execSnap (dt : Nat) (h : Header) (s : State) : Host.Outcome State Fault Refusal :=
  requestFrame dt h 7 true reqSnap s

def execSnpg (dt : Nat) (h : Header) (part : Nat) (s : State) : Host.Outcome State Fault Refusal :=
  requestFrame dt h 8 false (reqSnpg part) s

def execRopn (dt : Nat) (h : Header) (run : Nat) (s : State) : Host.Outcome State Fault Refusal :=
  requestFrame dt h 9 false (reqService .opened run) s

def execRcls (dt : Nat) (h : Header) (run : Nat) (s : State) : Host.Outcome State Fault Refusal :=
  requestFrame dt h 10 false (reqService .closed run) s

/-- PERIOD_BOUNDARY (R42): an event only while the part is RUNNING (R43). -/
def execPeriodBoundary (dt : Nat) (order : BoundaryOrder) (s : State) : Host.Outcome State Fault Refusal :=
  .next (whileRunning dt (ordinaryBoundary order) s)

/-- Whether a TSET taken at this very instant has begun a new second of the clock (R46). -/
def State.clockJustSet (s : State) : Bool := s.running && s.totalizer.clockSet.any s.beginsNow

/-- The station clock counts a second, whatever the state of the part (R45). -/
def clockCounts (s : State) : State := if s.clockJustSet then s else s.withClock (s.clock + 1)

/-- STATION_CLOCK_SECOND (R45). -/
def execStationClockSecond (dt : Nat) (s : State) : Host.Outcome State Fault Refusal :=
  .next (clockCounts (advance dt s))

end Sys2Proof.Machine
end

