-- ==== Sys2Proof/Machine/Frames.lean ====
section
/-! DEFINITION. Frames received character by character: request bodies by type and length, the receiver, the frame check, replies and the silence timer (R174 to R184, R197, R198). -/

namespace Sys2Proof.Machine

open Sys2Proof

/-! ### Request bodies (R181, R197, R198) -/

/-- What a type and a body make: a type not of the catalogue, a length not allowed for it, or the request. -/
inductive Parsed where
  | unknownType
  | badLength
  | request (handler : State → State × Answer)

/-- A request of one form. -/
def sized (n : Nat) (body : List Byte) (f : State → State × Answer) : Parsed :=
  if body.length = n then .request f else .badLength

/-- A request that names something or names none: a short form and a long one. -/
def sizedOr (n : Nat) (f : State → State × Answer) (m : Nat) (g : State → State × Answer) (body : List Byte) : Parsed :=
  if body.length = n then .request f else if body.length = m then .request g else .badLength

/-- An optional field in a body: its presence character and its characters, all zero when absent; none where it is not
of that form (log entry 24). -/
def wireOptional (v : List Byte) : Option (Option (List Byte)) :=
  match v with
  | p :: rest =>
    if p = 1 then some (some rest) else if p = 0 ∧ rest.all (· == 0) then some none else none
  | [] => none

/-- The groups of a CSTG body; none where they do not fill it exactly. The first argument bounds the recursion. -/
def wireGroups : Nat → List Byte → Option (List FieldGroup)
  | _, [] => some []
  | 0, _ => none
  | k + 1, a :: b :: n :: rest =>
    if n.toNat ≤ rest.length then
      (wireGroups k (rest.drop n.toNat)).map fun gs =>
        { index := readNat [a, b], value := rest.take n.toNat } :: gs
    else none
  | _, _ => none

/-- A CSTG body: a block number followed by one or more groups (R198). -/
def parseCstg (body : List Byte) : Parsed :=
  match body with
  | b :: rest =>
    match wireGroups rest.length rest with
    | some (g :: gs) => .request (reqCstg b.toNat (g :: gs))
    | _ => .badLength
  | [] => .badLength

/-- A BSCH body: id 3, grade 1, nomination 1 + 5, destination 1 + 8. -/
def parseBsch (body : List Byte) : Parsed :=
  sized 19 body fun s =>
    match wireOptional (field body 4 6), wireOptional (field body 10 9) with
    | some n, some d => reqBsch (numAt body 0 3) (numAt body 3 1) (n.map readNat) (d.map untext) s
    | _, _ => refuse s .badField

/-- An MFGT body: run 1, rate 1 + 4, part 1. -/
def parseMfgt (body : List Byte) : Parsed :=
  sized 7 body fun s =>
    match wireOptional (field body 1 5) with
    | some q => reqMfgt (numAt body 0 1) (q.map readNat) (numAt body 6 1) s
    | none => refuse s .badField

/-- A confirm field: 0 is clear and 1 is set; another character is neither (log entry 20). -/
def wireConfirm (n : Nat) : Option Bool :=
  match n with
  | 0 => some false
  | 1 => some true
  | _ => none

/-- A PACC body: run 1, confirm 1. -/
def parsePacc (body : List Byte) : Parsed :=
  sized 2 body (reqPacc (numAt body 0 1) (wireConfirm (numAt body 1 1)))

/-- The request a type and a body make (R181, R197). -/
def parse (type : Nat) (b : List Byte) : Parsed :=
  match type with
  | 1 => sized 2 b (reqPlsg (numAt b 0 1) (numAt b 1 1))
  | 2 => sized 1 b (reqFtst (numAt b 0 1))
  | 3 => sizedOr 1 (reqPrdg none (numAt b 0 1)) 2 (reqPrdg (some (numAt b 0 1)) (numAt b 1 1)) b
  | 4 => sized 5 b (reqSubs (numAt b 0 1) (readInt (field b 1 4)))
  | 5 => sized 4 b (reqTset (numAt b 0 4))
  | 6 => sizedOr 1 (reqTotg none (numAt b 0 1)) 2 (reqTotg (some (numAt b 0 1)) (numAt b 1 1)) b
  | 7 => sized 0 b reqSnap
  | 8 => sized 1 b (reqSnpg (numAt b 0 1))
  | 9 => sized 1 b (reqService .opened (numAt b 0 1))
  | 10 => sized 1 b (reqService .closed (numAt b 0 1))
  | 11 => sized 23 b (reqGset (numAt b 0 1) (untext (field b 1 12)) (numAt b 13 4) (numAt b 17 4) (numAt b 21 2))
  | 12 => sizedOr 1 (reqGget none (numAt b 0 1)) 2 (reqGget (some (numAt b 0 1)) (numAt b 1 1)) b
  | 13 => parseBsch b
  | 14 => sized 3 b (reqBdel (numAt b 0 3))
  | 15 => sized 0 b reqBsta
  | 16 => sized 0 b reqBend
  | 17 => sized 0 b reqBcut
  | 18 => sized 1 b (reqBget (numAt b 0 1))
  | 19 => sizedOr 1 (reqTget none (numAt b 0 1)) 6 (reqTget (some (numAt b 0 5)) (numAt b 5 1)) b
  | 20 => sized 5 b (reqTrel (numAt b 0 5))
  | 21 => sized 5 b (reqPreq (numAt b 0 1) (numAt b 1 1) (numAt b 2 1) (numAt b 3 2))
  | 22 => sized 1 b (reqPcan (numAt b 0 1))
  | 23 => sized 1 b (reqPaln (numAt b 0 1))
  | 24 => sizedOr 1 (reqPget none (numAt b 0 1)) 5 (reqPget (some (numAt b 0 4)) (numAt b 4 1)) b
  | 25 => parsePacc b
  | 26 => sized 1 b (reqPrej (numAt b 0 1))
  | 27 => sized 0 b reqPena
  | 28 => sized 0 b reqPdis
  | 29 => parseMfgt b
  | 30 => sized 7 b (reqMfsp (numAt b 0 1) (numAt b 1 4) (numAt b 5 2))
  | 31 => sized 5 b (reqMfdp (numAt b 0 1) (numAt b 1 4))
  | 32 => sizedOr 1 (reqCndg none (numAt b 0 1)) 2 (reqCndg (some (numAt b 0 1)) (numAt b 1 1)) b
  | 33 => sizedOr 0 (reqCndc none) 2 (reqCndc (some (numAt b 0 1, numAt b 1 1))) b
  | 34 => parseCstg b
  | 35 => sized 1 b (reqCcom (numAt b 0 1))
  | 36 => sized 3 b (reqCget (numAt b 0 1) (numAt b 1 1) (numAt b 2 1))
  | 37 => sized 1 b (reqKtst (numAt b 0 1))
  | 38 => sizedOr 1 (reqAget none (numAt b 0 1)) 5 (reqAget (some (numAt b 0 4)) (numAt b 4 1)) b
  | 39 => sized 4 b (reqAtak (numAt b 0 4))
  | 40 => sized 1 b (reqStat (numAt b 0 1))
  | 41 => sized 0 b reqRstr
  | 42 => sized 0 b reqRack
  | _ => .unknownType

/-! ### A complete frame (R179, R181, R184) -/

/-- The characters the frame check covers: station, type, tag, body length and body (R179). -/
def checkedCharacters (station type : Nat) (tag : Tag) (body : List Byte) : List Byte :=
  num 1 station ++ num 1 type ++ bigEndian 2 tag.toNat ++ num 1 body.length ++ body

/-- A frame check as it stands on the link, high character first (R198). -/
def crcField (c : BitVec 16) : List Byte := bigEndian 2 c.toNat

/-- An addressed frame taken as a request (R181). -/
def takeFrame (type : Nat) (tag : Tag) (body : List Byte) (s : State) : State :=
  match parse type body with
  | .unknownType => takeRequest type tag (fun s => refuse s .unknownType) s
  | .badLength => takeRequest type tag (fun s => refuse s .frameLength) s
  | .request f => takeRequest type tag f s

/-- A type that acts when broadcast: SNAP and TSET (R184). -/
def actsWhenBroadcast (type : Nat) : Bool := decide (type = 7 ∨ type = 5)

/-- A broadcast frame (R184): SNAP and TSET of an allowed length are taken, with no reply; the rest is ignored. -/
def takeBroadcast (type : Nat) (body : List Byte) (s : State) : State :=
  if actsWhenBroadcast type then
    match parse type body with
    | .request f => (f s).1
    | .badLength => s
    | .unknownType => s
  else s

/-- The last CRC character of the part's own frame (R177, R179): the receiver is READY, and the frame is checked and
taken, or discarded with the fault CRC. None is taken at the instant of an acceptance of the reset line (R192). -/
def completeFrame (station type : Nat) (tag : Tag) (body check : List Byte) (s : State) : State :=
  let s1 := s.withLink { s.link with receiver := .ready }
  if check = crcField (crc16 (checkedCharacters station type tag body)) then
    if s1.resetInstant then s1
    else if station = 0 then takeBroadcast type body s1 else takeFrame type tag body s1
  else recordFault .crc s1

/-! ### The receiver (R175 to R177) -/

/-- The sync character (R197). -/
def syncCharacter : Byte := 0xA5

def setReceiver (r : Receiver) (s : State) : State := s.withLink { s.link with receiver := r }

/-- Whether a station character makes a frame the part's own: its strapped number or 0, without the marker (R176). -/
def ownStation (s : State) (c : Byte) : Bool := decide (c.toNat = 0 ∨ c.toNat = s.link.station)

/-- How many characters of header follow the sync: five in a request, six where the station character carries the reply
marker (R176, R197). -/
def headerLength (station : Byte) : Nat := if station.toNat < 128 then 5 else 6

/-- The station compare (R176): a queued reply is abandoned for an own frame; an owed restart loses the frame (R187). -/
def stationCompare (c : Byte) (s : State) : State :=
  if ownStation s c then
    let a := abandonReply s
    if a.2 then a.1 else setReceiver (.header [c]) a.1
  else setReceiver (.header [c]) s

/-- The body length taken (R176). -/
def lengthTaken (station : Byte) (header : List Byte) (len : Nat) (s : State) : State :=
  if ownStation s station then
    if len ≤ 240 then
      setReceiver (.body station.toNat (numAt header 1 1) (BitVec.ofNat 16 (numAt header 2 2)) len []) s
    else setReceiver .waiting (recordFault .length s)
  else setReceiver (.skipping (len + 2)) s

/-- A header character after the station (R176). -/
def headerCharacter (station : Byte) (taken : List Byte) (c : Byte) (s : State) : State :=
  if taken.length + 1 < headerLength station then setReceiver (.header (taken ++ [c])) s
  else lengthTaken station taken c.toNat s

/-- A body or CRC character (R177). -/
def bodyCharacter (station type : Nat) (tag : Tag) (len : Nat) (taken : List Byte) (c : Byte) (s : State) : State :=
  let t := taken ++ [c]
  if t.length < len + 2 then setReceiver (.body station type tag len t) s
  else completeFrame station type tag (t.take len) (t.drop len) s

/-- A character reaches the receiver by its state (R175). -/
def takeCharacter (c : Byte) (s : State) : State :=
  match s.link.receiver with
  | .ready => setReceiver (if c = syncCharacter then .header [] else .waiting) s
  | .header [] => stationCompare c s
  | .header (st :: rest) => headerCharacter st (st :: rest) c s
  | .body station type tag len taken => bodyCharacter station type tag len taken c s
  | .skipping n => setReceiver (if n ≤ 1 then .ready else .skipping (n - 1)) s
  | .waiting => s
  | .off => s

/-- A character is received (R174, R175): it starts the silence timer; a receiver that is OFF receives none (R182). -/
def receiveCharacter (c : Byte) (s : State) : State :=
  if s.link.receiver = .off then s
  else takeCharacter c (s.withLink { s.link with silence := some s.counter })

/-! ### Silence and replies (R175, R178, R182, R187) -/

/-- What the expiry of the silence timer does to the receiver (R175, R178): only a frame known as the part's own gives
the fault GAP (R180). -/
def breakOff (s : State) : State :=
  match s.link.receiver with
  | .ready => s
  | .off => s
  | .header (st :: _) =>
    setReceiver .ready (if ownStation s st then recordFault .gap s else s)
  | .header [] => setReceiver .ready s
  | .body _ _ _ _ _ => setReceiver .ready (recordFault .gap s)
  | .skipping _ => setReceiver .ready s
  | .waiting => setReceiver .ready s

/-- The silence timer expires; one that a character has just restarted does not (R178). -/
def silenceExpires (s : State) : State :=
  match s.link.silence with
  | none => s
  | some t => if s.beginsNow t then s else breakOff (s.withLink { s.link with silence := none })

/-- The characters of a reply the frame check covers: those between sync and check code, in the order sent, the status
among them (R179, R197; log entry 44). -/
def checkedReply (r : Reply) : List Byte :=
  num 1 r.station ++ num 1 r.type ++ bigEndian 2 r.tag.toNat ++ enum (statusNumber r.status) ++ num 1 r.body.length ++
  r.body

/-- A reply frame as it is sent (R197): sync, the part's number with the reply marker, type, tag, status, body length, body
and CRC. -/
def replyFrame (r : Reply) : List Byte := syncCharacter :: (checkedReply r ++ crcField (crc16 (checkedReply r)))

/-- Whether a character has ended on the line at this very instant (R174, R182): it has started the silence timer. -/
def State.lineBusy (s : State) : Bool := s.link.silence.any s.beginsNow

/-- A queued reply begins to be sent (R182): its frame goes out and the receiver is OFF. Where a character has been taken
first at this instant, the line is not idle and the reply waits. -/
def startReply (s : State) : State :=
  match s.link.reply with
  | .queued r =>
    if s.lineBusy then s
    else
      s.withLink
        { s.link with reply := .sending r, sent := replyFrame r, receiver := .off, silence := some s.counter }
  | .sending _ => s
  | .none => s

/-- A reply's last character (R182, R187): the receiver is READY; an owed restart is performed. -/
def endReply (s : State) : State :=
  match s.link.reply with
  | .sending r =>
    let s1 := s.withLink
      { s.link with reply := .none, sent := [], receiver := .ready, silence := some s.counter }
    if r.restart then performStart s1 else s1
  | .queued _ => s
  | .none => s

/-- The deadline of a queued reply passes (R182, R183); that of one formed at this very instant does not. -/
def deadlineExpires (s : State) : State :=
  match s.link.reply with
  | .queued r => if s.beginsNow r.formed then s else (abandonReply s).1
  | .sending _ => s
  | .none => s

/-- CHARACTER_RECEIVED (R175). -/
def execCharacterReceived (dt : Nat) (character : Byte) (s : State) : Host.Outcome State Fault Refusal :=
  .next (whileRunning dt (receiveCharacter character) s)

/-- SILENCE_TIMER_EXPIRY (R175, R178). -/
def execSilenceTimerExpiry (dt : Nat) (s : State) : Host.Outcome State Fault Refusal :=
  .next (whileRunning dt silenceExpires s)

/-- REPLY_START (R182). -/
def execReplyStart (dt : Nat) (s : State) : Host.Outcome State Fault Refusal :=
  .next (whileRunning dt startReply s)

/-- REPLY_DEADLINE_EXPIRY (R182, R183, R187). -/
def execReplyDeadlineExpiry (dt : Nat) (s : State) : Host.Outcome State Fault Refusal :=
  .next (whileRunning dt deadlineExpires s)

/-- REPLY_END (R182, R187). -/
def execReplyEnd (dt : Nat) (s : State) : Host.Outcome State Fault Refusal :=
  .next (whileRunning dt endReply s)

end Sys2Proof.Machine
end

