-- ==== Sys2Proof/Machine/Dispatch.lean ====
section
/-! DEFINITION. The dispatch: one arm for each command, each one direct call of its meaning. -/

namespace Sys2Proof.Machine

/-- The effect of a command on everything but the queue. -/
def exec (i : Instr) (s : State) : Host.Outcome State Fault Refusal :=
  match i with
  | .plsg dt h run part => Sys2Proof.Machine.execPlsg dt h run part s
  | .ftst dt h run => Sys2Proof.Machine.execFtst dt h run s
  | .prdg dt h point part => Sys2Proof.Machine.execPrdg dt h point part s
  | .subs dt h point value => Sys2Proof.Machine.execSubs dt h point value s
  | .tset dt h time => Sys2Proof.Machine.execTset dt h time s
  | .totg dt h run part => Sys2Proof.Machine.execTotg dt h run part s
  | .snap dt h => Sys2Proof.Machine.execSnap dt h s
  | .snpg dt h part => Sys2Proof.Machine.execSnpg dt h part s
  | .ropn dt h run => Sys2Proof.Machine.execRopn dt h run s
  | .rcls dt h run => Sys2Proof.Machine.execRcls dt h run s
  | .gset dt h grade name alpha f rho => Sys2Proof.Machine.execGset dt h grade name alpha f rho s
  | .gget dt h grade part => Sys2Proof.Machine.execGget dt h grade part s
  | .bsch dt h id grade nomination destination => Sys2Proof.Machine.execBsch dt h id grade nomination destination s
  | .bdel dt h id => Sys2Proof.Machine.execBdel dt h id s
  | .bsta dt h => Sys2Proof.Machine.execBsta dt h s
  | .bend dt h => Sys2Proof.Machine.execBend dt h s
  | .bcut dt h => Sys2Proof.Machine.execBcut dt h s
  | .bget dt h part => Sys2Proof.Machine.execBget dt h part s
  | .tget dt h ticket part => Sys2Proof.Machine.execTget dt h ticket part s
  | .trel dt h ticket => Sys2Proof.Machine.execTrel dt h ticket s
  | .preq dt h run rounds attempts limit => Sys2Proof.Machine.execPreq dt h run rounds attempts limit s
  | .pcan dt h run => Sys2Proof.Machine.execPcan dt h run s
  | .paln dt h run => Sys2Proof.Machine.execPaln dt h run s
  | .pget dt h number part => Sys2Proof.Machine.execPget dt h number part s
  | .pacc dt h run confirm => Sys2Proof.Machine.execPacc dt h run confirm s
  | .prej dt h run => Sys2Proof.Machine.execPrej dt h run s
  | .pena dt h => Sys2Proof.Machine.execPena dt h s
  | .pdis dt h => Sys2Proof.Machine.execPdis dt h s
  | .mfgt dt h run rate part => Sys2Proof.Machine.execMfgt dt h run rate part s
  | .mfsp dt h run rate mf => Sys2Proof.Machine.execMfsp dt h run rate mf s
  | .mfdp dt h run rate => Sys2Proof.Machine.execMfdp dt h run rate s
  | .cndg dt h scope part => Sys2Proof.Machine.execCndg dt h scope part s
  | .cndc dt h target => Sys2Proof.Machine.execCndc dt h target s
  | .cstg dt h block groups => Sys2Proof.Machine.execCstg dt h block groups s
  | .ccom dt h block => Sys2Proof.Machine.execCcom dt h block s
  | .cget dt h block copy part => Sys2Proof.Machine.execCget dt h block copy part s
  | .ktst dt h block => Sys2Proof.Machine.execKtst dt h block s
  | .aget dt h number part => Sys2Proof.Machine.execAget dt h number part s
  | .atak dt h number => Sys2Proof.Machine.execAtak dt h number s
  | .stat dt h part => Sys2Proof.Machine.execStat dt h part s
  | .rstr dt h => Sys2Proof.Machine.execRstr dt h s
  | .rack dt h => Sys2Proof.Machine.execRack dt h s
  | .meterChannelRisingEdge dt run channel => Sys2Proof.Machine.execMeterChannelRisingEdge dt run channel s
  | .meterChannelFall dt run channel => Sys2Proof.Machine.execMeterChannelFall dt run channel s
  | .qualificationTimeExpiry dt run channel comparatorFault => Sys2Proof.Machine.execQualificationTimeExpiry dt run channel comparatorFault s
  | .detectorActivation dt detector => Sys2Proof.Machine.execDetectorActivation dt detector s
  | .detectorRelease dt detector => Sys2Proof.Machine.execDetectorRelease dt detector s
  | .debounceExpiry dt detector => Sys2Proof.Machine.execDebounceExpiry dt detector s
  | .deadTimeExpiry dt detector => Sys2Proof.Machine.execDeadTimeExpiry dt detector s
  | .conversionCompletion dt fraction => Sys2Proof.Machine.execConversionCompletion dt fraction s
  | .staleTimerExpiry dt point => Sys2Proof.Machine.execStaleTimerExpiry dt point s
  | .periodBoundary dt order => Sys2Proof.Machine.execPeriodBoundary dt order s
  | .alignTimeoutExpiry dt => Sys2Proof.Machine.execAlignTimeoutExpiry dt s
  | .launchTimeoutExpiry dt => Sys2Proof.Machine.execLaunchTimeoutExpiry dt s
  | .passTimeoutExpiry dt => Sys2Proof.Machine.execPassTimeoutExpiry dt s
  | .holdTimerExpiry dt => Sys2Proof.Machine.execHoldTimerExpiry dt s
  | .permitLineFall dt => Sys2Proof.Machine.execPermitLineFall dt s
  | .permitLineRise dt => Sys2Proof.Machine.execPermitLineRise dt s
  | .externalFilterExpiry dt => Sys2Proof.Machine.execExternalFilterExpiry dt s
  | .characterReceived dt character => Sys2Proof.Machine.execCharacterReceived dt character s
  | .silenceTimerExpiry dt => Sys2Proof.Machine.execSilenceTimerExpiry dt s
  | .replyStart dt => Sys2Proof.Machine.execReplyStart dt s
  | .replyDeadlineExpiry dt => Sys2Proof.Machine.execReplyDeadlineExpiry dt s
  | .replyEnd dt => Sys2Proof.Machine.execReplyEnd dt s
  | .powerFailWarning dt order => Sys2Proof.Machine.execPowerFailWarning dt order s
  | .warningDeassertion dt => Sys2Proof.Machine.execWarningDeassertion dt s
  | .mainPowerReturn dt => Sys2Proof.Machine.execMainPowerReturn dt s
  | .mainPowerFailure dt => Sys2Proof.Machine.execMainPowerFailure dt s
  | .backupSupplyFailure dt => Sys2Proof.Machine.execBackupSupplyFailure dt s
  | .resetLineFall dt => Sys2Proof.Machine.execResetLineFall dt s
  | .resetLineRise dt => Sys2Proof.Machine.execResetLineRise dt s
  | .resetQualificationExpiry dt => Sys2Proof.Machine.execResetQualificationExpiry dt s
  | .stationClockSecond dt => Sys2Proof.Machine.execStationClockSecond dt s
  | .secondsSinceStartAdvance dt => Sys2Proof.Machine.execSecondsSinceStartAdvance dt s

end Sys2Proof.Machine
end

