-- ==== Sys2Proof/WellFormed.lean ====
section
/-! DEFINITION. Well-formed commands: every operand fits the characters or the range in which the link, the converter or the boundary delivers it (R25, R118, R173, R197, R198). A well-formed request may still be refused; an ill-formed one is no frame of the link. -/

namespace Sys2Proof

/-- A number that fits w characters. -/
def fits (w n : Nat) : Bool := decide (n < 256 ^ w)

/-- An optional number that fits w characters, if present. -/
def optFits (w : Nat) : Option Nat → Bool
  | none => true
  | some n => fits w n

/-- A signed number that fits four characters. -/
def fitsSigned (v : Int) : Bool := decide (-2147483648 ≤ v ∧ v ≤ 2147483647)

/-- A text of at most w characters as a text field yields it: its last character is not the zero that pads the field. -/
def fitsText (w : Nat) (t : List Byte) : Bool := decide (t.length ≤ w) && decide (t.getLast? ≠ some 0)

def optFitsText (w : Nat) : Option (List Byte) → Bool
  | none => true
  | some t => fitsText w t

/-- A header names a station 0 to 31 (R173, R197). -/
def wfHeader (h : Header) : Bool := decide (h.station ≤ 31)

/-- A group's index and value length fit their characters (R198). -/
def wfGroup (g : FieldGroup) : Bool := fits 2 g.index && fits 1 g.value.length

/-- One group or more, and a body of at most 240 characters (R159, R197). -/
def wfGroups (gs : List FieldGroup) : Bool :=
  !gs.isEmpty && gs.all wfGroup && decide (1 + (gs.map fun g => 3 + g.value.length).sum ≤ 240)

/-- The cause a boundary names first is one a boundary can bring (R117, R118, R119). -/
def wfOrder (o : BoundaryOrder) : Bool :=
  decide (o.causeFirst = .gradeChange ∨ o.causeFirst = .configChanged ∨ o.causeFirst = .runClosed ∨
    o.causeFirst = .runFailed)

/-- A kind and a scope of a CNDC fit their characters. -/
def wfTarget : Option (Nat × Nat) → Bool
  | none => true
  | some p => fits 1 p.1 && fits 1 p.2

/-- The well-formed commands. -/
def wellFormed : Instr → Bool
  | .plsg _ h run part => wfHeader h && fits 1 run && fits 1 part
  | .ftst _ h run => wfHeader h && fits 1 run
  | .prdg _ h point part => wfHeader h && optFits 1 point && fits 1 part
  | .subs _ h point value => wfHeader h && fits 1 point && fitsSigned value
  | .tset _ h time => wfHeader h && fits 4 time
  | .totg _ h run part => wfHeader h && optFits 1 run && fits 1 part
  | .snap _ h => wfHeader h
  | .snpg _ h part => wfHeader h && fits 1 part
  | .ropn _ h run => wfHeader h && fits 1 run
  | .rcls _ h run => wfHeader h && fits 1 run
  | .gset _ h grade name alpha f rho =>
    wfHeader h && fits 1 grade && fitsText 12 name && fits 4 alpha && fits 4 f && fits 2 rho
  | .gget _ h grade part => wfHeader h && optFits 1 grade && fits 1 part
  | .bsch _ h id grade nomination destination =>
    wfHeader h && fits 3 id && fits 1 grade && optFits 5 nomination && optFitsText 8 destination
  | .bdel _ h id => wfHeader h && fits 3 id
  | .bsta _ h => wfHeader h
  | .bend _ h => wfHeader h
  | .bcut _ h => wfHeader h
  | .bget _ h part => wfHeader h && fits 1 part
  | .tget _ h ticket part => wfHeader h && optFits 5 ticket && fits 1 part
  | .trel _ h ticket => wfHeader h && fits 5 ticket
  | .preq _ h run rounds attempts limit =>
    wfHeader h && fits 1 run && fits 1 rounds && fits 1 attempts && fits 2 limit
  | .pcan _ h run => wfHeader h && fits 1 run
  | .paln _ h run => wfHeader h && fits 1 run
  | .pget _ h number part => wfHeader h && optFits 4 number && fits 1 part
  | .pacc _ h run _ => wfHeader h && fits 1 run
  | .prej _ h run => wfHeader h && fits 1 run
  | .pena _ h => wfHeader h
  | .pdis _ h => wfHeader h
  | .mfgt _ h run rate part => wfHeader h && fits 1 run && optFits 4 rate && fits 1 part
  | .mfsp _ h run rate mf => wfHeader h && fits 1 run && fits 4 rate && fits 2 mf
  | .mfdp _ h run rate => wfHeader h && fits 1 run && fits 4 rate
  | .cndg _ h scope part => wfHeader h && optFits 1 scope && fits 1 part
  | .cndc _ h target => wfHeader h && wfTarget target
  | .cstg _ h block groups => wfHeader h && fits 1 block && wfGroups groups
  | .ccom _ h block => wfHeader h && fits 1 block
  | .cget _ h block copy part => wfHeader h && fits 1 block && fits 1 copy && fits 1 part
  | .ktst _ h block => wfHeader h && fits 1 block
  | .aget _ h number part => wfHeader h && optFits 4 number && fits 1 part
  | .atak _ h number => wfHeader h && fits 4 number
  | .stat _ h part => wfHeader h && fits 1 part
  | .rstr _ h => wfHeader h
  | .rack _ h => wfHeader h
  | .meterChannelRisingEdge _ _ _ => true
  | .meterChannelFall _ _ _ => true
  | .qualificationTimeExpiry _ _ _ _ => true
  | .detectorActivation _ _ => true
  | .detectorRelease _ _ => true
  | .debounceExpiry _ _ => true
  | .deadTimeExpiry _ _ => true
  | .conversionCompletion _ fraction => decide (fraction ≤ 1000000)
  | .staleTimerExpiry _ _ => true
  | .periodBoundary _ order => wfOrder order
  | .alignTimeoutExpiry _ => true
  | .launchTimeoutExpiry _ => true
  | .passTimeoutExpiry _ => true
  | .holdTimerExpiry _ => true
  | .permitLineFall _ => true
  | .permitLineRise _ => true
  | .externalFilterExpiry _ => true
  | .characterReceived _ _ => true
  | .silenceTimerExpiry _ => true
  | .replyStart _ => true
  | .replyDeadlineExpiry _ => true
  | .replyEnd _ => true
  | .powerFailWarning _ order => wfOrder order
  | .warningDeassertion _ => true
  | .mainPowerReturn _ => true
  | .mainPowerFailure _ => true
  | .backupSupplyFailure _ => true
  | .resetLineFall _ => true
  | .resetLineRise _ => true
  | .resetQualificationExpiry _ => true
  | .stationClockSecond _ => true
  | .secondsSinceStartAdvance _ => true

end Sys2Proof
end

