-- ==== Sys2Proof/Safety.lean ====
section
/-! DEFINITION. Safety: runs that never stop, and the invariants the manual states of the part, each as a predicate on states that every step keeps. -/

namespace Sys2Proof.Safety

open Sys2Proof Sys2Proof.Machine

/-- The states a run from s reaches. -/
inductive Reaches (s : State) : State → Prop where
  | refl : Reaches s s
  | step (t u : State) : Reaches s t → step t = .next u → Reaches s u

/-- No run from s stops. -/
def Safe (s : State) : Prop := ∀ t, Reaches s t → ∃ u, step t = .next u

/-- An invariant every step keeps. -/
def Kept (inv : State → Prop) : Prop := ∀ s t : State, inv s → step s = .next t → inv t

/-- The audit trail (R167, R169): at most 48 entries, at most 47 while RETENTION_LOST is active, numbered consecutively
up to the counter, modulo 2³². -/
def AuditInv (s : State) : Prop :=
  s.store.audit.length ≤ 48 ∧
  (s.retentionLost = true → s.store.audit.length ≤ 47) ∧
  ∀ (i : Nat) (e : AuditEntry), s.store.audit[i]? = some e →
    e.seq = s.store.auditCounter - BitVec.ofNat 32 (s.store.audit.length - i)

/-- The tickets of the store, oldest first, the held record last. -/
def tickets (s : State) : List Ticket := s.store.slots ++ s.store.held.toList

/-- The ticket store (R85, R78): at most 12 slots, the held record occupied only while they are full, numbers
consecutive up to the counter, and the held record free while an end or a cut-over is pending. -/
def TicketInv (s : State) : Prop :=
  s.store.slots.length ≤ 12 ∧
  (s.store.held.isSome = true → s.store.slots.length = 12) ∧
  (∀ (i : Nat) (t : Ticket), (tickets s)[i]? = some t → t.number + ((tickets s).length - i) = s.store.ticketCounter) ∧
  (s.change = .ends ∨ s.change = .cutover → s.store.held = none)

/-- The ids of the active batch and of the queue. -/
def batchIds (s : State) : List Nat :=
  (s.store.active.toList.map fun b => b.entry.id) ++ s.store.queue.map fun e => e.id

/-- The batch queue (R70, R75): at most 8 entries, no id twice among queue and active batch, a reserved head while a
start or a cut-over is pending, and a batch to end while an end or a cut-over is. -/
def BatchInv (s : State) : Prop :=
  s.store.queue.length ≤ 8 ∧
  (batchIds s).Nodup ∧
  (s.change = .start ∨ s.change = .cutover → s.store.queue ≠ []) ∧
  (s.change = .start → s.store.active = none) ∧
  (s.change = .ends ∨ s.change = .cutover → s.store.active ≠ none)

/-- The meter factor curves (R126): every current and pending curve has the form of a curve, and every pending result
lies in the range of a curve point (R115). -/
def CurveInv (s : State) : Prop :=
  ∀ r : Run,
    curveForm (s.store.curves.get r) = true ∧
    (∀ c, s.store.pendingCurves.get r = some c → curveForm c = true) ∧
    (∀ x res, s.store.results.get r = some x → x.result = some res → 8000 ≤ res.mf ∧ res.mf ≤ 12000)

/-- The permit line (R148): driven exactly when a TRIP-class condition is active or the hold timer is running. -/
def PermitInv (s : State) : Prop := s.monitor.withdrawn = (s.tripActive || s.monitor.hold.isSome)

/-- The period flag in the making (R55): a run that is not SOUND has the period in progress marked. -/
def FlagInv (s : State) : Prop :=
  s.running = true → ∀ r : Run, s.integrity r ≠ .sound → s.totalizer.unsound.get r = true

/-- How many of a queued request, the record holding the prover and a pending result a run has. -/
def provings (s : State) (r : Run) : Nat :=
  (s.requests.filter fun q => decide (q.run = r)).length +
  (s.store.record.toList.filter fun x => decide (x.request.run = r)).length +
  (s.store.results.get r).toList.length

/-- The prover (R99, R101, R102, R104 to R107, R122): each run has at most one request, record or pending result; no
record holds a DISABLED prover; a record holding the prover is in a state from ALIGNING to TURN, with a round in progress
in PASS, TAIL and TURN and no figures yet for a pass in PASS; the history holds at most four. -/
def ProverInv (s : State) : Prop :=
  (∀ r : Run, provings s r ≤ 1) ∧
  (s.store.proverEnabled = false → s.store.record = none) ∧
  (∀ x, s.store.record = some x → recordTimer x.state ≠ none) ∧
  (∀ x, s.store.record = some x → x.state = .pass ∨ x.state = .tail ∨ x.state = .turn →
    ∃ c, x.current = some c ∧ (x.state = .pass → (currentPass c).figures = none)) ∧
  s.store.history.length ≤ 4

/-- Whether every point named with a kind is of that kind in a table of setups. -/
def kindsAgree (setups : Vector PointSetup 16) (named : List (Nat × PointKind)) : Bool :=
  named.all fun q => pointOfKind setups q.1 q.2

/-- The points the current blocks name, with the kinds they require. -/
def currentKinds (s : State) : List (Nat × PointKind) :=
  (allRuns.map fun r =>
    [((s.runBlock r).tempPoint, PointKind.temperature), ((s.runBlock r).pressPoint, PointKind.pressure)]).flatten ++
  [(s.proverBlock.tempPoint, .temperature), (s.proverBlock.pressPoint, .pressure), (s.stationBlock.waterPoint, .water)]

/-- The blocks (R160): those in force, and those that will be, agree on the kinds of the points they name. -/
def KindsInv (s : State) : Prop :=
  kindsAgree s.pointsBlock.setups (currentKinds s) = true ∧
  kindsAgree s.store.points.next.setups s.requiredKinds = true

/-- Grades (R67): a grade named by the STATION block, by a batch or by the record holding the prover is HOLDING. -/
def GradesInv (s : State) : Prop :=
  (s.gradeEntry s.stationBlock.defaultGrade).isSome = true ∧
  (s.gradeEntry s.store.station.next.defaultGrade).isSome = true ∧
  (∀ b, s.store.active = some b → (s.gradeEntry b.entry.grade).isSome = true) ∧
  (∀ e, e ∈ s.store.queue → (s.gradeEntry e.grade).isSome = true) ∧
  (∀ x, s.store.record = some x → (s.gradeEntry x.grade).isSome = true)

/-- At least zero and less than one unit. -/
def fraction (x : Rat) : Prop := 0 ≤ x ∧ x < 1

/-- The residues (R53). -/
def ResidueInv (s : State) : Prop :=
  ∀ r : Run,
    fraction (s.store.runs.get r).residues.iv ∧ fraction (s.store.runs.get r).residues.gsv ∧
    fraction (s.store.runs.get r).residues.nsv ∧ fraction (s.store.runs.get r).residues.mass

/-- The link (R175, R182): while RUNNING the receiver is OFF exactly while a reply is being sent. -/
def LinkInv (s : State) : Prop :=
  s.running = true → (s.link.receiver = .off ↔ ∃ r, s.link.reply = .sending r)

/-- The pulse input unit (R1, R8): tallies stop at 15, noise counts at 65535. -/
def PulseInv (s : State) : Prop :=
  ∀ r : Run,
    (s.runPulse r).a.silence ≤ 15 ∧ (s.runPulse r).b.silence ≤ 15 ∧ (s.runPulse r).mismatch ≤ 15 ∧
    (s.runPulse r).matched ≤ 15 ∧ (s.runPulse r).a.noise ≤ 65535 ∧ (s.runPulse r).b.noise ≤ 65535

end Sys2Proof.Safety
end

