-- ==== Sys2Proof/Certificates/Slice0/Obligations.lean ====
section
/-! DEFINITION. The statements for the provers. Sys2Proof.Stated holds the words they are written in: what it is for a frame to reach the part, the state it leaves the link in, and the reply it queues. -/

namespace Sys2Proof.Stated

open Sys2Proof Sys2Proof.Machine

/-- dt counts later. -/
def later (dt : Nat) (s : State) : State := s.withCounter (s.counter + BitVec.ofNat 48 dt)

/-- The instant of an acceptance of the reset line: the last start came of one, and no time has passed since (R192; how the
model knows it is log entry 43). -/
def AtReset (s : State) : Prop :=
  s.running = true ∧ s.supply.byReset = true ∧ s.counter = 0 ∧ s.supply.seconds = 0

/-- The part takes a frame whose last character comes dt counts from now: RUNNING, its receiver on, no reply queued or
sending, and that instant not one of an acceptance of the reset line. -/
def Listening (dt : Nat) (s : State) : Prop :=
  s.running = true ∧ s.link.receiver ≠ .off ∧ s.link.reply = .none ∧ ¬AtReset (later dt s)

/-- The period timer can expire dt counts from now: that instant is neither one of an acceptance of the reset line nor the
one at which the timer was started. -/
def Ends (dt : Nat) (s : State) : Prop := ¬AtReset (later dt s) ∧ (later dt s).counter ≠ s.totalizer.periodStart

/-- A header that names the part's own station. -/
def Own (h : Header) (s : State) : Prop := h.station = s.link.station ∧ h.station ≠ 0

/-- An own frame reaches a part that takes frames. -/
def Taken (dt : Nat) (h : Header) (s : State) : Prop := Listening dt s ∧ Own h s

/-- The state as a frame's last character finds it: dt counts later, the receiver READY, the silence timer started. -/
def arrived (dt : Nat) (s : State) : State :=
  (later dt s).withLink { s.link with receiver := .ready, silence := some (later dt s).counter }

/-- A reply queued, with the part's number and the reply marker (R181, R197). -/
def replied (h : Header) (type : Nat) (st : Status) (body : List Byte) (t : State) : State :=
  t.withLink { t.link with
    reply := .queued
      { station := t.link.station + 128, type := type, tag := h.tag, status := st, body := body, restart := false,
        formed := t.counter } }

/-- A command answers a state. -/
def Gives (i : Instr) (s t : State) : Prop := exec i s = .next t

/-- The outcome of a request as it is taken: its status and body, and the state its effects leave. -/
structure Effect where
  status : Status
  body : List Byte
  state : State

/-- A request that is refused with no effect. -/
def refusal (t : State) (st : Status) : Effect := { status := st, body := [], state := t }

/-- A request that is answered OK. -/
def done (t : State) (body : List Byte) : Effect := { status := .ok, body := body, state := t }

/-- A request taken by a listening part gives an effect on the state its last character finds, and queues the reply. -/
def Effects (i : Instr) (dt : Nat) (h : Header) (type : Nat) (s : State) (e : State → Effect) : Prop :=
  Gives i s (replied h type (e (arrived dt s)).status (e (arrived dt s)).body (e (arrived dt s)).state)

/-- A broadcast that is ignored: time passes and the frame is received, and nothing else. -/
def BroadcastIgnored (i : Header → Instr) (dt : Nat) : Prop :=
  ∀ (h : Header) (s : State), Listening dt s → h.station = 0 → Gives (i h) s (arrived dt s)

/-- The part of a stream a reading request is answered with (R199). -/
def partOf (x : List Byte) (p : Nat) (t : State) : Effect :=
  if p ≤ (x.length - 1) / 238 then done t (num 1 p ++ num 1 ((x.length - 1) / 238) ++ (x.drop (238 * p)).take 238)
  else refusal t .badField

/-- The header and the passing of time of a request; none for an event. -/
def requestOf : Instr → Option (Nat × Header)
  | .plsg dt h _ _ => some (dt, h)
  | .ftst dt h _ => some (dt, h)
  | .prdg dt h _ _ => some (dt, h)
  | .subs dt h _ _ => some (dt, h)
  | .tset dt h _ => some (dt, h)
  | .totg dt h _ _ => some (dt, h)
  | .snap dt h => some (dt, h)
  | .snpg dt h _ => some (dt, h)
  | .ropn dt h _ => some (dt, h)
  | .rcls dt h _ => some (dt, h)
  | .gset dt h _ _ _ _ _ => some (dt, h)
  | .gget dt h _ _ => some (dt, h)
  | .bsch dt h _ _ _ _ => some (dt, h)
  | .bdel dt h _ => some (dt, h)
  | .bsta dt h => some (dt, h)
  | .bend dt h => some (dt, h)
  | .bcut dt h => some (dt, h)
  | .bget dt h _ => some (dt, h)
  | .tget dt h _ _ => some (dt, h)
  | .trel dt h _ => some (dt, h)
  | .preq dt h _ _ _ _ => some (dt, h)
  | .pcan dt h _ => some (dt, h)
  | .paln dt h _ => some (dt, h)
  | .pget dt h _ _ => some (dt, h)
  | .pacc dt h _ _ => some (dt, h)
  | .prej dt h _ => some (dt, h)
  | .pena dt h => some (dt, h)
  | .pdis dt h => some (dt, h)
  | .mfgt dt h _ _ _ => some (dt, h)
  | .mfsp dt h _ _ _ => some (dt, h)
  | .mfdp dt h _ _ => some (dt, h)
  | .cndg dt h _ _ => some (dt, h)
  | .cndc dt h _ => some (dt, h)
  | .cstg dt h _ _ => some (dt, h)
  | .ccom dt h _ => some (dt, h)
  | .cget dt h _ _ _ => some (dt, h)
  | .ktst dt h _ => some (dt, h)
  | .aget dt h _ _ => some (dt, h)
  | .atak dt h _ => some (dt, h)
  | .stat dt h _ => some (dt, h)
  | .rstr dt h => some (dt, h)
  | .rack dt h => some (dt, h)
  | _ => none

/-- Whether a command is SNAP or TSET, the two that act when broadcast (R184). -/
def actsBroadcast : Instr → Bool
  | .snap _ _ => true
  | .tset _ _ _ => true
  | _ => false

/-- The state with a frame fault recorded (R180). -/
def faulted (f : FrameFault) (s : State) : State :=
  s.withLink { s.link with fault := f, faultTime := some s.clock, faultCount := countUp 255 s.link.faultCount }

/-- The state with no reply queued. -/
def withoutReply (s : State) : State := s.withLink { s.link with reply := .none }

/-- A broadcast that acts: the effect is made, and nothing is answered. -/
def BroadcastActs (i : Header → Instr) (dt : Nat) (e : State → Effect) : Prop :=
  ∀ (h : Header) (s : State), Listening dt s → h.station = 0 → Gives (i h) s (e (arrived dt s)).state

/-- Whether an audit entry is free to a request other than the retention acknowledgement (R169). -/
def entryFree (t : State) : Bool := decide (t.store.audit.length < if t.retentionLost then 47 else 48)

/-- An audit entry made (R167, R168). -/
def audited (scope : Option Run) (d : AuditData) (t : State) : State :=
  t.withStore { t.store with
    audit := t.store.audit ++ [{ seq := t.store.auditCounter, time := t.clock, scope := scope, data := d }]
    auditCounter := t.store.auditCounter + 1 }

/-- The history with a record entered at its newest end, the oldest beyond four dropped (R122). -/
def entered (x : ProvingRecord) (history : List ProvingRecord) : List ProvingRecord :=
  (history ++ [x]).drop (history.length + 1 - 4)

/-- The record holding the prover ended and filed in the history (R102, R122). -/
def filed (st : RecordState) (cause : EndCause) (x : ProvingRecord) (t : State) : State :=
  t.withStore { t.store with
    record := none
    history := entered { x with state := st, cause := some cause, ended := some t.clock, current := none }
      t.store.history }

/-- A request that names a run is refused with BAD_FIELD outside 1 to 4. -/
def onRun (run : Nat) (t : State) (e : Run → Effect) : Effect :=
  match runOf run with
  | none => refusal t .badField
  | some r => e r

/-- t differs from s in conditions and permit line, marks of the period in progress and proving only: what judgements,
activations and pulses reach beside their own block. -/
def Beside (s t : State) : Prop :=
  t = (((s.withMonitor t.monitor).withTotalizer { s.totalizer with unsound := t.totalizer.unsound }).withRequests
    t.requests).withStore { s.store with
      record := t.store.record, results := t.store.results, history := t.store.history,
      provingCounter := t.store.provingCounter }

/-- The commands of a list taken one after another lead from s to t. -/
def Runs : List Instr → State → State → Prop
  | [], s, t => t = s
  | i :: rest, s, t => ∃ u, Gives i s u ∧ Runs rest u t

end Sys2Proof.Stated

open Sys2Proof Sys2Proof.Machine Sys2Proof.Safety Sys2Proof.Stated

/-! ### The queue and the frames -/

/-- A step takes the command at the front of the queue and runs it on the queue's rest; with none waiting the part idles
(log entry 1). -/
def Obligations.StepTakesTheFrontCommand : Prop :=
  (∀ (c : Instr) (rest : List Instr) (s : State), step (s.withPending (c :: rest)) = exec c (s.withPending rest)) ∧
  (∀ s : State, s.pending = [] → step s = .next s)

/-- Every command goes on to a next state in every state, and none touches the queue; so no run ever stops. -/
def Obligations.EveryCommandGoesOn : Prop :=
  (∀ (i : Instr) (s : State), ∃ t, Gives i s t ∧ t.pending = s.pending) ∧ ∀ s : State, Safe s

/-- Frames that do not act: another station's is counted off, a broadcast of a type that does not act when broadcast is
ignored, a part that is not RUNNING or is sending a reply takes none, and none is taken at the instant of an acceptance of
the reset line. No boundary is made at that instant, nor at the one at which a start or a boundary has started the period
timer afresh, nor by a part that is not RUNNING (R42 to R44, R175, R176, R182, R184, R189, R192; log entries 4 and 43). A
request row stands for its whole frame (log entry 3). -/
def Obligations.FramesThatDoNotAct : Prop :=
  (∀ (i : Instr) (dt : Nat) (h : Header) (s : State), requestOf i = some (dt, h) →
    (s.running = true → s.link.receiver ≠ .off → ¬AtReset (later dt s) → h.station ≠ 0 →
      h.station ≠ s.link.station → Gives i s (arrived dt s)) ∧
    (Listening dt s → h.station = 0 → actsBroadcast i = false → Gives i s (arrived dt s)) ∧
    (s.running = false → Gives i s s) ∧
    (s.running = true → s.link.receiver = .off → Gives i s (later dt s)) ∧
    (AtReset (later dt s) → Gives i s (later dt s))) ∧
  (∀ (dt : Nat) (order : BoundaryOrder) (s : State),
    (s.running = true → ¬Ends dt s → Gives (.periodBoundary dt order) s (later dt s)) ∧
    (s.running = false → Gives (.periodBoundary dt order) s s))

/-- A frame of the part's own abandons a queued reply at its station compare and is then taken; where the reply owes a
restart, the restart is performed there and the frame is lost (R176, R183, R187; log entries 3 and 41). -/
def Obligations.OwnFrameAbandonsTheReply : Prop :=
  ∀ (i : Instr) (dt : Nat) (h : Header) (r : Reply) (s : State), requestOf i = some (dt, h) → s.running = true →
    s.link.receiver ≠ .off → ¬AtReset (later dt s) → h.station = 0 ∨ h.station = s.link.station →
    s.link.reply = .queued r →
    (r.restart = false → exec i s = exec i (withoutReply (faulted .replyAbandoned s))) ∧
    (r.restart = true → Gives i s (performStart (faulted .replyAbandoned (withoutReply (later dt s)))))

/-! ### Reading requests -/

/-- The readouts of pulses, points, totals, grades, batches and tickets answer the part asked for and change nothing
(R20, R38, R61, R63, R69, R82, R94, R199). Layouts the manual leaves open are the model's (log entries 18, 19, 26, 46,
47, 56, 57). -/
def Obligations.MeteringReadouts : Prop :=
  (∀ dt h run part s, Taken dt h s →
    Effects (.plsg dt h run part) dt h 1 s fun t => onRun run t fun r => partOf (plsgStream r t) part t) ∧
  (∀ dt h part s, Taken dt h s →
    Effects (.prdg dt h none part) dt h 3 s fun t => partOf (prdgStream none t) part t) ∧
  (∀ dt h n part s, Taken dt h s →
    Effects (.prdg dt h (some n) part) dt h 3 s fun t =>
      if p : n < 16 then partOf (prdgStream (some ⟨n, p⟩) t) part t else refusal t .badField) ∧
  (∀ dt h part s, Taken dt h s →
    Effects (.totg dt h none part) dt h 6 s fun t => partOf (totgStream none t) part t) ∧
  (∀ dt h run part s, Taken dt h s →
    Effects (.totg dt h (some run) part) dt h 6 s fun t => onRun run t fun r => partOf (totgStream (some r) t) part t) ∧
  (∀ dt h part s, Taken dt h s →
    Effects (.snpg dt h part) dt h 8 s fun t =>
      match t.store.snapshot with
      | none => refusal t .notFound
      | some x => partOf (encodeSnapshot x) part t) ∧
  (∀ dt h part s, Taken dt h s →
    Effects (.gget dt h none part) dt h 12 s fun t => partOf (ggetStream none t) part t) ∧
  (∀ dt h g part s, Taken dt h s →
    Effects (.gget dt h (some g) part) dt h 12 s fun t =>
      if 1 ≤ g ∧ g ≤ 16 then partOf (ggetStream (some g) t) part t else refusal t .badField) ∧
  (∀ dt h part s, Taken dt h s →
    Effects (.bget dt h part) dt h 18 s fun t => partOf (bgetStream t) part t) ∧
  (∀ dt h part s, Taken dt h s →
    Effects (.tget dt h none part) dt h 19 s fun t => partOf (ticketDirectory t) part t) ∧
  (∀ dt h n part s, Taken dt h s →
    Effects (.tget dt h (some n) part) dt h 19 s fun t =>
      if 1 ≤ n ∧ n ≤ 999999999999 then
        match findTicket n t with
        | none => refusal t .notFound
        | some x => partOf (num 1 x.1 ++ encodeTicket x.2) part t
      else refusal t .badField)

/-- The readouts of provings, curves, conditions, blocks, the audit trail and the part's status answer the part asked
for; STAT alone changes something, the frame fault record it has reported (R123, R138, R147, R163, R170, R186, R199).
Layouts the manual leaves open are the model's (log entries 10, 18, 22, 26, 48, 52, 54 to 57). -/
def Obligations.ControlReadouts : Prop :=
  (∀ dt h part s, Taken dt h s →
    Effects (.pget dt h none part) dt h 24 s fun t => partOf (provingDirectory t) part t) ∧
  (∀ dt h n part s, Taken dt h s →
    Effects (.pget dt h (some n) part) dt h 24 s fun t =>
      match findRecord n t with
      | none => refusal t .notFound
      | some x => partOf (encodeRecord x.1 x.2) part t) ∧
  (∀ dt h run part s, Taken dt h s →
    Effects (.mfgt dt h run none part) dt h 29 s fun t => onRun run t fun r => partOf (mfgtStream r none t) part t) ∧
  (∀ dt h run q part s, Taken dt h s →
    Effects (.mfgt dt h run (some q) part) dt h 29 s fun t => onRun run t fun r =>
      if q ≤ 999999 then partOf (mfgtStream r (some q) t) part t else refusal t .badField) ∧
  (∀ dt h part s, Taken dt h s →
    Effects (.cndg dt h none part) dt h 32 s fun t => partOf (cndgSummary t) part t) ∧
  (∀ dt h n part s, Taken dt h s →
    Effects (.cndg dt h (some n) part) dt h 32 s fun t =>
      if n = 0 then partOf (cndgStationStream t) part t else onRun n t fun r => partOf (cndgRunStream r t) part t) ∧
  (∀ dt h block copy part s, Taken dt h s →
    Effects (.cget dt h block copy part) dt h 36 s fun t =>
      match blockOf block, copyOf copy with
      | some b, some c =>
        if b = .grades ∧ c ≠ .current then refusal t .badField
        else
          match cgetStream b c t with
          | none => refusal t .notFound
          | some x => partOf x part t
      | _, _ => refusal t .badField) ∧
  (∀ dt h part s, Taken dt h s →
    Effects (.aget dt h none part) dt h 38 s fun t => partOf (auditSummary t) part t) ∧
  (∀ dt h n part s, Taken dt h s →
    Effects (.aget dt h (some n) part) dt h 38 s fun t =>
      match t.store.audit.find? fun e => decide (e.seq.toNat = n) with
      | none => refusal t .notFound
      | some e => partOf (encodeAuditEntry e) part t) ∧
  (∀ dt h part s, Taken dt h s →
    Effects (.stat dt h part) dt h 40 s fun t =>
      if part ≤ ((statStream t).length - 1) / 238 then
        { partOf (statStream t) part t with
          state := t.withLink { t.link with fault := .none, faultTime := none, faultCount := 0 } }
      else refusal t .badField)

/-- The lengths of the record streams whose layouts section 12 gives (R200, R201, R202). A destination code has at most
8 characters (R70) and a result uses at most 10 rounds (R99, R114). A field whose value does not fit keeps its width (log
entry 11). -/
def Obligations.RecordLayouts : Prop :=
  (∀ (n : Nat) (t : Ticket), (∀ d, t.entry.destination = some d → d.length ≤ 8) →
    (enum n ++ encodeTicket t).length = 1032) ∧
  (∀ (n : Nat) (x : ProvingRecord), (∀ y, x.result = some y → y.rounds.length ≤ 10) →
    (encodeRecord n x).length = 108 + 98 * x.rounds.length) ∧
  (∀ (s : State) (i : ConditionId), (encodeCondition s i).length = 16) ∧
  (∀ (s : State) (r : Run), (cndgRunStream r s).length = 209) ∧
  (∀ s : State, (cndgStationStream s).length = 96) ∧
  (∀ x : Snapshot, (encodeSnapshot x).length = 412) ∧
  (∀ e : AuditEntry, (encodeAuditEntry e).length = 10 +
    match e.data with
    | .configCommit _ _ _ _ => 16
    | .gradeSet _ _ _ => 10
    | .curveChange _ _ _ _ => 51
    | .substituteSet _ _ _ => 9
    | .timeSet _ _ => 8
    | .runService _ _ => 7
    | .retentionAck _ _ _ => 12)

/-! ### Requests of the metering blocks -/

/-- FTST marks the run's open window, once (R14). SUBS sets a point's substitute value, with its audit entry (R37, R169);
the value comes in the resolution of the point's kind and is kept in thousandths (log entry 16). -/
def Obligations.FtstAndSubs : Prop :=
  (∀ dt h run s, Taken dt h s →
    Effects (.ftst dt h run) dt h 2 s fun t => onRun run t fun r =>
      if (t.runPulse r).testMark then refusal t .badState
      else done (t.setRunPulse r { t.runPulse r with testMark := true }) []) ∧
  (∀ dt h n v s, Taken dt h s →
    Effects (.subs dt h n v) dt h 4 s fun t =>
      if p : n < 16 then
        let u := t.setup ⟨n, p⟩
        if v < u.validLow ∨ u.validHigh < v then refusal t .badField
        else if entryFree t then
          done
            (audited none (.substituteSet n (ofMilliTo u.kind t.store.substitutes[n]) v)
              (t.withStore { t.store with substitutes := t.store.substitutes.set n (toMilli u.kind v) })) []
        else refusal t .auditFull
      else refusal t .badField)

/-- TSET sets the station clock, with its audit entry, addressed or broadcast, and its next second is one second away
(R46, R184). The entry's own time is the clock's before it is set (log entry 53). -/
def Obligations.TsetSetsTheClock : Prop :=
  let effect : Nat → State → Effect := fun time t =>
    if time ≤ 3155759999 then
      if entryFree t then
        done (((audited none (.timeSet t.clock time) t).withClock time).withTotalizer
          { t.totalizer with clockSet := some t.counter }) []
      else refusal t .auditFull
    else refusal t .badField
  (∀ dt h time s, Taken dt h s → Effects (.tset dt h time) dt h 5 s (effect time)) ∧
  (∀ dt time, BroadcastActs (fun h => .tset dt h time) dt (effect time))

/-- SNAP captures the snapshot record, addressed or broadcast, and is never refused (R62, R184). -/
def Obligations.SnapCapturesTheTotals : Prop :=
  let effect : State → Effect := fun t =>
    done (t.withStore { t.store with
      snapshot := some
        { time := t.clock
          boundary := t.store.lastBoundary
          runs := PerRun.tab fun r => (t.store.runs.get r).cumulative
          batch := t.store.active.map fun b => (b.entry.id, PerRun.tab fun r => (b.runs.get r).acc) } }) []
  (∀ dt h s, Taken dt h s → Effects (.snap dt h) dt h 7 s effect) ∧
  (∀ dt, BroadcastActs (fun h => .snap dt h) dt effect)

/-- ROPN and RCLS leave a pending change of a run's service state, with its audit entry (R60). -/
def Obligations.ServiceRequests : Prop :=
  let effect : Service → Nat → State → Effect := fun target run t => onRun run t fun r =>
    let x := t.store.runs.get r
    if x.pendingService.isSome then refusal t .badState
    else if x.service = target then refusal t .badState
    else if entryFree t then
      done
        (audited (some r) (.runService target (x.cumulative.good.gsv + x.cumulative.flagged.gsv))
          (t.withStore { t.store with runs := t.store.runs.set r { x with pendingService := some target } })) []
    else refusal t .auditFull
  (∀ dt h run s, Taken dt h s → Effects (.ropn dt h run) dt h 9 s (effect .opened run)) ∧
  (∀ dt h run s, Taken dt h s → Effects (.rcls dt h run) dt h 10 s (effect .closed run))

/-! ### Requests of grades, batches and tickets -/

/-- GSET sets a grade entry that is not in use, with fresh codes, its audit entry, and the GRADES mark cleared (R68,
R164). -/
def Obligations.GsetSetsTheGrade : Prop :=
  ∀ dt h g name alpha f rho s, Taken dt h s →
    Effects (.gset dt h g name alpha f rho) dt h 11 s fun t =>
      if p : 1 ≤ g ∧ g ≤ 16 then
        if name.length ≤ 12 ∧ name.all printable = true ∧ (1000 ≤ alpha ∧ alpha ≤ 20000 ∧ alpha % 10 = 0) ∧
            (100 ≤ f ∧ f ≤ 2000) ∧ (6000 ≤ rho ∧ rho ≤ 11000) then
          if t.gradeInUse g then refusal t .gradeInUse
          else if entryFree t then
            let e : GradeEntry :=
              { name := name, alpha := alpha, f := f, rho := rho, code := gradeEntryCode name alpha f rho }
            let table := t.store.grades.set (g - 1) (some e) (by omega)
            done
              (clearMark .grades (audited none (.gradeSet g t.store.gradesCode (gradesContentsCode table))
                (t.withStore { t.store with grades := table, gradesCode := gradesContentsCode table }))) []
          else refusal t .auditFull
        else refusal t .badField
      else refusal t .badField

/-- BSCH appends a batch at the tail of the queue (R71). -/
def Obligations.BschSchedulesABatch : Prop :=
  ∀ dt h id grade nomination destination s, Taken dt h s →
    Effects (.bsch dt h id grade nomination destination) dt h 13 s fun t =>
      if (1 ≤ id ∧ id ≤ 999999) ∧ (t.gradeEntry grade).isSome = true ∧
          (∀ n ∈ nomination, 1 ≤ n ∧ n ≤ 9999999999) ∧
          (∀ d ∈ destination, (1 ≤ d.length ∧ d.length ≤ 8) ∧ d.all printable = true) then
        if (t.store.active.any fun b => decide (b.entry.id = id)) || (t.store.queue.any fun e => decide (e.id = id)) then
          refusal t .duplicate
        else if 8 ≤ t.store.queue.length then refusal t .queueFull
        else
          done (t.withStore { t.store with
            queue := t.store.queue ++
              [{ id := id, grade := grade, nomination := nomination, destination := destination }] }) []
      else refusal t .badField

/-- BDEL removes a batch from the queue, the reserved head excepted (R72). -/
def Obligations.BdelRemovesABatch : Prop :=
  ∀ dt h id s, Taken dt h s →
    Effects (.bdel dt h id) dt h 14 s fun t =>
      if 1 ≤ id ∧ id ≤ 999999 then
        if t.store.active.any fun b => decide (b.entry.id = id) then refusal t .badState
        else if !(t.store.queue.any fun e => decide (e.id = id)) then refusal t .notFound
        else if (t.change = .start ∨ t.change = .cutover) ∧ t.store.queue.head?.any (fun e => decide (e.id = id)) then
          refusal t .badState
        else done (t.withStore { t.store with queue := t.store.queue.filter fun e => decide (e.id ≠ id) }) []
      else refusal t .badField

/-- BSTA reserves the head of the queue to start at the next boundary (R75). -/
def Obligations.BstaReservesTheHead : Prop :=
  ∀ dt h s, Taken dt h s →
    Effects (.bsta dt h) dt h 15 s fun t =>
      if t.store.active.isSome ∨ t.change ≠ .none then refusal t .badState
      else
        match t.store.queue with
        | [] => refusal t .notFound
        | e :: _ => done (t.withChange .start) (num 3 e.id)

/-- BEND and BCUT ask for the active batch to end, with and without a successor (R76, R77). -/
def Obligations.BendAndBcutAskForTheEnd : Prop :=
  (∀ dt h s, Taken dt h s →
    Effects (.bend dt h) dt h 16 s fun t =>
      if t.store.active = none ∨ t.change ≠ .none then refusal t .badState
      else if t.store.held ≠ none then refusal t .storeFull
      else done (t.withChange .ends) []) ∧
  (∀ dt h s, Taken dt h s →
    Effects (.bcut dt h) dt h 17 s fun t =>
      if t.store.active = none ∨ t.change ≠ .none then refusal t .badState
      else
        match t.store.queue with
        | [] => refusal t .notFound
        | e :: _ => if t.store.held ≠ none then refusal t .storeFull else done (t.withChange .cutover) (num 3 e.id))

/-- TREL gives up the oldest ticket, and the held ticket moves in (R90, R91). The layout of the reply's body is the model's
(log entry 26). -/
def Obligations.TrelReleasesTheOldest : Prop :=
  ∀ dt h n s, Taken dt h s →
    Effects (.trel dt h n) dt h 20 s fun t =>
      if 1 ≤ n ∧ n ≤ 999999999999 then
        match t.store.slots with
        | [] => refusal t .notFound
        | x :: rest =>
          if x.number = n then
            let slots := rest ++ t.store.held.toList
            done (t.withStore { t.store with slots := slots, held := none })
              (optional 5 (slots.head?.map fun y => num 5 y.number))
          else if (rest ++ t.store.held.toList).any fun y => decide (y.number = n) then
            { status := .notOldest, body := num 5 x.number, state := t }
          else refusal t .notFound
      else refusal t .badField

/-! ### Requests of proving and curves -/

/-- PREQ queues a request and, with the prover ENABLED and free, its grant follows at once (R100, R101); a grant opens
the record of R102 for the head of the queue. A record opened for a run that is FAILED or CLOSED is aborted at that instant,
with RUN_FAILED or RUN_CLOSED, and the next request is granted; RUN_FAILED where both hold is the model's choice (log entry
8), and so is the layout of the reply's body (log entry 26). -/
def Obligations.PreqQueuesAndIsGranted : Prop :=
  (∀ dt h run rounds attempts limit s, Taken dt h s →
    Effects (.preq dt h run rounds attempts limit) dt h 21 s fun t => onRun run t fun r =>
      if (2 ≤ rounds ∧ rounds ≤ 10) ∧ (rounds ≤ attempts ∧ attempts ≤ 20) ∧ (1 ≤ limit ∧ limit ≤ 50) then
        if (t.store.runs.get r).service = .closed ∨ t.integrity r = .failed then refusal t .badState
        else if provings t r ≠ 0 then refusal t .duplicate
        else
          let q : ProvingRequest :=
            { run := r, rounds := rounds, attempts := attempts, limit := limit, queued := t.clock }
          let u := grant (t.withRequests (t.requests ++ [q]))
          done u (optNat 4 (grantedNumber r t u))
      else refusal t .badField) ∧
  (∀ (q : ProvingRequest) (rest : List ProvingRequest) (t : State),
    t.store.proverEnabled = true → t.store.record = none → t.requests = q :: rest →
    let x : ProvingRecord :=
      { number := t.store.provingCounter, request := q, grade := t.gradeNow, k := (t.runBlock q.run).k,
        vb := t.proverBlock.vb, gamma := t.proverBlock.gamma, g := t.proverBlock.g,
        chain := [pointIndex (t.runBlock q.run).tempPoint, pointIndex (t.runBlock q.run).pressPoint,
          pointIndex t.proverBlock.tempPoint, pointIndex t.proverBlock.pressPoint],
        granted := t.clock, state := .aligning, timerStart := t.counter, cause := none, ended := none, attempts := 0,
        accepted := 0, rounds := [], current := none, result := none, decision := none, decided := none }
    let opened := (t.withRequests rest).withStore { t.store with
      record := some x
      provingCounter := if t.store.provingCounter < 4294967295 then t.store.provingCounter + 1 else 1 }
    let closed : Prop := (t.store.runs.get q.run).service = .closed
    (t.integrity q.run ≠ .failed → ¬closed → grant t = opened) ∧
    (t.integrity q.run = .failed → grant t = grant (filed .aborted .runFailed x opened)) ∧
    (t.integrity q.run ≠ .failed → closed → grant t = grant (filed .aborted .runClosed x opened))) ∧
  (∀ t : State, t.store.proverEnabled = false ∨ t.store.record ≠ none ∨ t.requests = [] → grant t = t)

/-- PCAN, PALN, PENA and PDIS (R98, R103, R116). A record that PCAN aborts drops its round in progress: the model's choice
(log entry 48). -/
def Obligations.ProverRequests : Prop :=
  (∀ dt h run s, Taken dt h s →
    Effects (.pcan dt h run) dt h 22 s fun t => onRun run t fun r =>
      if t.requests.any fun q => decide (q.run = r) then
        done (t.withRequests (t.requests.filter fun q => decide (q.run ≠ r))) []
      else
        match t.store.record with
        | some x =>
          if x.request.run = r then done (grant (filed .aborted .cancelled x t)) []
          else if (t.store.results.get r).isSome then refusal t .badState
          else refusal t .notFound
        | none => if (t.store.results.get r).isSome then refusal t .badState else refusal t .notFound) ∧
  (∀ dt h run s, Taken dt h s →
    Effects (.paln dt h run) dt h 23 s fun t => onRun run t fun r =>
      match t.store.record with
      | some x =>
        if x.request.run = r ∧ x.state = .aligning then
          done (t.withStore { t.store with record := some { x with state := .armed, timerStart := t.counter } }) []
        else refusal t .badState
      | none => refusal t .badState) ∧
  (∀ dt h s, Taken dt h s →
    Effects (.pena dt h) dt h 27 s fun t => done (grant (t.withStore { t.store with proverEnabled := true })) []) ∧
  (∀ dt h s, Taken dt h s →
    Effects (.pdis dt h) dt h 28 s fun t =>
      if t.store.record ≠ none then refusal t .badState
      else done (t.withStore { t.store with proverEnabled := false }) [])

/-- The state with a run's pending result decided and filed in the history (R120, R121). -/
def Sys2Proof.Stated.decided (r : Run) (x : ProvingRecord) (d : Decision) (t : State) : State :=
  t.withStore { t.store with
    results := t.store.results.set r none
    history := entered { x with decision := some d, decided := some t.clock } t.store.history }

/-- PACC offers a pending result to the run's curve and files it ACCEPTED; PREJ files it REJECTED (R120, R121). A pending
record always holds its result (R115); for one that does not, NOT_FOUND is the model's answer (log entry 25). -/
def Obligations.PaccAndPrejDecide : Prop :=
  (∀ dt h run confirm s, Taken dt h s →
    Effects (.pacc dt h run confirm) dt h 25 s fun t => onRun run t fun r =>
      match t.store.results.get r with
      | none => refusal t .notFound
      | some x =>
        match x.result with
        | none => refusal t .notFound
        | some res =>
          if res.deviating = true ∧ confirm = false then refusal t .deviationUnconfirmed
          else if entryFree t then
            let point : CurvePoint :=
              { rate := res.rate, mf := res.mf.toNat, origin := x.number, date := res.time / 86400 * 86400 }
            match place (t.workingCurve r) point with
            | none => refusal t .curveFull
            | some pl =>
              done
                (decided r x .accepted
                  (audited (some r) (.curveChange pl.replaced pl.removed (some point) (t.cumulativeGSV r))
                    (t.withStore { t.store with pendingCurves := t.store.pendingCurves.set r (some pl.curve) })))
                (num 4 x.number)
          else refusal t .auditFull) ∧
  (∀ dt h run s, Taken dt h s →
    Effects (.prej dt h run) dt h 26 s fun t => onRun run t fun r =>
      match t.store.results.get r with
      | none => refusal t .notFound
      | some x => done (decided r x .rejected t) (num 4 x.number))

/-- MFSP offers an entered point to the run's pending curve, which takes it as R132 places it (R135); MFDP deletes the
point of a rate, the rest keeping their order (R136). Broadcasts of either are ignored. The layout of the replies'
bodies is the model's (log entry 26). -/
def Obligations.MfspAndMfdp : Prop :=
  (∀ dt h run rate mf s, Taken dt h s →
    Effects (.mfsp dt h run rate mf) dt h 30 s fun t => onRun run t fun r =>
      if (1 ≤ rate ∧ rate ≤ 999999) ∧ (8000 ≤ mf ∧ mf ≤ 12000) then
        if entryFree t then
          let point : CurvePoint := { rate := rate, mf := mf, origin := 0, date := t.clock / 86400 * 86400 }
          match place (t.workingCurve r) point with
          | none => refusal t .curveFull
          | some pl =>
            done
              (audited (some r) (.curveChange pl.replaced pl.removed (some point) (t.cumulativeGSV r))
                (t.withStore { t.store with pendingCurves := t.store.pendingCurves.set r (some pl.curve) }))
              (num 1 (if pl.replaced = none then 0 else 1) ++ num 1 pl.curve.length)
        else refusal t .auditFull
      else refusal t .badField) ∧
  (∀ dt run rate mf, BroadcastIgnored (fun h => .mfsp dt h run rate mf) dt) ∧
  (∀ dt h run rate s, Taken dt h s →
    Effects (.mfdp dt h run rate) dt h 31 s fun t => onRun run t fun r =>
      match (t.workingCurve r).find? fun p => decide (p.rate = rate) with
      | none => refusal t .notFound
      | some p =>
        if entryFree t then
          let c := (t.workingCurve r).filter fun p => decide (p.rate ≠ rate)
          done
            (audited (some r) (.curveChange (some p) none none (t.cumulativeGSV r))
              (t.withStore { t.store with pendingCurves := t.store.pendingCurves.set r (some c) }))
            (num 1 c.length)
        else refusal t .auditFull) ∧
  (∀ dt run rate, BroadcastIgnored (fun h => .mfdp dt h run rate) dt)

/-! ### Requests of conditions, configuration, audit and power -/

/-- CNDC clears the latch of an inactive record; one that names none clears every inactive record's latch, answers how
many it cleared, and changes nothing else (R146; the number's width is log entry 52). -/
def Obligations.CndcClearsLatches : Prop :=
  (∀ dt h kind scope s, Taken dt h s →
    Effects (.cndc dt h (some (kind, scope))) dt h 33 s fun t =>
      match conditionOf kind scope with
      | none => refusal t .badField
      | some i =>
        if t.active i then refusal t .badState
        else
          done (t.withMonitor { t.monitor with
            table := t.monitor.table.set i { t.monitor.table.get i with latched := false } }) []) ∧
  (∀ dt h s, Taken dt h s → ∃ u,
    Gives (.cndc dt h none) s
      (replied h 33 .ok
        (num 1 (allConditionIds.countP fun i => (s.monitor.table.get i).latched && !(s.monitor.table.get i).active)) u) ∧
    u = (arrived dt s).withMonitor { s.monitor with table := u.monitor.table } ∧
    ∀ i, u.monitor.table.get i =
      if (s.monitor.table.get i).active then s.monitor.table.get i
      else { s.monitor.table.get i with latched := false })

/-- A number field of a staged group: its width, and what its value writes (R159, R198). -/
def Sys2Proof.Stated.numberField {α : Type} (w : Nat) (f : Nat → α) (v : List Byte) : Option α :=
  if v.length = w then some (f (readNat v)) else none

/-- A signed field of four characters. -/
def Sys2Proof.Stated.signedField {α : Type} (f : Int → α) (v : List Byte) : Option α :=
  if v.length = 4 then some (f (readInt v)) else none

/-- An enumeration field of one character. -/
def Sys2Proof.Stated.oneOf {α β : Type} (values : List β) (f : β → α) (v : List Byte) : Option α :=
  match v with
  | [c] => values[c.toNat]?.map f
  | _ => none

/-- What a group writes into a RUN block, field by field (R160). -/
def Sys2Proof.Stated.runFields (x : RunBlock) : List (List Byte → Option RunBlock) :=
  [ numberField 4 fun n => { x with k := n }, numberField 1 fun n => { x with tempPoint := n },
    numberField 1 fun n => { x with pressPoint := n }, numberField 4 fun n => { x with minRate := n },
    numberField 4 fun n => { x with maxRate := n }, numberField 2 fun n => { x with qualTime := n },
    numberField 2 fun n => { x with w := n }, numberField 1 fun n => { x with l := n },
    numberField 1 fun n => { x with m := n }, numberField 2 fun n => { x with noiseLimit := n },
    numberField 2 fun n => { x with reverseLimit := n } ]

/-- The same for the STATION block, its eighteen classes in the order of the conditions table. -/
def Sys2Proof.Stated.stationFields (x : StationBlock) : List (List Byte → Option StationBlock) :=
  [ numberField 2 fun n => { x with periodLength := n }, numberField 1 fun n => { x with waterPoint := n },
    numberField 1 fun n => { x with defaultGrade := n } ] ++
  ((List.finRange 18).map fun k =>
    oneOf [ConditionClass.note, .flag, .trip] fun y => { x with classes := x.classes.set k y }) ++
  [ numberField 2 fun n => { x with holdTime := n }, numberField 2 fun n => { x with filterTime := n } ]

/-- The same for the PROVER block. -/
def Sys2Proof.Stated.proverFields (x : ProverBlock) : List (List Byte → Option ProverBlock) :=
  [ numberField 4 fun n => { x with vb := n }, numberField 4 fun n => { x with gamma := n },
    numberField 4 fun n => { x with g := n }, numberField 1 fun n => { x with tempPoint := n },
    numberField 1 fun n => { x with pressPoint := n }, numberField 2 fun n => { x with debounce := n },
    numberField 2 fun n => { x with alignTimeout := n }, numberField 2 fun n => { x with launchTimeout := n },
    numberField 2 fun n => { x with passTimeout := n }, numberField 2 fun n => { x with stability := n },
    numberField 2 fun n => { x with deviation := n } ]

/-- The ten fields of a point setup (R23); the form of a check partner is log entry 21. -/
def Sys2Proof.Stated.setupFields (u : PointSetup) : List (List Byte → Option PointSetup) :=
  [ oneOf [PointKind.temperature, .pressure, .water] fun y => { u with kind := y },
    numberField 1 fun n => { u with input := n }, signedField fun n => { u with spanLow := n },
    signedField fun n => { u with spanHigh := n }, signedField fun n => { u with validLow := n },
    signedField fun n => { u with validHigh := n }, numberField 2 fun n => { u with integration := n },
    numberField 2 fun n => { u with stale := n },
    (fun v => match v with
      | [p, n] =>
        if p = 1 then some { u with partner := some n.toNat }
        else if p = 0 ∧ n = 0 then some { u with partner := none } else none
      | _ => none),
    signedField fun n => { u with deviation := n } ]

/-- The POINTS block: the sixteen setups, then the scan list with its count of at most 16. -/
def Sys2Proof.Stated.pointsFields (x : PointsBlock) : List (List Byte → Option PointsBlock) :=
  ((List.finRange 16).map fun k =>
    (setupFields x.setups[k]).map fun f v => (f v).map fun u => { x with setups := x.setups.set k u }).flatten ++
  [ fun v => match v with
      | n :: rest =>
        if n.toNat ≤ 16 ∧ rest.length = n.toNat then some { x with scanList := rest.map (·.toNat) } else none
      | [] => none ]

/-- The effect of a CSTG on one block (R159): every group written in turn into the copy, or nothing at all. -/
def Sys2Proof.Stated.stagedInto {α : Type} (fields : α → List (List Byte → Option α)) (copy : α) (put : α → State)
    (groups : List FieldGroup) (t : State) : Effect :=
  match groups.foldlM (fun x g => (fields x)[g.index]?.bind fun f => f g.value) copy with
  | some x => done (put x) []
  | none => refusal t .badField

/-- CSTG (R159): the staged copy, created from the current copy where there is none, takes the groups. A field given twice
takes the later value (log entry 51). -/
def Sys2Proof.Stated.stages (block : Nat) (groups : List FieldGroup) (t : State) : Effect :=
  match blockOf block with
  | some .station => stagedInto stationFields (t.work.stagedStation.getD t.stationBlock)
      (fun x => t.withWork { t.work with stagedStation := some x }) groups t
  | some .prover => stagedInto proverFields (t.work.stagedProver.getD t.proverBlock)
      (fun x => t.withWork { t.work with stagedProver := some x }) groups t
  | some .points => stagedInto pointsFields (t.work.stagedPoints.getD t.pointsBlock)
      (fun x => t.withWork { t.work with stagedPoints := some x }) groups t
  | some (.run r) => stagedInto runFields ((t.work.stagedRuns.get r).getD (t.runBlock r))
      (fun x => t.withWork { t.work with stagedRuns := t.work.stagedRuns.set r (some x) }) groups t
  | some .grades => refusal t .badField
  | none => refusal t .badField

/-- An inclusive range. -/
def Sys2Proof.Stated.within (low high x : Int) : Bool := decide (low ≤ x ∧ x ≤ high)

/-- A point that will be in force with a kind: that of the pending POINTS copy where there is one (R160). -/
def Sys2Proof.Stated.namesKind (t : State) (n : Nat) (k : PointKind) : Bool :=
  ((t.store.points.pending.getD t.pointsBlock).setups[n]?).any fun u => decide (u.kind = k)

/-- The conditions on a RUN block, one for each field (R160). -/
def Sys2Proof.Stated.runHolds (t : State) (x : RunBlock) : List Bool :=
  [ within 1000 99999999 x.k, namesKind t x.tempPoint .temperature, namesKind t x.pressPoint .pressure,
    within 1 999999 x.minRate && decide (x.minRate < x.maxRate), within 1 999999 x.maxRate, within 1 100 x.qualTime,
    within 100 10000 x.w, within 0 50 x.l, within 1 15 x.m, within 0 1000 x.noiseLimit, within 0 1000 x.reverseLimit ]

/-- The conditions on the STATION block: every class is free but that of EXTERNAL_TRIP, which may not be TRIP. -/
def Sys2Proof.Stated.stationHolds (t : State) (x : StationBlock) : List Bool :=
  [ within 200 2000 x.periodLength && decide (x.periodLength % 100 = 0), namesKind t x.waterPoint .water,
    (t.gradeEntry x.defaultGrade).isSome ] ++
  ((List.finRange 18).map fun k => decide (k.val = 14 → x.classes[k] ≠ .trip)) ++
  [ within 1 60 x.holdTime, within 20 2000 x.filterTime && decide (x.filterTime % 10 = 0) ]

/-- The conditions on the PROVER block. -/
def Sys2Proof.Stated.proverHolds (t : State) (x : ProverBlock) : List Bool :=
  [ within 1000 100000 x.vb, within 100 500 x.gamma, within 1 100 x.g, namesKind t x.tempPoint .temperature,
    namesKind t x.pressPoint .pressure, within 1 50 x.debounce, within 60 3600 x.alignTimeout,
    within 30 1800 x.launchTimeout, within 10 600 x.passTimeout, within 5 100 x.stability, within 5 100 x.deviation ]

/-- Whether every block that names point n, as it will be in force, needs it of this kind (R160). -/
def Sys2Proof.Stated.wanted (t : State) (n : Nat) (k : PointKind) : Bool :=
  let prover := t.store.prover.pending.getD t.proverBlock
  (allRuns.all fun r =>
    let b := (t.store.runBlocks.get r).pending.getD (t.runBlock r)
    decide ((b.tempPoint = n → k = .temperature) ∧ (b.pressPoint = n → k = .pressure))) &&
  decide ((prover.tempPoint = n → k = .temperature) ∧ (prover.pressPoint = n → k = .pressure) ∧
    ((t.store.station.pending.getD t.stationBlock).waterPoint = n → k = .water))

/-- The ten conditions on the setup of point n in a POINTS block (R23, R160): the ranges by its kind, the span and the valid
range rising, the integration time one of four, and a check partner of the same kind and deviation limit that names it
back. -/
def Sys2Proof.Stated.setupHolds (t : State) (x : PointsBlock) (n : Fin 16) : List Bool :=
  let u := x.setups[n]
  let low : Int := match u.kind with
    | .temperature => -10000
    | .pressure => -1000
    | .water => 0
  let high : Int := match u.kind with
    | .temperature => 20000
    | .pressure => 200000
    | .water => 10000
  let apart : Int := match u.kind with
    | .temperature => 1000
    | .pressure => 10000
    | .water => 1000
  [ wanted t n u.kind, within 0 15 u.input, within low high u.spanLow && decide (u.spanLow < u.spanHigh),
    within low high u.spanHigh, within low high u.validLow && decide (u.validLow < u.validHigh),
    within low high u.validHigh, decide (u.integration ∈ [10, 20, 40, 80]), within 1 60 u.stale,
    (match u.partner with
      | none => true
      | some p => decide (p ≠ n.val) && (x.setups[p]?).any fun q =>
          decide (q.kind = u.kind ∧ q.partner = some n.val ∧ q.deviation = u.deviation)),
    within 1 apart u.deviation ]

/-- The conditions on the POINTS block: those of its setups, and at most 16 points in the scan list, none twice. -/
def Sys2Proof.Stated.pointsHold (t : State) (x : PointsBlock) : List Bool :=
  ((List.finRange 16).map (setupHolds t x)).flatten ++
  [ decide (x.scanList.length ≤ 16 ∧ (∀ p ∈ x.scanList, p < 16) ∧ x.scanList.Nodup) ]

/-- The effect of a CCOM on one block (R160, R161): refused without a staged copy; refused with the first field whose
condition fails, in field order (the body is log entry 23, the field named of two that must agree log entry 32); else the
staged copy becomes the pending copy too, its code is answered, and the audit entry is made. -/
def Sys2Proof.Stated.committed {α : Type} (copy : Option α) (holds : α → List Bool) (encoded : α → List Byte)
    (put : α → State) (block : Nat) (b : BlockId) (scope : Option Run) (old : Code) (t : State) : Effect :=
  match copy with
  | none => refusal t .badState
  | some x =>
    match (holds x).findIdx? fun h => !h with
    | some i => { status := .configInvalid, body := num 1 block ++ num 2 i, state := t }
    | none =>
      let c := checkCode (encoded x)
      if entryFree t then
        done (audited scope (.configCommit b old c (scope.map t.cumulativeGSV)) (put x)) (bigEndian 4 c.toNat)
      else refusal t .auditFull

/-- CCOM (R161). -/
def Sys2Proof.Stated.commits (block : Nat) (t : State) : Effect :=
  match blockOf block with
  | some .station => committed t.work.stagedStation (stationHolds t) encodeStationBlock
      (fun x => t.withStore { t.store with station := { t.store.station with pending := some x } }) block .station none
      t.store.station.code t
  | some .prover => committed t.work.stagedProver (proverHolds t) encodeProverBlock
      (fun x => t.withStore { t.store with prover := { t.store.prover with pending := some x } }) block .prover none
      t.store.prover.code t
  | some .points => committed t.work.stagedPoints (pointsHold t) encodePointsBlock
      (fun x => t.withStore { t.store with points := { t.store.points with pending := some x } }) block .points none
      t.store.points.code t
  | some (.run r) => committed (t.work.stagedRuns.get r) (runHolds t) encodeRunBlock
      (fun x => t.withStore { t.store with
        runBlocks := t.store.runBlocks.set r { t.store.runBlocks.get r with pending := some x } }) block (.run r)
      (some r) (t.store.runBlocks.get r).code t
  | some .grades => refusal t .badField
  | none => refusal t .badField

/-- KTST (R166): the stored check code of the block becomes its contents' code with every bit inverted. -/
def Sys2Proof.Stated.spoils (block : Nat) (t : State) : Effect :=
  match blockOf block with
  | some .station => done (t.withStore { t.store with
      station := { t.store.station with code := ~~~ checkCode (encodeStationBlock t.stationBlock) } }) []
  | some .prover => done (t.withStore { t.store with
      prover := { t.store.prover with code := ~~~ checkCode (encodeProverBlock t.proverBlock) } }) []
  | some .points => done (t.withStore { t.store with
      points := { t.store.points with code := ~~~ checkCode (encodePointsBlock t.pointsBlock) } }) []
  | some .grades => done (t.withStore { t.store with gradesCode := ~~~ gradesContentsCode t.store.grades }) []
  | some (.run r) => done (t.withStore { t.store with
      runBlocks := t.store.runBlocks.set r
        { t.store.runBlocks.get r with code := ~~~ checkCode (encodeRunBlock (t.runBlock r)) } }) []
  | none => refusal t .badField

/-- CSTG stages fields whole or not at all; CCOM judges a staged copy field by field against the copies that will be in
force and makes it the pending copy, with its audit entry; KTST spoils a stored check code so that verification finds it
(R159 to R161, R166, R198). The form of a check partner is log entry 21, the body of CONFIG_INVALID, the block and the
field, log entry 23, the field named of two that must agree log entry 32, and the value that stands of a field given twice
log entry 51. -/
def Obligations.ConfigurationRequests : Prop :=
  (∀ dt h block groups s, Taken dt h s → Effects (.cstg dt h block groups) dt h 34 s (stages block groups)) ∧
  (∀ dt h block s, Taken dt h s → Effects (.ccom dt h block) dt h 35 s (commits block)) ∧
  (∀ dt h block s, Taken dt h s → Effects (.ktst dt h block) dt h 37 s (spoils block)) ∧
  (∀ block b t, blockOf block = some b → (spoils block t).state.mismatch b = true)

/-- ATAK takes the entries down up to and including the named one (R171). The layout of the reply's body is the model's
(log entry 26). -/
def Obligations.AtakTakesEntriesDown : Prop :=
  (∀ dt h n s, Taken dt h s →
    Effects (.atak dt h n) dt h 39 s fun t =>
      match t.store.audit.findIdx? fun e => decide (e.seq.toNat = n) with
      | none => refusal t .notFound
      | some k =>
        let left := t.store.audit.drop (k + 1)
        done (t.withStore { t.store with audit := left })
          (num 1 (k + 1) ++ optional 4 (left.head?.map fun e => bigEndian 4 e.seq.toNat))) ∧
  (∀ dt n, BroadcastIgnored (fun h => .atak dt h n) dt)

/-- RSTR is answered OK with a restart owed at the reply's end; RACK makes its audit entry and deactivates
RETENTION_LOST (R187, R196). -/
def Obligations.RestartAndAcknowledgement : Prop :=
  (∀ dt h s, Taken dt h s →
    Gives (.rstr dt h) s ((arrived dt s).withLink { (arrived dt s).link with
      reply := .queued
        { station := s.link.station + 128, type := 41, tag := h.tag, status := .ok, body := [], restart := true,
          formed := (later dt s).counter } })) ∧
  (∀ dt h s, Taken dt h s →
    Effects (.rack dt h) dt h 42 s fun t =>
      if t.active (.station .retentionLost) then
        done
          (judge (.station .retentionLost) false
            (audited none (.retentionAck (t.clock - t.supply.seconds) t.supply.seconds t.clock) t))
          (bigEndian 4 t.store.auditCounter.toNat)
      else refusal t .badState)

/-! ### Pulses and detectors -/

/-- The edges of the field lines. A rising edge of a channel starts a qualification; a fall ends one as noise (R1). An
activation starts an IDLE detector's debounce and nothing else; a release ends it; the end of the dead time makes the
detector IDLE (R17, R18). In every other case, and while the part is not RUNNING (R5), the level alone changes; an edge
on a line already at that level is none (log entry 39), an expiry of a dead time that does not run is no event (log entry
4), and none comes while the part is not RUNNING (log entries 17 and 58). -/
def Obligations.LineEdges : Prop :=
  (∀ (dt : Nat) (r : Run) (c : Channel) (s : State),
    let x := (s.runPulse r).channel c
    let high := later dt (s.withLines (s.lines.setChannel r c true))
    let low := later dt (s.withLines (s.lines.setChannel r c false))
    (s.running = true → s.lines.channel r c = false →
      Gives (.meterChannelRisingEdge dt r c) s
        (high.setRunPulse r ((s.runPulse r).setChannel c { x with qualifying := some (s.runBlock r).qualTime }))) ∧
    (s.running = true → s.lines.channel r c = true → Gives (.meterChannelRisingEdge dt r c) s (later dt s)) ∧
    (s.running = false →
      Gives (.meterChannelRisingEdge dt r c) s (s.withLines (s.lines.setChannel r c true)) ∧
      Gives (.meterChannelFall dt r c) s (s.withLines (s.lines.setChannel r c false))) ∧
    (s.running = true → x.qualifying ≠ none →
      Gives (.meterChannelFall dt r c) s
        (low.setRunPulse r ((s.runPulse r).setChannel c
          { x with qualifying := none, noise := if x.noise < 65535 then x.noise + 1 else x.noise }))) ∧
    (s.running = true → x.qualifying = none → Gives (.meterChannelFall dt r c) s low)) ∧
  (∀ (dt : Nat) (d : Detector) (s : State),
    let x := s.pulse.detector d
    let active := later dt (s.withLines (s.lines.setDetector d true))
    let inactive := later dt (s.withLines (s.lines.setDetector d false))
    (s.running = true → s.lines.detector d = false → x.phase = .idle →
      Gives (.detectorActivation dt d) s
        (active.setDetector d { x with phase := .qualifying, debounce := s.proverBlock.debounce })) ∧
    (s.running = true → s.lines.detector d = false → x.phase ≠ .idle → Gives (.detectorActivation dt d) s active) ∧
    (s.running = true → s.lines.detector d = true → Gives (.detectorActivation dt d) s (later dt s)) ∧
    (s.running = true → x.phase = .qualifying →
      Gives (.detectorRelease dt d) s (inactive.setDetector d { x with phase := .idle })) ∧
    (s.running = true → x.phase ≠ .qualifying → Gives (.detectorRelease dt d) s inactive) ∧
    (s.running = true → x.phase = .dead →
      Gives (.deadTimeExpiry dt d) s ((later dt s).setDetector d { x with phase := .idle })) ∧
    (s.running = true → x.phase ≠ .dead → Gives (.deadTimeExpiry dt d) s (later dt s)) ∧
    (s.running = false →
      Gives (.detectorActivation dt d) s (s.withLines (s.lines.setDetector d true)) ∧
      Gives (.detectorRelease dt d) s (s.withLines (s.lines.setDetector d false)) ∧
      Gives (.deadTimeExpiry dt d) s s))

/-- The direction of a pulse accepted on a channel (R2, R13). -/
def Sys2Proof.Stated.forward (s : State) (r : Run) (c : Channel) : Prop :=
  ((s.runPulse r).channel (otherChannel c)).lost = true ∨
  match c with
  | .a => s.lines.channel r .b = false
  | .b => s.lines.channel r .a = true

/-- A channel that has accepted a pulse, forward or reverse (R2). -/
def Sys2Proof.Stated.counted (dir : Bool) (x : PulseChannel) : PulseChannel :=
  { x with qualifying := none, window := x.window + 1, forward := x.forward + if dir then 1 else 0,
           reverse := x.reverse + if dir then 0 else 1 }

/-! The proving record, as the statements about pulses, activations and chains say it. -/

/-- The pass in progress of a round: the second once begun, else the first. -/
def Sys2Proof.Stated.inProgress (c : RoundState) : PassState := c.second.getD c.first

/-- A round with its pass in progress replaced. -/
def Sys2Proof.Stated.withPass (c : RoundState) (p : PassState) : RoundState :=
  if c.second.isSome then { c with second := some p } else { c with first := p }

/-- The record holding the prover replaced. -/
def Sys2Proof.Stated.recorded (x : ProvingRecord) (t : State) : State :=
  t.withStore { t.store with record := some x }

/-- Where the record left the prover since s, the next request is granted (R101). -/
def Sys2Proof.Stated.leaving (s t : State) : State :=
  if s.store.record.isSome ∧ t.store.record = none then grant t else t

/-- t differs from s in the proving alone. -/
def Sys2Proof.Stated.OnlyProving (s t : State) : Prop :=
  t = (s.withRequests t.requests).withStore { s.store with
    record := t.store.record, results := t.store.results, history := t.store.history,
    provingCounter := t.store.provingCounter }

/-- The figures of a pass (R109), K and Ni in thousandths and the rate in tenths; a quotient by zero is free (log
entry 12). -/
def Sys2Proof.Stated.PassFigured (k n : Nat) (d0 p0 d1 p1 : Stamp) (f : PassFigures) : Prop :=
  f.n = n ∧ f.dd = (d1 - d0).toNat ∧ f.dp = (p1 - p0).toNat ∧
  (f.dp ≠ 0 → (f.ni : Int) = roundTo 3 ((n : Rat) * (f.dd : Rat) / (f.dp : Rat))) ∧
  (f.dd ≠ 0 → k ≠ 0 → (f.rate : Int) = roundTo 1 ((f.ni : Rat) / (k : Rat) / ((f.dd : Rat) / 10000000) * 3600))

/-- The mean of two values, rounded to a step of thousandths. -/
def Sys2Proof.Stated.meanOf (step : Nat) (a b : Int) : Int := roundMilli step (((a : Rat) + (b : Rat)) / 2)

/-- The conditions of a pass (R109): meter temperature and pressure, prover temperature and pressure, each the mean of the
values of the pass's two sets; none unless both sets hold all four. -/
def Sys2Proof.Stated.passMeans (p : PassState) : Option (List Int) :=
  match p.startAnswer, p.endAnswer with
  | some (.set x), some (.set y) =>
    (List.range 4).mapM fun j =>
      (x[j]?.bind (·.reading)).bind fun a => (y[j]?.bind (·.reading)).map fun b =>
        meanOf (if j % 2 = 0 then 10 else 1) a.value b.value
  | _, _ => none

/-- The figures of a round (R110) from the conditions of its passes; Vb, Ni and K in thousandths, the coefficients in units
of 10⁻⁷, the factors in 0.00001. A quotient by zero is free (log entry 12). -/
def Sys2Proof.Stated.RoundFigured (alpha f vb gamma g k nr : Nat) (m1 m2 : List Int) (x : RoundFigures) : Prop :=
  let unit : Nat → Rat := fun c => (c : Rat) / 10000000
  let value : Int → Rat := fun v => (v : Rat) / 1000
  let factor : Int → Rat := fun v => (v : Rat) / 100000
  let vp : Rat := 2 * ((vb : Rat) / 1000) * factor x.cts * factor x.cps * factor x.ctlp * factor x.cplp
  let vm : Rat := (nr : Rat) / (k : Rat) * factor x.ctlm * factor x.cplm
  x.tm = meanOf 10 (m1.getD 0 0) (m2.getD 0 0) ∧ x.pm = meanOf 1 (m1.getD 1 0) (m2.getD 1 0) ∧
  x.tp = meanOf 10 (m1.getD 2 0) (m2.getD 2 0) ∧ x.pp = meanOf 1 (m1.getD 3 0) (m2.getD 3 0) ∧
  x.cts = roundTo 5 (1 + unit gamma * (value x.tp - 15)) ∧ x.cps = roundTo 5 (1 + unit g * value x.pp) ∧
  x.ctlp = roundTo 5 (1 - unit alpha * (value x.tp - 15)) ∧ x.ctlm = roundTo 5 (1 - unit alpha * (value x.tm - 15)) ∧
  (1 - unit f * value x.pp ≠ 0 → x.cplp = roundTo 5 (1 / (1 - unit f * value x.pp))) ∧
  (1 - unit f * value x.pm ≠ 0 → x.cplm = roundTo 5 (1 / (1 - unit f * value x.pm))) ∧
  (k ≠ 0 → vm ≠ 0 → x.mf = roundTo 5 (vp / vm))

/-- The entry of a completed round in the round list (R110, R113). -/
def Sys2Proof.Stated.RoundEntered (rec : ProvingRecord) (c : RoundState) (p2 : PassState) (f1 f2 : PassFigures) (t : State)
    (e : RoundEntry) : Prop :=
  let m1 := passMeans c.first
  let m2 := passMeans p2
  let invalid := c.marks.readingInvalid = true ∨ m1 = none ∨ m2 = none
  e.number = c.number ∧ e.start = c.first.start ∧ e.first = f1 ∧ e.second = f2 ∧
  (e.rate : Int) = roundHalf (((f1.rate : Rat) + (f2.rate : Rat)) / 2) ∧
  e.discarded =
    (if invalid then some .readingInvalid
     else if c.marks.flowUnstable then some .flowUnstable
     else if c.marks.runDegraded then some .runDegraded else none) ∧
  (invalid → e.figures = none) ∧
  (¬invalid → ∀ x ∈ m1, ∀ y ∈ m2, ∃ g, e.figures = some g ∧
    RoundFigured (t.coefficients rec.grade).1 (t.coefficients rec.grade).2.1 rec.vb rec.gamma rec.g rec.k
      (f1.ni + f2.ni) x y g)

/-- What the controller decides of a record whose round list has just grown (R114, R115): the latest R accepted rounds form
a result where there are as many and their spread is within the limit; the result FAILS with MF_RANGE outside 0.8000 to
1.2000, and else the record is COMPLETE, DEVIATING or not against the current curve; with no result the record FAILS with
REPEATABILITY after the last attempt, and else is ARMED again. The spread over a least factor of zero is free. -/
def Sys2Proof.Stated.Decides (x : ProvingRecord) (t u : State) : Prop :=
  let good := x.rounds.filter fun e => e.discarded.isNone
  let es := good.drop (good.length - x.request.rounds)
  let mfs := es.map fun e => (e.figures.map (·.mf)).getD 0
  ∃ spread : Rat,
    (∀ lo ∈ mfs.min?, ∀ hi ∈ mfs.max?, lo ≠ 0 → spread = ((hi - lo : Int) : Rat) / (lo : Rat)) ∧
    if x.request.rounds ≤ x.accepted ∧ spread ≤ (x.request.limit : Rat) / 10000 then
      ∃ res : ProvingResult, res.spread = spread ∧ res.rounds = es.map (·.number) ∧ res.time = t.clock ∧
        res.mf = roundHalf ((mfs.sum : Rat) / (es.length : Rat) / 10) ∧
        (res.rate : Int) = roundHalf (((es.map (·.rate)).sum : Rat) / (es.length : Rat)) ∧
        if res.mf < 8000 ∨ 12000 < res.mf then
          res.curveValue = none ∧ res.deviating = false ∧
            u = filed .failed .mfRange { x with result := some res } t
        else
          res.curveValue = some (lookup (t.store.curves.get x.request.run) res.rate) ∧
          (res.deviating = true ↔ t.proverBlock.deviation <
            (res.mf - (lookup (t.store.curves.get x.request.run) res.rate : Int)).natAbs) ∧
          u = t.withStore { t.store with
            record := none
            results := t.store.results.set x.request.run
              (some { x with result := some res, state := .complete, ended := some t.clock, current := none }) }
    else if x.request.attempts ≤ x.attempts then u = filed .failed .repeatability x t
    else u = recorded { x with state := .armed, timerStart := t.counter, current := none } t

/-- A record goes on with the round c in progress (R106): the round completes where its second pass has its figures and all
four chains are answered, and else the record takes it. -/
def Sys2Proof.Stated.GoesOn (rec : ProvingRecord) (c : RoundState) (t u : State) : Prop :=
  match c.second, c.first.figures, c.second.bind (·.figures) with
  | some p2, some f1, some f2 =>
    if rec.state = .tail ∧ c.first.startAnswer.isSome ∧ c.first.endAnswer.isSome ∧ p2.startAnswer.isSome ∧
        p2.endAnswer.isSome then
      ∃ e, RoundEntered rec c p2 f1 f2 t e ∧
        Decides { rec with
          rounds := rec.rounds ++ [e], attempts := rec.attempts + 1,
          accepted := if e.discarded.isNone then rec.accepted + 1 else rec.accepted, current := none } t u
    else u = recorded { rec with current := some c } t
  | _, _, _ => u = recorded { rec with current := some c } t

/-- The answer to a chain reaches the controller (R108): it is disregarded unless its tag names the round in progress of the
record holding the prover, and else is kept with its activation; a lost chain and a set with a point that is not GOOD
mark the round READING_INVALID. -/
def Sys2Proof.Stated.Answered (tag : ChainTag) (a : ChainAnswer) (t u : State) : Prop :=
  match t.store.record with
  | none => u = t
  | some rec =>
    match rec.current with
    | none => u = t
    | some c =>
      if tag.record = rec.number ∧ tag.round = c.number then
        let bad : Bool := match a with
          | .lost => true
          | .set es => es.any fun e => decide (e.status ≠ .good)
        let put : PassState → PassState := fun p =>
          if tag.ends then { p with endAnswer := some a } else { p with startAnswer := some a }
        let marks := { c.marks with readingInvalid := c.marks.readingInvalid || bad }
        GoesOn rec
          (if tag.pass = 1 then { c with first := put c.first, marks := marks }
           else { c with second := c.second.map put, marks := marks }) t u
      else u = t

/-- A pulse accepted on channel c of run r, forward or not, reaches the controller from state t (R19, R105, R106): in PASS a
forward pulse of the record's run on its counting channel gives t_p0 or counts one more; in TAIL it is the tail pulse,
which gives t_p1 and the figures, and turns a first pass to TURN; every other pulse is disregarded. -/
def Sys2Proof.Stated.Delivered (r : Run) (c : Channel) (dir : Bool) (t u : State) : Prop :=
  match t.store.record with
  | none => u = t
  | some rec =>
    if rec.request.run = r ∧ (t.runPulse r).counting = c ∧ dir = true then
      match rec.state, rec.current with
      | .pass, some cur =>
        let p := inProgress cur
        let p' := if p.p0 = none then { p with p0 := some t.counter, count := 0 } else { p with count := p.count + 1 }
        u = recorded { rec with current := some (withPass cur p') } t
      | .tail, some cur =>
        let p := inProgress cur
        match p.d0, p.p0, p.d1, p.p1 with
        | some d0, some p0, some d1, none =>
          ∃ f, PassFigured rec.k (p.count + 1) d0 p0 d1 t.counter f ∧
            let cur' := withPass cur { p with p1 := some t.counter, count := p.count + 1, figures := some f }
            if cur.second = none then u = recorded { rec with state := .turn, timerStart := t.counter, current := some cur' } t
            else GoesOn rec cur' t u
        | _, _, _, _ => u = t
      | _, _ => u = t
    else u = t

/-- At the expiry of a qualification time on a channel still high, the edge is accepted: one more in the channel's
forward or reverse period count and in its window (R1, R2, R13), and on the run's counting channel the pulse is delivered
to the proving (R19, R105, R106), where it may complete a round and form a result (R109, R110, R113 to R115). While the
window stays open nothing else changes. A part that is not RUNNING accepts no pulse (R5). An expiry with no qualification in
progress is no event (log entry 4), and a quotient by zero is a free value (log entry 12). -/
def Obligations.AcceptedPulseIsCounted : Prop :=
  ∀ (dt : Nat) (r : Run) (c : Channel) (fault dir : Bool) (s : State),
    (s.running = false → Gives (.qualificationTimeExpiry dt r c fault) s s) ∧
    (s.running = true →
      let p := s.runPulse r
      let x := p.channel c
      let taken := (later dt s).setRunPulse r (p.setChannel c (counted dir x))
      (x.qualifying ≠ none → s.lines.channel r c = true → (dir = true ↔ forward s r c) →
        x.window + 1 < p.w → (p.channel (otherChannel c)).window < p.w →
        ∃ u, Delivered r c dir taken u ∧ Gives (.qualificationTimeExpiry dt r c fault) s (leaving s u) ∧
          OnlyProving taken (leaving s u)) ∧
      (x.qualifying = none ∨ s.lines.channel r c = false →
        Gives (.qualificationTimeExpiry dt r c fault) s (later dt s)))

/-- One more on a tally that stops at 15 (R8). -/
def Sys2Proof.Stated.up (n : Nat) : Nat := if n < 15 then n + 1 else n

/-- The pulse that brings a window to W is counted and delivered as any pulse (R2, R3, R19), and closes the window: the
tallies by its kind (R7, R8), losses by silence (R9), restoration and mismatch (R10), noise (R11), the test result (R15),
and a fresh window under the RUN block in force (R6). The other runs' pulse states and the detectors are unchanged; where
no condition changes, nothing but pulse states and proving does. The comparator's fault is an operand (log entry 29), the
delivery before the close is log entry 7, the order of the judgements log entry 45, and a quotient by zero a free value
(log entry 12). -/
def Obligations.WindowClose : Prop :=
  ∀ (dt : Nat) (r : Run) (c : Channel) (fault dir : Bool) (s : State), s.running = true →
    let p := s.runPulse r
    let b := s.runBlock r
    let taken := (later dt s).setRunPulse r (p.setChannel c (counted dir (p.channel c)))
    let wa := p.a.window + if c = .a then 1 else 0
    let wb := p.b.window + if c = .b then 1 else 0
    let d := if wa ≤ wb then wb - wa else wa - wb
    (p.channel c).qualifying ≠ none → s.lines.channel r c = true → (dir = true ↔ forward s r c) → p.w ≤ max wa wb →
    ∃ t q u, Gives (.qualificationTimeExpiry dt r c fault) s t ∧ t.runPulse r = q ∧
      Delivered r c dir taken u ∧ Beside (u.withPulse t.pulse) t ∧
      (∀ r', r' ≠ r → t.runPulse r' = s.runPulse r') ∧ t.pulse.d1 = s.pulse.d1 ∧ t.pulse.d2 = s.pulse.d2 ∧
      (1 ≤ b.m → (∀ i, t.active i = s.active i) → t = leaving s (u.withPulse t.pulse)) ∧
      (∀ k, (q.channel k).forward = ((taken.runPulse r).channel k).forward ∧
        (q.channel k).reverse = ((taken.runPulse r).channel k).reverse ∧
        (q.channel k).qualifying = ((taken.runPulse r).channel k).qualifying) ∧
      (q.a.window = 0 ∧ q.b.window = 0 ∧ q.a.noise = 0 ∧ q.b.noise = 0 ∧ q.testMark = false ∧
        q.w = b.w ∧ q.l = b.l ∧ q.noiseLimit = b.noiseLimit ∧ q.counting = p.counting) ∧
      (q.a.silence, q.b.silence, q.mismatch, q.matched) =
        (if wa = 0 then (up p.a.silence, 0, 0, 0)
         else if wb = 0 then (0, up p.b.silence, 0, 0)
         else if p.l < d then (0, 0, up p.mismatch, 0)
         else (0, 0, 0, up p.matched)) ∧
      (wa ≠ 0 ∧ wb ≠ 0 ∧ d ≤ p.l ∧ b.m ≤ q.matched →
        q.a.lost = false ∧ q.b.lost = false ∧ t.active (.run .pulseMismatch r) = false) ∧
      (¬(wa ≠ 0 ∧ wb ≠ 0 ∧ d ≤ p.l ∧ b.m ≤ q.matched) →
        (q.a.lost = true ↔ p.a.lost = true ∨ b.m ≤ q.a.silence) ∧
        (q.b.lost = true ↔ p.b.lost = true ∨ b.m ≤ q.b.silence)) ∧
      (1 ≤ b.m →
        (t.active (.run .channelALost r) =
          if q.a.lost = p.a.lost then s.active (.run .channelALost r) else q.a.lost) ∧
        (t.active (.run .channelBLost r) =
          if q.b.lost = p.b.lost then s.active (.run .channelBLost r) else q.b.lost)) ∧
      (wa ≠ 0 ∧ wb ≠ 0 ∧ p.l < d ∧ b.m ≤ q.mismatch → t.active (.run .pulseMismatch r) = true) ∧
      (¬(wa ≠ 0 ∧ wb ≠ 0 ∧ p.l < d ∧ b.m ≤ q.mismatch) → ¬(wa ≠ 0 ∧ wb ≠ 0 ∧ d ≤ p.l ∧ b.m ≤ q.matched) →
        t.active (.run .pulseMismatch r) = s.active (.run .pulseMismatch r)) ∧
      (t.active (.run .pulseNoise r) = true ↔ p.noiseLimit < p.a.noise ∨ p.noiseLimit < p.b.noise) ∧
      (p.testMark = true →
        q.lastTest = (if fault then .fail else .pass) ∧ q.lastTestTime = some s.clock ∧
        t.active (.run .comparatorFault r) = fault) ∧
      (p.testMark = false → q.lastTest = p.lastTest ∧ q.lastTestTime = p.lastTestTime ∧
        t.active (.run .comparatorFault r) = s.active (.run .comparatorFault r))

/-- The scanner after a chain request (R31, R32): with both slots empty the chain takes the converter at once; with one
occupied it waits; with both it is refused and counted. -/
def Sys2Proof.Stated.asked (tag : ChainTag) (points : List (Fin 16)) (t : State) : Scanner :=
  let ch : Chain := { tag := tag, points := points, left := points }
  if t.scanner.active = none then
    { t.scanner with
      active := some ch
      converter := points.head?.map fun p =>
        { point := p, injected := true, setup := t.setup p, started := t.counter, moves := true } }
  else if t.scanner.waiting = none then { t.scanner with waiting := some ch }
  else
    { t.scanner with refused := if t.scanner.refused < 65535 then t.scanner.refused + 1 else t.scanner.refused }

/-- Whether the scanner refuses a chain as reading lost. -/
def Sys2Proof.Stated.loses (t : State) : Bool := t.scanner.active.isSome && t.scanner.waiting.isSome

/-- A pass begun by an activation; a chain the scanner refuses answers it at once. -/
def Sys2Proof.Stated.begun (d : Detector) (rec : ProvingRecord) (t : State) : PassState :=
  { start := d, startRate := (t.totalizer.last.get rec.request.run).map (·.q), d0 := some t.counter, p0 := none,
    d1 := none, p1 := none, count := 0, figures := none,
    startAnswer := if loses t then some .lost else none, endAnswer := none }

/-- At the expiry of the debounce time the activation is accepted, stamped with the timing counter, and the detector is
DEAD (R16, R17). Delivered to the prover controller (R19), it begins a round of an ARMED record (R104), ends the sweep of
a PASS (R105), begins the second pass of a TURN (R107), each with a chain requested of the scanner (R31, R32, R108), or
aborts the record with SEQUENCE (R105 to R107), which drops its round in progress (log entry 48); an ALIGNING record and
a free prover disregard it (R103). A part that is not RUNNING accepts none (R5). An expiry with no debounce running is no
event (log entry 4). -/
def Obligations.AcceptedActivation : Prop :=
  ∀ (dt : Nat) (d : Detector) (s : State),
    (s.running = false → Gives (.debounceExpiry dt d) s s) ∧
    (s.running = true → ProverInv s →
      let x := s.pulse.detector d
      let u := (later dt s).setDetector d { x with phase := .dead, last := some (s.counter + BitVec.ofNat 48 dt) }
      let i : Instr := .debounceExpiry dt d
      (x.phase ≠ .qualifying → Gives i s (later dt s)) ∧
      (x.phase = .qualifying → s.store.record = none → Gives i s u) ∧
      (x.phase = .qualifying → ∀ rec, s.store.record = some rec →
        let asking : Nat → Nat → Bool → State := fun round pass ends =>
          u.withScanner (asked { record := rec.number, round := round, pass := pass, ends := ends } rec.chain u)
        (rec.state = .aligning → Gives i s u) ∧
        (rec.state = .armed → Gives i s
          (recorded { rec with
            state := .pass
            timerStart := u.counter
            current := some
              { number := rec.attempts + 1, first := begun d rec u, second := none
                marks := { readingInvalid := loses u, flowUnstable := false,
                           runDegraded := decide (s.integrity rec.request.run ≠ .sound) } } }
            (asking (rec.attempts + 1) 1 false))) ∧
        (rec.state = .tail → Gives i s (grant (filed .aborted .sequence rec u))) ∧
        (∀ c, rec.current = some c → rec.state = .pass →
          let p := inProgress c
          (d = p.start ∨ p.p0 = none → Gives i s (grant (filed .aborted .sequence rec u))) ∧
          (d ≠ p.start → p.p0 ≠ none → Gives i s
            (recorded { rec with
              state := .tail
              current := some { withPass c { p with
                  d1 := some u.counter, endAnswer := if loses u then some .lost else p.endAnswer } with
                marks := { c.marks with readingInvalid := c.marks.readingInvalid || loses u } } }
              (asking c.number (if c.second.isSome then 2 else 1) true)))) ∧
        (∀ c, rec.current = some c → rec.state = .turn →
          (d = c.first.start → Gives i s (grant (filed .aborted .sequence rec u))) ∧
          (d ≠ c.first.start → Gives i s
            (recorded { rec with
              state := .pass
              timerStart := u.counter
              current := some { c with
                second := some (begun d rec u)
                marks := { c.marks with readingInvalid := c.marks.readingInvalid || loses u } } }
              (asking c.number 2 false))))))

/-- A record whose state runs a timer is aborted at that timer's expiry, with the timer's cause, and the next request is
granted (R101, R103, R104, R106, R107); it drops its round in progress (log entry 48). No timer expires in a part that is
not RUNNING (R124). An expiry of a timer that does not run, or that has started at this very instant, is no event (log
entry 4). -/
def Obligations.RecordTimeouts : Prop :=
  ∀ (dt : Nat) (s : State),
    let expiry : Instr → List RecordState → EndCause → Prop := fun i states cause =>
      (s.running = false → Gives i s s) ∧
      (∀ x, s.running = true → s.store.record = some x → x.state ∈ states → x.timerStart ≠ (later dt s).counter →
        Gives i s (grant (filed .aborted cause x (later dt s)))) ∧
      (s.running = true → (∀ x, s.store.record = some x → x.state ∉ states ∨ x.timerStart = (later dt s).counter) →
        Gives i s (later dt s))
    expiry (.alignTimeoutExpiry dt) [.aligning] .alignTimeout ∧
    expiry (.launchTimeoutExpiry dt) [.armed, .turn] .launchTimeout ∧
    expiry (.passTimeoutExpiry dt) [.pass, .tail] .passTimeout

/-! ### The scanner -/

/-- The conversion the scanner starts when the converter is free (R30, R33): the active chain's next point, or with no chain
the point at the scan position. -/
def Sys2Proof.Stated.starts (active : Option Chain) (position : Nat) (t : State) : Option Conversion :=
  match active with
  | some ch => ch.left.head?.map fun p =>
      { point := p, injected := true, setup := t.setup p, started := t.counter, moves := true }
  | none => t.pointsBlock.scanList[position]?.map fun n =>
      { point := pointIndex n, injected := false, setup := t.setup (pointIndex n), started := t.counter, moves := true }

/-- A completed conversion stores its reading (R25, R26): the value of the fraction in the span it started with, the time,
the stale timer started afresh, and the status by its valid range and, where the partner has an in-range reading, by the
comparison of R27. A point that comes to or from DEVIATION hands TEMPERATURE_DEVIATION for every run whose temperature
point it is (R28). A normal conversion then moves the scan position (R30); an injected one goes on to the next point of
its chain, or delivers the set, which the proving takes (R108), and the waiting chain moves up (R33); the next
conversion starts. At the expiry of a point's stale timer its status is STALE and its reading is kept (R29). Beside the
scanner only conditions, marks and provings change. Nothing is measured while the part is not RUNNING (R40). With the
converter IDLE or the timer stopped there is no event, nor
with a conversion or a timer that has started at this very instant (R29, R34; log entry 4). The fraction is an operand in
millionths (log entry 36), and a quotient by zero a free value (log entry 12). -/
def Obligations.ScannerEvents : Prop :=
  (∀ (dt fraction : Nat) (p : Fin 16) (s : State), s.running = false →
    Gives (.conversionCompletion dt fraction) s s ∧ Gives (.staleTimerExpiry dt p) s s) ∧
  (∀ (dt fraction : Nat) (c : Conversion) (s : State), s.running = true → s.scanner.converter = some c →
    fraction ≤ 1000000 → c.started ≠ (later dt s).counter →
    let u := c.setup
    let v := readingOf u fraction
    let valid := inValidRange u v
    let stored : PointStatus → PointState := fun st =>
      { reading := some { value := v, time := s.clock }, status := st
        staleTimer := some { started := (later dt s).counter, length := (s.setup c.point).stale } }
    let i : Instr := .conversionCompletion dt fraction
    ∃ w, w.scanner = { s.scanner with converter := none, points := w.scanner.points } ∧
      Beside ((later dt s).withScanner w.scanner) w ∧
      (valid = false ∨ u.partner = none →
        w.scanner.points = s.scanner.points.set c.point (stored (if valid then .good else .range))) ∧
      (valid = true → ∀ n, u.partner = some n → pointIndex n ≠ c.point →
        let q := s.scanner.points[pointIndex n]
        (q.status = .good ∨ q.status = .deviation → ∀ y, q.reading = some y →
          let r : PointStatus := if toMilli u.kind u.deviation < (v - y.value).natAbs then .deviation else .good
          w.scanner.points = (s.scanner.points.set c.point (stored r)).set (pointIndex n) { q with status := r }) ∧
        (q.status ≠ .good → q.status ≠ .deviation →
          w.scanner.points = s.scanner.points.set c.point (stored .good))) ∧
      ((∀ n, u.partner = some n → pointIndex n ≠ c.point) → ∀ r,
        let k := pointIndex (s.runBlock r).tempPoint
        let j : ConditionId := .run .temperatureDeviation r
        w.active j =
          if s.pointStatus k = w.pointStatus k then s.active j
          else if w.pointStatus k = .deviation then true
          else if s.pointStatus k = .deviation then false else s.active j) ∧
      ((∀ k, s.pointStatus k = .deviation ↔ w.pointStatus k = .deviation) →
        (∀ n, u.partner = some n → pointIndex n ≠ c.point) → w = (later dt s).withScanner w.scanner) ∧
      (c.injected = false →
        let position :=
          if c.moves then (s.scanner.position + 1) % s.pointsBlock.scanList.length else s.scanner.position
        Gives i s (leaving s (w.withScanner { w.scanner with
          position := position, converter := starts s.scanner.active position (later dt s) }))) ∧
      (c.injected = true → s.scanner.active = none →
        Gives i s (leaving s (w.withScanner { w.scanner with converter := starts none s.scanner.position (later dt s) }))) ∧
      (c.injected = true → ∀ ch, s.scanner.active = some ch →
        (∀ p rest, ch.left.tail = p :: rest →
          let next : Option Chain := some { ch with left := p :: rest }
          Gives i s (leaving s (w.withScanner { w.scanner with
            active := next, converter := starts next s.scanner.position (later dt s) }))) ∧
        (ch.left.tail = [] → ∃ z,
          Answered ch.tag (.set (ch.points.map fun p =>
            { point := p, reading := w.scanner.points[p].reading, status := w.scanner.points[p].status })) w z ∧
          Gives i s (leaving s (z.withScanner { w.scanner with
            active := s.scanner.waiting, waiting := none,
            converter := starts s.scanner.waiting s.scanner.position (later dt s) }))))) ∧
  (∀ (dt fraction : Nat) (p : Fin 16) (s : State), s.running = true →
    let w := (later dt s).setPoint p { s.scanner.points[p] with status := .stale, staleTimer := none }
    let expires : Prop := ∃ tm, (s.scanner.points[p]).staleTimer = some tm ∧ tm.started ≠ (later dt s).counter
    (expires → s.pointStatus p ≠ .deviation → Gives (.staleTimerExpiry dt p) s w) ∧
    (expires → s.pointStatus p = .deviation →
      ∃ t, Gives (.staleTimerExpiry dt p) s t ∧ Beside w t ∧
        ∀ r, t.active (.run .temperatureDeviation r) =
          if pointIndex (s.runBlock r).tempPoint = p then false else s.active (.run .temperatureDeviation r)) ∧
    (¬expires → Gives (.staleTimerExpiry dt p) s (later dt s)) ∧
    ((∀ cv, s.scanner.converter = some cv → cv.started = (later dt s).counter) →
      Gives (.conversionCompletion dt fraction) s (later dt s)))

/-! ### The period boundary -/

/-- The conditions a boundary judges of a run from its period f, each with what it is judged (R4, R54, R129). -/
def Sys2Proof.Stated.periodConditions (s : State) (r : Run) (f : LastPeriod) : List (ConditionId × Bool) :=
  let b := s.runBlock r
  let cv := s.store.curves.get r
  let fails : Nat → Bool := fun n => decide (s.pointStatus (pointIndex n) ≠ .good)
  [ (.run .reverseFlow r, decide (b.reverseLimit < f.reverse)),
    (.run .temperatureSubstituted r, fails b.tempPoint),
    (.run .pressureSubstituted r, fails b.pressPoint),
    (.run .rateOutOfRange r, decide (0 < f.q ∧ (f.q < b.minRate ∨ b.maxRate < f.q))),
    (.run .curveExtrapolated r, decide (0 < f.q ∧
      (cv = [] ∨ (∃ p ∈ cv.head?, f.q < p.rate) ∨ (∃ p ∈ cv.getLast?, p.rate < f.q)))),
    (.run .unscheduledFlow r, decide ((s.store.runs.get r).service = .closed ∧ 0 < f.n)),
    (.station .waterSubstituted, fails s.stationBlock.waterPoint) ]

/-- A boundary computes and credits every run's period (R3, R49 to R53, R56 to R58, R74): the period's figures, the
residues, and the whole units added to the GOOD or the FLAGGED set of the cumulative side and, with no batch active, of
the no-batch accumulators; a batch with no nomination that stays active takes them, the weighted sums and the period
counts. The period is FLAGGED exactly where the run was not SOUND at some instant of it, the judgements of its end
included (R55); that the flag is never set otherwise holds where the marks of the period are in order (FlagInv). A quotient
by zero, a total that would fall below zero and the coefficients of an EMPTY grade are free values (log entries 12, 13,
15). -/
def Obligations.BoundaryCreditsEveryRun : Prop :=
  ∀ (dt : Nat) (order : BoundaryOrder) (r : Run) (s : State), s.running = true → Ends dt s →
    let x := s.store.runs.get r
    let b := s.runBlock r
    ∃ t f, Gives (.periodBoundary dt order) s t ∧ t.totalizer.last.get r = some f ∧
      (f.time = s.clock ∧ f.length = s.totalizer.periodLength * 10000 ∧ f.closing = false ∧
        f.counting = (s.runPulse r).counting ∧ f.n = ((s.runPulse r).channel f.counting).forward ∧
        f.reverse = ((s.runPulse r).channel f.counting).reverse) ∧
      (f.iv = indicatedVolume f.n b.k ∧ f.q = indicatedRate f.iv f.length ∧ f.mf = lookup (s.store.curves.get r) f.q ∧
        f.t = s.effective (pointIndex b.tempPoint) ∧ f.p = s.effective (pointIndex b.pressPoint) ∧
        f.wc = s.effective (pointIndex s.stationBlock.waterPoint) ∧ f.grade = s.gradeNow ∧
        f.ctl = ctlFactor (s.coefficients f.grade).1 f.t ∧ f.cpl = cplFactor (s.coefficients f.grade).2.1 f.p ∧
        f.ccf = ccfFactor f.ctl f.cpl f.mf ∧ f.gsv = f.iv * ((f.ccf : Rat) / 100000) ∧
        f.nsv = f.gsv * (1 - (f.wc : Rat) / 1000 / 100) ∧
        f.mass = f.gsv * (((s.coefficients f.grade).2.2 : Rat) / 10)) ∧
      (f.batch = s.store.active.map (·.entry.id) ∧ f.service = x.service ∧
        (s.totalizer.unsound.get r = true → f.flagged = true) ∧
        (FlagInv s → (f.flagged = true ↔ s.totalizer.unsound.get r = true ∨
          ∃ j ∈ periodConditions s r f, j.2 = true ∧ conditionClass s.stationBlock j.1 ≠ .note))) ∧
      (let i := (splitResidues x.residues f).1
       let y := t.store.runs.get r
       y.cumulative = creditSplit f.flagged i x.cumulative ∧ y.residues = (splitResidues x.residues f).2 ∧
       y.reverse = addTotal x.reverse f.reverse ∧
       y.noBatch = (if s.store.active.isSome then x.noBatch else creditSplit f.flagged i x.noBatch) ∧
       ∀ a, s.store.active = some a → s.change = .none → a.reached = false → a.entry.nomination = none →
         let z := a.runs.get r
         ∃ a', t.store.active = some a' ∧ a'.runs.get r =
           { opening := z.opening
             acc := creditSplit f.flagged i z.acc
             sums := { iv := z.sums.iv + f.iv, tIV := z.sums.tIV + ofMilli f.t * f.iv,
                       pIV := z.sums.pIV + ofMilli f.p * f.iv, mfIV := z.sums.mfIV + (f.mf : Rat) / 10000 * f.iv,
                       gsv := z.sums.gsv + f.gsv, wGSV := z.sums.wGSV + ofMilli f.wc * f.gsv }
             periods := if 0 < f.n ∧ z.periods < 4294967295 then z.periods + 1 else z.periods
             flaggedPeriods :=
               if 0 < f.n ∧ f.flagged = true ∧ z.flaggedPeriods < 4294967295 then z.flaggedPeriods + 1
               else z.flaggedPeriods }) ∧
      ((t.runPulse r).a.forward = 0 ∧ (t.runPulse r).a.reverse = 0 ∧ (t.runPulse r).b.forward = 0 ∧
        (t.runPulse r).b.reverse = 0)

/-- A boundary judges the period that ends under the settings in force during it (R4, R54, R129, R194), and the condition
records stand so in the period that begins. -/
def Obligations.BoundaryJudgesThePeriod : Prop :=
  ∀ (dt : Nat) (order : BoundaryOrder) (r : Run) (s : State), s.running = true → Ends dt s →
    let b := s.runBlock r
    let c := s.store.curves.get r
    ∃ t f, Gives (.periodBoundary dt order) s t ∧ t.totalizer.last.get r = some f ∧
      (t.active (.run .reverseFlow r) = true ↔ b.reverseLimit < f.reverse) ∧
      (t.active (.run .temperatureSubstituted r) = true ↔ s.pointStatus (pointIndex b.tempPoint) ≠ .good) ∧
      (t.active (.run .pressureSubstituted r) = true ↔ s.pointStatus (pointIndex b.pressPoint) ≠ .good) ∧
      (t.active (.station .waterSubstituted) = true ↔
        s.pointStatus (pointIndex s.stationBlock.waterPoint) ≠ .good) ∧
      (t.active (.run .rateOutOfRange r) = true ↔ 0 < f.q ∧ (f.q < b.minRate ∨ b.maxRate < f.q)) ∧
      (t.active (.run .unscheduledFlow r) = true ↔ (s.store.runs.get r).service = .closed ∧ 0 < f.n) ∧
      (t.active (.run .curveExtrapolated r) = true ↔
        0 < f.q ∧ (c = [] ∨ (∃ p, c.head? = some p ∧ f.q < p.rate) ∨ (∃ p, c.getLast? = some p ∧ p.rate < f.q))) ∧
      (s.supply.firstPeriod = true → t.active (.station .powerInterrupted) = false) ∧
      t.supply.firstPeriod = false

/-- What a boundary, ordinary or closing, performs of what was deferred to it: service changes, pending curves and
commit-pending blocks take effect, the time of the last boundary is recorded, the block at the rotation position is
verified and the rotation advances, the counting channels are fixed, and the next period has the length of the STATION
block then current. -/
def Sys2Proof.Stated.Deferred (s t : State) : Prop :=
  (∀ r, (t.store.runs.get r).service = (s.store.runs.get r).pendingService.getD (s.store.runs.get r).service ∧
    (t.store.runs.get r).pendingService = none ∧
    t.store.curves.get r = (s.store.pendingCurves.get r).getD (s.store.curves.get r) ∧
    t.store.pendingCurves.get r = none ∧
    t.runBlock r = (s.store.runBlocks.get r).pending.getD (s.runBlock r) ∧
    (t.store.runBlocks.get r).code =
      ((s.store.runBlocks.get r).pending.map runBlockCode).getD (s.store.runBlocks.get r).code) ∧
  (t.stationBlock = s.store.station.pending.getD s.stationBlock ∧
    t.store.station.code = (s.store.station.pending.map stationBlockCode).getD s.store.station.code) ∧
  (t.proverBlock = s.store.prover.pending.getD s.proverBlock ∧
    t.store.prover.code = (s.store.prover.pending.map proverBlockCode).getD s.store.prover.code) ∧
  (t.pointsBlock = s.store.points.pending.getD s.pointsBlock ∧
    t.store.points.code = (s.store.points.pending.map pointsBlockCode).getD s.store.points.code) ∧
  (∀ b, t.commitPending b = false ∧ (t.staged b = true ↔ s.staged b = true ∧ s.commitPending b = false) ∧
    (t.mark b = true ↔ s.commitPending b = false ∧
      (s.mark b = true ∨ b = s.work.rotation ∧
        (s.contentsCode b ≠ s.storedCode b ∨
          b = .grades ∧ ∃ (k : Fin 16) (e : GradeEntry), s.store.grades[k] = some e ∧
            gradeEntryCode e.name e.alpha e.f e.rho ≠ e.code)))) ∧
  (∀ r, (t.runPulse r).counting =
    if (s.runPulse r).a.lost = true ∧ (s.runPulse r).b.lost = false then .b else .a) ∧
  t.store.lastBoundary = s.clock ∧ t.work.rotation = nextBlock s.work.rotation ∧
  t.totalizer.periodLength = t.stationBlock.periodLength ∧ t.totalizer.periodStart = t.counter

/-- A boundary performs what was deferred to it (R12, R42, R44, R59, R134, R162, R165): see Stated.Deferred. A run's
CONFIG_CHECK condition, and the station's, follows the mismatch marks (R164). The order of this work is the model's (log
entries 5 and 49). -/
def Obligations.BoundaryPerformsDeferredItems : Prop :=
  ∀ (dt : Nat) (order : BoundaryOrder) (s : State), s.running = true → Ends dt s →
    let any : State → Bool := fun t => t.mark .station || t.mark .prover || t.mark .points || t.mark .grades
    ∃ t, Gives (.periodBoundary dt order) s t ∧ Deferred s t ∧
      (∀ r, s.active (.run .runConfigCheck r) = s.mark (.run r) → t.active (.run .runConfigCheck r) = t.mark (.run r)) ∧
      (s.active (.station .stationConfigCheck) = any s → t.active (.station .stationConfigCheck) = any t)

/-- The active batch with its period credited in every run (R74), from the period results a boundary from s leaves in t. -/
def Sys2Proof.Stated.credited (s t : State) (b : ActiveBatch) : ActiveBatch :=
  { b with runs := PerRun.tab fun r =>
    let z := b.runs.get r
    match t.totalizer.last.get r with
    | none => z
    | some f =>
      { opening := z.opening
        acc := creditSplit f.flagged (splitResidues (s.store.runs.get r).residues f).1 z.acc
        sums := { iv := z.sums.iv + f.iv, tIV := z.sums.tIV + ofMilli f.t * f.iv,
                  pIV := z.sums.pIV + ofMilli f.p * f.iv, mfIV := z.sums.mfIV + (f.mf : Rat) / 10000 * f.iv,
                  gsv := z.sums.gsv + f.gsv, wGSV := z.sums.wGSV + ofMilli f.wc * f.gsv }
        periods := if 0 < f.n ∧ z.periods < 4294967295 then z.periods + 1 else z.periods
        flaggedPeriods :=
          if 0 < f.n ∧ f.flagged = true ∧ z.flaggedPeriods < 4294967295 then z.flaggedPeriods + 1
          else z.flaggedPeriods } }

/-- Whether a batch has reached its nomination (R80): it had before, or the total GSV of its accumulators has. -/
def Sys2Proof.Stated.nominated (b : ActiveBatch) : Bool :=
  let total := (allRuns.map fun r => (b.runs.get r).acc.good.gsv + (b.runs.get r).acc.flagged.gsv).sum
  b.reached || b.entry.nomination.any fun n => decide (n ≤ total)

/-- A ticket's average (R88): absent where its weight is zero. -/
def Sys2Proof.Stated.averageOf (n : Nat) (sum weight : Rat) : Option Int :=
  if weight = 0 then none else some (roundTo n (sum / weight))

/-- A ticket's station sum (R89): quantity by quantity, over a list of sets. -/
def Sys2Proof.Stated.Sums (l : List Totals) (x : Totals) : Prop :=
  x.iv = (l.map (·.iv)).sum ∧ x.gsv = (l.map (·.gsv)).sum ∧ x.nsv = (l.map (·.nsv)).sum ∧
  x.mass = (l.map (·.mass)).sum ∧ x.pulses = (l.map (·.pulses)).sum

/-- The ticket k of a credited batch b that closes at a boundary from s to t (R86 to R89). -/
def Sys2Proof.Stated.TicketOf (cause : CloseCause) (b : ActiveBatch) (s t : State) (k : Ticket) : Prop :=
  let good := allRuns.map fun r => (b.runs.get r).acc.good
  let flagged := allRuns.map fun r => (b.runs.get r).acc.flagged
  let summed : (BatchRun → Rat) → Rat := fun f => (allRuns.map fun r => f (b.runs.get r)).sum
  k.number = s.store.ticketCounter ∧ k.entry = b.entry ∧ k.start = b.start ∧ k.finish = s.clock ∧
  k.cause = cause ∧ k.reached = nominated b ∧ k.interruptions = b.interruptions ∧ k.outage = b.outage ∧
  (∀ r, let z := b.runs.get r
    k.runs.get r =
      { opening := z.opening, closing := (t.store.runs.get r).cumulative, acc := z.acc, periods := z.periods,
        flaggedPeriods := z.flaggedPeriods, sums := z.sums, avgT := averageOf 2 z.sums.tIV z.sums.iv,
        avgP := averageOf 3 z.sums.pIV z.sums.iv, avgMF := averageOf 4 z.sums.mfIV z.sums.iv,
        avgW := averageOf 2 z.sums.wGSV z.sums.gsv }) ∧
  Sums good k.stationGood ∧ Sums flagged k.stationFlagged ∧ Sums (good ++ flagged) k.stationTotal ∧
  k.periods = (allRuns.map fun r => (b.runs.get r).periods).sum ∧
  k.flaggedPeriods = (allRuns.map fun r => (b.runs.get r).flaggedPeriods).sum ∧
  k.avgW = averageOf 2 (summed (·.sums.wGSV)) (summed (·.sums.gsv))

/-- What a boundary, ordinary or closing, makes of the batch (R73, R78, R80, R81, R86): the pending change is performed; with
none pending, the batch closes where its nomination is reached and the held record is free, and stays with its flag where
it is not. -/
def Sys2Proof.Stated.BatchChanged (s t : State) : Prop :=
  let started : BatchEntry → Prop := fun e =>
    ∃ b, t.store.active = some b ∧ b.entry = e ∧ b.start = s.clock ∧ b.interruptions = 0 ∧ b.outage = 0 ∧
      b.reached = false ∧ ∀ r, (b.runs.get r).opening = (t.store.runs.get r).cumulative ∧
        (b.runs.get r).acc = zeroSplit ∧ (b.runs.get r).sums = zeroSums ∧ (b.runs.get r).periods = 0 ∧
        (b.runs.get r).flaggedPeriods = 0
  let closed : CloseCause → ActiveBatch → Prop := fun cause b =>
    ∃ k : Ticket, TicketOf cause (credited s t b) s t k ∧ t.store.ticketCounter = s.store.ticketCounter + 1 ∧
      (if s.store.slots.length < 12 then t.store.slots = s.store.slots ++ [k] ∧ t.store.held = s.store.held
       else t.store.slots = s.store.slots ∧ t.store.held = some k)
  let kept : Prop :=
    t.store.slots = s.store.slots ∧ t.store.held = s.store.held ∧ t.store.ticketCounter = s.store.ticketCounter
  t.change = .none ∧
  (∀ e rest, s.change = .start → s.store.queue = e :: rest → started e ∧ t.store.queue = rest ∧ kept) ∧
  (∀ b, s.change = .ends → s.store.active = some b →
    t.store.active = none ∧ closed .hostEnd b ∧ t.store.queue = s.store.queue) ∧
  (∀ b e rest, s.change = .cutover → s.store.active = some b → s.store.queue = e :: rest →
    started e ∧ closed .hostCutover b ∧ t.store.queue = rest) ∧
  (∀ b, s.change = .none → s.store.active = some b → t.store.queue = s.store.queue ∧
    (nominated (credited s t b) = false → t.store.active = some (credited s t b) ∧ kept) ∧
    (nominated (credited s t b) = true → s.store.held ≠ none →
      t.store.active = some { credited s t b with reached := true } ∧ kept) ∧
    (nominated (credited s t b) = true → s.store.held = none → t.store.active = none ∧ closed .nomination b)) ∧
  (s.change = .none → s.store.active = none → t.store.active = none ∧ t.store.queue = s.store.queue ∧ kept)

/-- A boundary performs the sequencer's pending change (R73, R78, R86): a start, a close with its ticket numbered from the
counter, or both; with none pending, a batch whose nomination is reached, before or first at this boundary, closes as
soon as the held record is free (R80, R81): see Stated.BatchChanged. The ticket holds the batch with the period that ends
credited, its averages and station sums (R87 to R89). TICKET_STORE_FULL is active where a nomination close is deferred and
inactive where a close is done. -/
def Obligations.BoundaryChangesTheBatch : Prop :=
  ∀ (dt : Nat) (order : BoundaryOrder) (s : State), s.running = true → Ends dt s →
    let full : ConditionId := .station .ticketStoreFull
    ∃ t, Gives (.periodBoundary dt order) s t ∧ BatchChanged s t ∧
      (s.change = .ends ∨ s.change = .cutover → t.active full = false) ∧
      (s.change = .start → t.active full = s.active full) ∧
      (s.change = .none → s.store.active = none → t.active full = s.active full) ∧
      (∀ b, s.change = .none → s.store.active = some b →
        t.active full =
          if nominated (credited s t b) = false then s.active full else decide (s.store.held ≠ none))

/-- A record with marks set on its round in progress. -/
def Sys2Proof.Stated.marked (flow degraded : Bool) (x : ProvingRecord) : ProvingRecord :=
  { x with current := x.current.map fun c => { c with
      marks := { c.marks with
        flowUnstable := c.marks.flowUnstable || flow
        runDegraded := c.marks.runDegraded || degraded } } }

/-- The record x left the prover for a cause at a boundary from s to t, and the next request was granted last. -/
def Sys2Proof.Stated.Aborted (cause : EndCause) (x : ProvingRecord) (s t : State) : Prop :=
  ∃ u, t = grant u ∧ u.store.record = none ∧ u.requests = s.requests ∧
    u.store.provingCounter = s.store.provingCounter ∧
    u.store.history =
      entered { x with state := .aborted, cause := some cause, ended := some s.clock, current := none } s.store.history

/-- No condition but RETENTION_LOST has class TRIP, now or under the STATION block a boundary brings, and that one is not
active: no run can become FAILED at the boundary. -/
def Sys2Proof.Stated.NoTrip (s : State) : Prop :=
  (∀ i, conditionClass s.stationBlock i = .trip → i = .station .retentionLost) ∧
  (∀ b ∈ s.store.station.pending, ∀ i, conditionClass b i = .trip → i = .station .retentionLost) ∧
  s.active (.station .retentionLost) = false

/-- The causes for which a boundary from s to t aborts the record x: a change of grade (R117), a block it uses replaced, and
its run closed (R118). -/
def Sys2Proof.Stated.abortCauses (x : ProvingRecord) (s t : State) : List EndCause :=
  let r := x.request.run
  let batch : Bool := decide (s.change ≠ .none) || (s.store.active.isSome && t.store.active.isNone)
  (if s.change = .cutover ∨ ((batch || s.commitPending .station) = true ∧ t.gradeNow ≠ x.grade) then [.gradeChange]
    else []) ++
  (if s.commitPending (.run r) = true ∨ s.commitPending .prover = true then [.configChanged] else []) ++
  (if (s.store.runs.get r).pendingService = some .closed then [.runClosed] else [])

/-- Whether a pass in progress is unstable at the end of a period of rate q (R111). -/
def Sys2Proof.Stated.unstable (s : State) (x : ProvingRecord) (q : Nat) : Bool :=
  decide (x.state = .pass ∨ x.state = .tail) &&
    match x.current.bind fun c => (inProgress c).startRate with
    | none => true
    | some st =>
      decide (st = 0 ∨ s.proverBlock.stability * st < (if st ≤ q then q - st else st - q) * 1000)

/-- What a boundary from s to t does to the records it does not judge from the period: those of the pulse unit and
RETENTION_LOST stay whole; TEMPERATURE_DEVIATION is judged where the RUN block that comes names another point, from that
point's status, and else stays (R28); POWER_INTERRUPTED stays unless a first period ends (R194); EXTERNAL_TRIP stays while
the part is PERMIT and where the line is low, and at most becomes inactive (R151, R153). The permit state stays where no
condition of class TRIP can be active. -/
def Sys2Proof.Stated.NotJudged (s t : State) : Prop :=
  let whole : ConditionId → Prop := fun i => t.monitor.table.get i = s.monitor.table.get i
  (∀ r, ∀ k ∈ [RunKind.channelALost, .channelBLost, .pulseMismatch, .pulseNoise, .comparatorFault], whole (.run k r)) ∧
  whole (.station .retentionLost) ∧
  (∀ r, let named := (s.runBlock r).tempPoint
    ((∀ x, (s.store.runBlocks.get r).pending = some x → x.tempPoint = named) → whole (.run .temperatureDeviation r)) ∧
    (∀ x, (s.store.runBlocks.get r).pending = some x → x.tempPoint ≠ named →
      t.active (.run .temperatureDeviation r) = decide (s.pointStatus (pointIndex x.tempPoint) = .deviation))) ∧
  (s.supply.firstPeriod = false → whole (.station .powerInterrupted)) ∧
  (t.active (.station .externalTrip) = true → s.active (.station .externalTrip) = true) ∧
  (s.monitor.withdrawn = false ∨ s.lines.permitHigh = false → whole (.station .externalTrip)) ∧
  (NoTrip s → s.monitor.withdrawn = false → t.monitor = { s.monitor with table := t.monitor.table })

/-- The frame of a boundary: what it leaves as it was, beside the effects the other statements give: lines, clocks, link,
detectors, each run's pulse state but its period counts and its counting channel (R3, R21), readings and chains, and the
conditions no judgement of it names (Stated.NotJudged). A POINTS block that comes sets the scan position to the head, keeps
a normal conversion in progress from moving it, and starts an IDLE converter on the new list (R39). And what it does to the
record holding the prover. A judgement of class TRIP that makes its run FAILED aborts it with RUN_FAILED (R112); a change
of grade, a block or a closed run aborts it with its cause (R117, R118), the one taken first where several come (the
command's choice, log entry 30; what each looks at, log entry 42); else it stays, its round marked FLOW_UNSTABLE by the
period that ends (R111) and RUN_DEGRADED where its run becomes DEGRADED or its counting channel changes (R112), and not
where neither happens. R117 and R118 are stated where no class TRIP can fail a run at the boundary (Stated.NoTrip); that
RUN_FAILED comes before their causes is log entry 5, and that an aborted record drops its round log entry 48. -/
def Obligations.BoundaryLeavesTheRest : Prop :=
  ∀ (dt : Nat) (order : BoundaryOrder) (s : State), s.running = true → Ends dt s →
    ∃ t, Gives (.periodBoundary dt order) s t ∧ t.lines = s.lines ∧ t.clock = s.clock ∧ t.link = s.link ∧
      t.pending = s.pending ∧ t.counter = (later dt s).counter ∧
      t.supply = { s.supply with firstPeriod := false } ∧
      (t.pulse.d1 = s.pulse.d1 ∧ t.pulse.d2 = s.pulse.d2) ∧
      (t.scanner.points = s.scanner.points ∧ t.scanner.active = s.scanner.active ∧
        t.scanner.waiting = s.scanner.waiting ∧ t.scanner.refused = s.scanner.refused) ∧
      (s.store.points.pending = none → t.scanner = s.scanner) ∧
      (s.store.points.pending ≠ none → t.scanner.position = 0 ∧
        (s.scanner.converter = none → t.scanner.converter = starts s.scanner.active 0 t) ∧
        (∀ c, s.scanner.converter = some c → t.scanner.converter = some { c with moves := false })) ∧
      (∀ r, t.runPulse r = { s.runPulse r with
        a := { (s.runPulse r).a with forward := 0, reverse := 0 }
        b := { (s.runPulse r).b with forward := 0, reverse := 0 }
        counting := (t.runPulse r).counting }) ∧
      NotJudged s t ∧
      t.totalizer.clockSet = s.totalizer.clockSet ∧
      (t.store.snapshot = s.store.snapshot ∧ t.store.substitutes = s.store.substitutes ∧
        t.store.grades = s.store.grades ∧ t.store.gradesCode = s.store.gradesCode) ∧
      (t.store.audit = s.store.audit ∧ t.store.auditCounter = s.store.auditCounter) ∧
      (t.store.proverEnabled = s.store.proverEnabled ∧ t.store.results = s.store.results) ∧
      (t.store.formatMark = s.store.formatMark ∧ t.store.codeAgrees = s.store.codeAgrees) ∧
      (s.store.record = none → t.store.record = none ∧ t.requests = s.requests ∧ t.store.history = s.store.history ∧
        t.store.provingCounter = s.store.provingCounter) ∧
      (∀ x, s.store.record = some x →
        let r := x.request.run
        let causes := abortCauses x s t
        let moved := (t.runPulse r).counting ≠ (s.runPulse r).counting
        ∃ f, t.totalizer.last.get r = some f ∧
          (s.integrity r ≠ .failed →
            (∃ j ∈ periodConditions s r f, j.2 = true ∧ conditionClass s.stationBlock j.1 = .trip) →
            Aborted .runFailed x s t) ∧
          (NoTrip s → order.causeFirst ∈ causes → Aborted order.causeFirst x s t) ∧
          (NoTrip s → order.causeFirst ∉ causes → ∀ c ∈ causes.head?, Aborted c x s t) ∧
          (NoTrip s → causes = [] → ∃ degraded,
            t.store.record = some (marked (unstable s x f.q) degraded x) ∧ t.requests = s.requests ∧
            t.store.history = s.store.history ∧
            (f.flagged = false → t.totalizer.unsound.get r = false → ¬moved → degraded = false) ∧
            (moved → degraded = true) ∧
            (f.flagged = true → s.totalizer.unsound.get r = false → s.integrity r = .sound → degraded = true) ∧
            (f.flagged = false → t.totalizer.unsound.get r = true → degraded = true) ∧
            (s.integrity r = .sound → t.integrity r = .degraded → degraded = true)))

/-! ### Power, clocks and starts -/

/-- The power-fail warning taken while RUNNING ends the period in progress as a closing period, with every deferred item of
a boundary and the batch change (Stated.Deferred, Stated.BatchChanged), and halts every block (R5, R40, R43, R124, R155,
R188, R190); an assertion in another state changes the line alone. The order of the closing work is the model's (log
entry 5), and so is that the filed record drops its round in progress (log entry 48). A total that would fall below zero is
a free value (log entry 13). -/
def Obligations.WarningClosesAndHalts : Prop :=
  ∀ (dt : Nat) (order : BoundaryOrder) (s : State),
    (s.running = false → Gives (.powerFailWarning dt order) s (s.withLines { s.lines with warning := true })) ∧
    (s.running = true → ∃ t, Gives (.powerFailWarning dt order) s t ∧
      t.supply.power = .halted ∧ t.supply.resetQualifying = false ∧ t.lines = { s.lines with warning := true } ∧
      t.clock = s.clock ∧ t.store.record = none ∧ Deferred s t ∧ BatchChanged s t ∧
      (∀ r, ∃ f, t.totalizer.last.get r = some f ∧ f.closing = true ∧
        f.length = ((later dt s).counter - s.totalizer.periodStart).toNat ∧
        f.n = ((s.runPulse r).channel (s.runPulse r).counting).forward ∧
        (t.store.runs.get r).cumulative =
          creditSplit f.flagged (splitResidues (s.store.runs.get r).residues f).1 (s.store.runs.get r).cumulative) ∧
      (∀ x, s.store.record = some x →
        t.store.history = entered { x with state := .aborted, cause := some .power, ended := some s.clock,
                                           current := none } s.store.history) ∧
      (t.scanner.converter = none ∧ t.scanner.active = none ∧ t.scanner.waiting = none ∧
        ∀ p : Fin 16, (t.scanner.points[p]).staleTimer = none ∧
          (t.scanner.points[p]).reading = (s.scanner.points[p]).reading) ∧
      (∀ r, (t.runPulse r).a.qualifying = none ∧ (t.runPulse r).b.qualifying = none) ∧
      (t.pulse.d1.phase ≠ .qualifying ∧ t.pulse.d2.phase ≠ .qualifying) ∧
      (t.monitor.table = clearTable ∧ t.monitor.withdrawn = false ∧ t.monitor.hold = none ∧
        t.monitor.filter = none) ∧
      t.link = { s.link with reply := .none, sent := [], receiver := .off, silence := none })

/-- What starts the part, and what only changes a line or the supply (R189, R191 to R193): main power returning, the
warning ending and the reset line qualified perform a start. The clocks (R45, R195): the station clock counts its seconds
in every state, the next one second after a TSET (R46); the count of seconds since the start advances while the part is
RUNNING and stops at 4 294 967 295. That a failure of the backup supply while main power is present has no effect is
deduced (log entry 9), and the clock it leaves is a free value (log entry 14). The model's choices: an expiry with no
qualification is no event, nor a second at the instant its count began (log entry 4), all else stays as it stood when main
power fails (log entry 17), and the fall of a reset line already low is no edge (log entry 39). -/
def Obligations.PowerEventsAndClocks : Prop :=
  ∀ (dt : Nat) (s : State),
    let e := fun (i : Instr) (t : State) => Gives i s t
    let at' := if s.running then later dt s else s
    let present := s.withLines { s.lines with mainPower := true }
    let ended := at'.withLines { s.lines with warning := false }
    (s.supply.power = .unpowered ∧ s.lines.warning = false → e (.mainPowerReturn dt) (performStart present)) ∧
    (s.supply.power = .unpowered ∧ s.lines.warning = true → e (.mainPowerReturn dt) present) ∧
    (s.running = false → s.lines.mainPower = true → e (.warningDeassertion dt) (performStart ended)) ∧
    (s.running = true ∨ s.lines.mainPower = false → e (.warningDeassertion dt) ended) ∧
    (s.running = true → s.supply.resetQualifying = true → s.lines.resetLow = true →
      e (.resetQualificationExpiry dt)
        ((performStart at').withSupply { (performStart at').supply with byReset := true })) ∧
    (s.running = true → s.supply.resetQualifying = false ∨ s.lines.resetLow = false →
      e (.resetQualificationExpiry dt) at') ∧
    e (.mainPowerFailure dt)
      ((at'.withLines { s.lines with mainPower := false }).withSupply { s.supply with power := .unpowered }) ∧
    (s.lines.mainPower = false → e (.backupSupplyFailure dt)
      ((at'.withStore { s.store with formatMark := false, codeAgrees := false }).withClock Config.lostClock)) ∧
    (s.lines.mainPower = true → e (.backupSupplyFailure dt) at') ∧
    e (.resetLineFall dt)
      ((at'.withLines { s.lines with resetLow := true }).withSupply
        { s.supply with resetQualifying :=
            if s.running && !s.lines.resetLow then true else s.supply.resetQualifying }) ∧
    e (.resetLineRise dt)
      ((at'.withLines { s.lines with resetLow := false }).withSupply { s.supply with resetQualifying := false }) ∧
    (s.running = false ∨ s.totalizer.clockSet ≠ some at'.counter →
      e (.stationClockSecond dt) (at'.withClock (s.clock + 1))) ∧
    (s.running = true → s.totalizer.clockSet = some at'.counter → e (.stationClockSecond dt) at') ∧
    (s.running = true → at'.counter = 0 → s.supply.seconds = 0 → e (.secondsSinceStartAdvance dt) at') ∧
    (s.running = true → at'.counter ≠ 0 ∨ s.supply.seconds ≠ 0 → e (.secondsSinceStartAdvance dt) ((later dt s).withSupply { s.supply with
      seconds := if s.supply.seconds < 4294967295 then s.supply.seconds + 1 else s.supply.seconds })) ∧
    (s.running = false → e (.secondsSinceStartAdvance dt) s)

/-- A warm start (R22, R41, R44, R65, R83, R84, R125, R157, R172, R188, R192 to R194): the retained state is kept, with
the outage charged and the record of the prover filed, and every other state takes its start value. The filed record
drops its round in progress (log entry 48). -/
def Obligations.WarmStart : Prop :=
  ∀ s : State, s.store.formatMark = true → s.store.codeAgrees = true →
    let t := performStart s
    let cls := conditionClass s.stationBlock (.station .powerInterrupted)
    t.supply = { power := .running, resetQualifying := false, byReset := false, firstPeriod := true, seconds := 0 } ∧
    t.clock = s.clock ∧ t.counter = 0 ∧ t.lines = s.lines ∧ t.change = .none ∧ t.requests = [] ∧
    t.work = freshWork ∧ t.pulse = freshPulse s.store ∧ t.link = freshLink s.lines ∧
    (t.scanner.points = Vector.replicate 16 { reading := none, status := .none, staleTimer := none } ∧
      t.scanner.position = 0 ∧ t.scanner.active = none ∧ t.scanner.waiting = none ∧ t.scanner.refused = 0 ∧
      t.scanner.converter = s.pointsBlock.scanList.head?.map fun n =>
        { point := pointIndex n, injected := false, setup := s.setup (pointIndex n), started := 0, moves := true }) ∧
    (t.totalizer.periodLength = s.stationBlock.periodLength ∧ t.totalizer.periodStart = 0 ∧
      t.totalizer.clockSet = none ∧ t.totalizer.last = (PerRun.tab fun _ => none) ∧
      ∀ r, t.totalizer.unsound.get r = true ↔ cls ≠ .note) ∧
    (t.monitor.table.get (.station .powerInterrupted) =
        { active := true, latched := true, count := 1, lastOn := some s.clock, lastOff := none } ∧
      (∀ i, i ≠ .station .powerInterrupted → t.monitor.table.get i = clearRecord) ∧
      (cls = .trip → t.monitor.withdrawn = true ∧ t.monitor.filter = none ∧ t.monitor.seen = none ∧
        t.monitor.hold = some { started := 0, length := s.stationBlock.holdTime }) ∧
      (cls ≠ .trip → t.monitor.withdrawn = false ∧ t.monitor.hold = none ∧
        t.monitor.seen = some s.lines.permitHigh ∧
        t.monitor.filter = if s.lines.permitHigh then none else some { started := 0, length := s.stationBlock.filterTime })) ∧
    t.store = { s.store with
      record := none
      history := match s.store.record with
        | none => s.store.history
        | some x => entered { x with state := .aborted, cause := some .power, ended := some s.clock, current := none }
            s.store.history
      active := s.store.active.map fun b => { b with
        interruptions := if b.interruptions < 65535 then b.interruptions + 1 else b.interruptions
        outage := min 4294967295 (b.outage + (s.clock - s.store.lastBoundary)) } }

/-- A cold start (R192, R195): the whole store takes its factory values and the clock 2000-01-01, RETENTION_LOST is active,
every run FAILED, and the permit withdrawn for the factory hold time. -/
def Obligations.ColdStart : Prop :=
  ∀ s : State, s.store.formatMark = false ∨ s.store.codeAgrees = false →
    let t := performStart s
    t.supply = { power := .running, resetQualifying := false, byReset := false, firstPeriod := false, seconds := 0 } ∧
    t.store = factoryStore 0 ∧ t.clock = 0 ∧ t.counter = 0 ∧ t.lines = s.lines ∧ t.change = .none ∧
    t.requests = [] ∧ t.work = freshWork ∧ t.pulse = freshPulse (factoryStore 0) ∧ t.scanner = freshScanner ∧
    t.link = freshLink s.lines ∧ t.totalizer.last = (PerRun.tab fun _ => none) ∧
    t.totalizer.periodLength = 500 ∧ t.active (.station .retentionLost) = true ∧
    t.monitor.table.get (.station .retentionLost) =
      { active := true, latched := true, count := 1, lastOn := some 0, lastOff := none } ∧
    (∀ i, i ≠ .station .retentionLost → t.monitor.table.get i = clearRecord) ∧ (∀ r, t.integrity r = .failed) ∧
    t.monitor.withdrawn = true ∧ t.monitor.hold = some { started := 0, length := 10 } ∧ t.monitor.filter = none ∧
    t.monitor.seen = none ∧ t.totalizer.periodStart = 0 ∧ t.totalizer.clockSet = none ∧ ∀ r, t.totalizer.unsound.get r = true

/-- The reset state of the model is the part after its first start, which is cold (R192, log entries 2 and 6): power
returning to an unpowered part whose backup memory holds no format mark leads to it, whatever else that part holds. -/
def Obligations.ResetIsTheFirstStart : Prop :=
  ∀ s : State, s.supply.power = .unpowered → s.lines = { resetLines with mainPower := false } → s.pending = [] →
    s.store.formatMark = false → Gives (.mainPowerReturn 0) s State.reset

/-! ### Conditions and the permit line -/

/-- What changes of integrity state from s to t do to the totals in the making and to the record holding the prover (R55,
R112): a run that comes to FAILED or DEGRADED has its period marked; the record of a run that comes to FAILED is ABORTED
with RUN_FAILED, and of one that comes to DEGRADED has its round marked; nothing else of the proving changes. -/
def Sys2Proof.Stated.Followed (s t : State) : Prop :=
  (∀ r, t.totalizer.unsound.get r =
    (s.totalizer.unsound.get r || decide (t.integrity r ≠ s.integrity r ∧ t.integrity r ≠ .sound))) ∧
  match s.store.record with
  | none => t.store = s.store
  | some x =>
    if t.integrity x.request.run = s.integrity x.request.run ∨ t.integrity x.request.run = .sound then t.store = s.store
    else if t.integrity x.request.run = .failed then t.store = (filed .aborted .runFailed x s).store
    else t.store = { s.store with record := some (marked false true x) }

/-- A judgement (R142, R148): one that agrees with the record changes nothing; an activation sets the record's fields
and, of class TRIP, withdraws the permit and starts the hold timer; a deactivation keeps latch and count. No other record
changes, but for EXTERNAL_TRIP where a deactivation releases the line (R153). The changes of integrity state are handed on
(R55, R112): see Stated.Followed; a deactivation that also releases the line may mark a round for a state that lasts no
time, and a record that is aborted drops its round in progress (log entry 48). -/
def Obligations.JudgementIsTaken : Prop :=
  ∀ (i : ConditionId) (s : State),
    let c := s.monitor.table.get i
    (∀ on, c.active = on → judge i on s = s) ∧
    (c.active = false →
      let t := judge i true s
      t.monitor.table.get i = { active := true, latched := true, count := if c.count < 255 then c.count + 1 else c.count,
                                lastOn := some s.clock, lastOff := c.lastOff } ∧
      (∀ j, j ≠ i → t.monitor.table.get j = s.monitor.table.get j) ∧
      (conditionClass s.stationBlock i = .trip → t.monitor.withdrawn = true ∧ t.monitor.filter = none ∧
        t.monitor.hold = some { started := s.counter, length := s.stationBlock.holdTime }) ∧
      (conditionClass s.stationBlock i ≠ .trip → t.monitor.withdrawn = s.monitor.withdrawn ∧
        t.monitor.hold = s.monitor.hold ∧ t.monitor.filter = s.monitor.filter) ∧
      Beside s t ∧ t.requests = s.requests ∧ Followed s t) ∧
    (c.active = true →
      let t := judge i false s
      t.monitor.table.get i = { c with active := false, lastOff := some s.clock } ∧
      (∀ j, j ≠ i → j ≠ .station .externalTrip → t.monitor.table.get j = s.monitor.table.get j) ∧
      t.monitor.hold = s.monitor.hold ∧ Beside s t ∧ t.requests = s.requests ∧
      (t.monitor.withdrawn = s.monitor.withdrawn → Followed s t) ∧
      (∀ x, s.store.record = some x →
        (t.integrity x.request.run = s.integrity x.request.run → t.store = s.store) ∧
        (t.store = s.store ∨ t.store = { s.store with record := some (marked false true x) }) ∧
        (t.integrity x.request.run ≠ s.integrity x.request.run → t.integrity x.request.run = .degraded →
          t.store = { s.store with record := some (marked false true x) })))

/-- A run's integrity state follows from the active records of the run and of the station and their classes (R145). -/
def Obligations.IntegrityStates : Prop :=
  ∀ (s : State) (r : Run),
    let counts : ConditionId → Prop := fun i => (∃ k, i = .run k r) ∨ ∃ k, i = .station k
    let found : ConditionClass → Prop := fun c =>
      ∃ i, counts i ∧ s.active i = true ∧ conditionClass s.stationBlock i = c
    (s.integrity r = .failed ↔ found .trip) ∧
    (s.integrity r = .degraded ↔ ¬ found .trip ∧ found .flag) ∧
    (s.integrity r = .sound ↔ ¬ found .trip ∧ ¬ found .flag)

/-- The hold timer's expiry (R149, R153), the permit line's edges and the external filter's expiry (R151, R152). In a part
that is not RUNNING no timer expires and the line alone changes (R155). An expiry of a timer or filter that does not run, or
that has started at this very instant, is no event (R150, log entry 4), a fall of a low line and a rise of a high one are no
edges (log entry 39), and the line is the level the other parts and the wiring hold (log entry 40). -/
def Obligations.PermitEvents : Prop :=
  ∀ (dt : Nat) (s : State),
    (s.running = false →
      Gives (.holdTimerExpiry dt) s s ∧ Gives (.externalFilterExpiry dt) s s ∧
      Gives (.permitLineFall dt) s (s.withLines { s.lines with permitHigh := false }) ∧
      Gives (.permitLineRise dt) s (s.withLines { s.lines with permitHigh := true })) ∧
    (s.running = true → PermitInv s →
      let u := later dt s
      let expires : Option Timer → Prop := fun x => ∃ tm, x = some tm ∧ tm.started ≠ u.counter
      (¬expires s.monitor.hold → Gives (.holdTimerExpiry dt) s u) ∧
      (expires s.monitor.hold → s.tripActive = true →
        Gives (.holdTimerExpiry dt) s (u.withMonitor { s.monitor with hold := none })) ∧
      (expires s.monitor.hold → s.tripActive = false → ∃ t, Gives (.holdTimerExpiry dt) s t ∧
        t.monitor.withdrawn = false ∧ t.monitor.hold = none ∧ t.monitor.seen = some s.lines.permitHigh ∧
        (s.lines.permitHigh = true → t.active (.station .externalTrip) = false) ∧
        (s.lines.permitHigh = false → t.monitor.table = s.monitor.table ∧
          t.monitor.filter = some { started := u.counter, length := s.stationBlock.filterTime })) ∧
      (s.lines.permitHigh = true → s.monitor.withdrawn = false → Gives (.permitLineFall dt) s
        ((u.withLines { s.lines with permitHigh := false }).withMonitor { s.monitor with
          seen := some false
          filter := some (s.monitor.filter.getD { started := u.counter, length := s.stationBlock.filterTime }) })) ∧
      (s.lines.permitHigh = false ∨ s.monitor.withdrawn = true →
        Gives (.permitLineFall dt) s (u.withLines { s.lines with permitHigh := false })) ∧
      (s.lines.permitHigh = false → s.monitor.withdrawn = false → Gives (.permitLineRise dt) s
        (judge (.station .externalTrip) false ((u.withLines { s.lines with permitHigh := true }).withMonitor
          { s.monitor with seen := some true, filter := none }))) ∧
      (s.lines.permitHigh = true ∨ s.monitor.withdrawn = true →
        Gives (.permitLineRise dt) s (u.withLines { s.lines with permitHigh := true })) ∧
      (expires s.monitor.filter → ∃ t, Gives (.externalFilterExpiry dt) s t ∧ t.monitor.filter = none ∧
        t.active (.station .externalTrip) = true ∧
        Beside (u.withMonitor t.monitor) t) ∧
      (¬expires s.monitor.filter → Gives (.externalFilterExpiry dt) s u))

/-! ### The station link -/

/-- The receiver (R175 to R177): sync, the station compare, which abandons a queued reply for an own frame and performs the
restart one owes (R183, R187), the header character by character with the status character of a reply, the body length's
turn to SKIPPING or BODY, and the characters counted off or taken (a body length above 240 and the last character of an own
frame are stated in BadFramesOfItsOwn and SpelledFramesAreTheirRequests). The silence timer, and a reply's beginning,
deadline and end (R178, R182, R183, R187); a reply's beginning sends its frame as R197 lays it out, the frame check over
every character between sync and check code (log entry 44), and waits where a character has ended on the line at this very
instant. A part that is not RUNNING hears and sends nothing (R188, R189). The model's choices: GAP is recorded for the part's
own frames only (log entry 28), a queued reply begins in whatever receiver state (log entry 35), the frame whose station
compare performs an owed restart is lost (log entry 41); an expiry of a silence timer that does not run or has started at
this very instant, a deadline with no reply queued or with one formed at this very instant, and an end with none being sent
are no events (log entry 4). -/
def Obligations.LinkEvents : Prop :=
  ∀ (dt : Nat) (c : Byte) (s : State),
    (s.running = false →
      Gives (.characterReceived dt c) s s ∧ Gives (.silenceTimerExpiry dt) s s ∧ Gives (.replyStart dt) s s ∧
      Gives (.replyDeadlineExpiry dt) s s ∧ Gives (.replyEnd dt) s s) ∧
    (s.running = true →
      let u := later dt s
      let heard : Receiver → State := fun r => u.withLink { s.link with receiver := r, silence := some u.counter }
      let quiet : Receiver → State := fun r => u.withLink { s.link with receiver := r, silence := none }
      (s.link.receiver = .ready → Gives (.characterReceived dt c) s (heard (if c = 0xA5 then .header [] else .waiting))) ∧
      (s.link.receiver = .waiting → Gives (.characterReceived dt c) s (heard .waiting)) ∧
      (s.link.receiver = .off → Gives (.characterReceived dt c) s u) ∧
      (∀ n, s.link.receiver = .skipping n →
        Gives (.characterReceived dt c) s (heard (if n ≤ 1 then .ready else .skipping (n - 1)))) ∧
      (s.link.receiver = .header [] →
        let own : Prop := c.toNat = 0 ∨ c.toNat = s.link.station
        let taken := heard (.header [c])
        (¬own ∨ (∀ r, s.link.reply ≠ .queued r) → Gives (.characterReceived dt c) s taken) ∧
        (own → ∀ r, s.link.reply = .queued r →
          (r.restart = false → Gives (.characterReceived dt c) s (faulted .replyAbandoned (withoutReply taken))) ∧
          (r.restart = true →
            Gives (.characterReceived dt c) s (performStart (faulted .replyAbandoned (withoutReply taken)))))) ∧
      (∀ st rest, s.link.receiver = .header (st :: rest) → rest.length + 2 < (if st.toNat < 128 then 5 else 6) →
        Gives (.characterReceived dt c) s (heard (.header (st :: rest ++ [c])))) ∧
      (∀ st rest, s.link.receiver = .header (st :: rest) → rest.length + 2 = (if st.toNat < 128 then 5 else 6) →
        st.toNat ≠ 0 → st.toNat ≠ s.link.station →
        Gives (.characterReceived dt c) s (heard (.skipping (c.toNat + 2)))) ∧
      (∀ st ty tag1 tag2, s.link.receiver = .header [st, ty, tag1, tag2] → st.toNat < 128 →
        st.toNat = 0 ∨ st.toNat = s.link.station → c.toNat ≤ 240 →
        Gives (.characterReceived dt c) s (heard
          (.body st.toNat ty.toNat (BitVec.ofNat 16 (tag1.toNat * 256 + tag2.toNat)) c.toNat []))) ∧
      (∀ st ty tag len taken, s.link.receiver = .body st ty tag len taken → taken.length + 1 < len + 2 →
        Gives (.characterReceived dt c) s (heard (.body st ty tag len (taken ++ [c])))) ∧
      let expires : Prop := ∃ st, s.link.silence = some st ∧ st ≠ u.counter
      (¬expires → Gives (.silenceTimerExpiry dt) s u) ∧
      (expires →
        (s.link.receiver = .ready ∨ s.link.receiver = .waiting ∨ s.link.receiver = .header [] ∨
          (∃ n, s.link.receiver = .skipping n) → Gives (.silenceTimerExpiry dt) s (quiet .ready)) ∧
        (s.link.receiver = .off → Gives (.silenceTimerExpiry dt) s (quiet .off)) ∧
        (∀ st rest, s.link.receiver = .header (st :: rest) →
          Gives (.silenceTimerExpiry dt) s
            (if st.toNat = 0 ∨ st.toNat = s.link.station then faulted .gap (quiet .ready) else quiet .ready)) ∧
        (∀ st ty tag len taken, s.link.receiver = .body st ty tag len taken →
          Gives (.silenceTimerExpiry dt) s (faulted .gap (quiet .ready)))) ∧
      (∀ r, s.link.reply = .queued r →
        let covered := num 1 r.station ++ num 1 r.type ++ bigEndian 2 r.tag.toNat ++ num 1 (statusNumber r.status) ++
          num 1 r.body.length ++ r.body
        (s.link.silence = some u.counter → Gives (.replyStart dt) s u) ∧
        (s.link.silence ≠ some u.counter → Gives (.replyStart dt) s (u.withLink { s.link with
          reply := .sending r, sent := 0xA5 :: (covered ++ bigEndian 2 (crc16 covered).toNat), receiver := .off,
          silence := some u.counter }))) ∧
      ((∀ r, s.link.reply ≠ .queued r) → Gives (.replyStart dt) s u ∧ Gives (.replyDeadlineExpiry dt) s u) ∧
      (∀ r, s.link.reply = .queued r →
        (r.formed = u.counter → Gives (.replyDeadlineExpiry dt) s u) ∧
        (r.formed ≠ u.counter → r.restart = false →
          Gives (.replyDeadlineExpiry dt) s (faulted .replyAbandoned (withoutReply u))) ∧
        (r.formed ≠ u.counter → r.restart = true →
          Gives (.replyDeadlineExpiry dt) s (performStart (faulted .replyAbandoned (withoutReply u))))) ∧
      (∀ r, s.link.reply = .sending r →
        let done := u.withLink { s.link with reply := .none, sent := [], receiver := .ready, silence := some u.counter }
        (r.restart = false → Gives (.replyEnd dt) s done) ∧
        (r.restart = true → Gives (.replyEnd dt) s (performStart done))) ∧
      ((∀ r, s.link.reply ≠ .sending r) → Gives (.replyEnd dt) s u))

/-- The body lengths a type allows, in the order of the catalogue (R181, R197, R198); CSTG, 34, has groups instead. -/
def Sys2Proof.Stated.lengths (type : Nat) : List Nat :=
  (([[2], [1], [1, 2], [5], [4], [1, 2], [0], [1], [1], [1], [23], [1, 2], [19], [3], [0], [0], [0], [1], [1, 6], [5],
      [5]] ++
    [[1], [1], [1, 5], [2], [1], [0], [0], [7], [7], [5], [1, 2], [0, 2], [], [1], [3], [1], [1, 5], [4], [1], [0],
      [0]])[type - 1]?).getD []

/-- A CSTG body: a block number and one or more groups of field index, value length and value that fill it exactly
(R198). -/
def Sys2Proof.Stated.groupsFill (body : List Byte) : Prop :=
  ∃ (b : Byte) (gs : List FieldGroup), gs ≠ [] ∧ (∀ g ∈ gs, g.index < 65536 ∧ g.value.length < 256) ∧
    body = b :: (gs.map fun g => num 2 g.index ++ num 1 g.value.length ++ g.value).flatten

/-- Frames of the part's own that are not taken (R176, R179, R181, R198): a body length above 240 records LENGTH and loses
the place, a wrong CRC records CRC, and an addressed frame of an unknown type, or of a length its type does not allow for
each of the types 1 to 42, is refused. A frame that completes at the instant of an acceptance of the reset line is not taken
(R192; how that instant is known is log entry 43). The lengths of BSCH and MFGT, with presence characters, are log entry
27. -/
def Obligations.BadFramesOfItsOwn : Prop :=
  ∀ (dt : Nat) (c : Byte) (s : State), s.running = true →
    let u := (later dt s).withLink { s.link with silence := some (later dt s).counter }
    let ready := u.withLink { u.link with receiver := .ready }
    (∀ st ty tag1 tag2, s.link.receiver = .header [st, ty, tag1, tag2] →
      st.toNat = 0 ∨ (st.toNat = s.link.station ∧ st.toNat < 128) → 240 < c.toNat →
      Gives (.characterReceived dt c) s ((faulted .length u).withLink { (faulted .length u).link with
        receiver := .waiting })) ∧
    (∀ st ty tag (body : List Byte) x, s.link.receiver = .body st ty tag body.length (body ++ [x]) →
      let crc := (crc16 (num 1 st ++ num 1 ty ++ bigEndian 2 tag.toNat ++ num 1 body.length ++ body)).toNat
      let refused : Status → Prop := fun status =>
        Gives (.characterReceived dt c) s (replied { station := st, tag := tag } ty status [] ready)
      ([x, c] ≠ bigEndian 2 crc → Gives (.characterReceived dt c) s (faulted .crc ready)) ∧
      ([x, c] = bigEndian 2 crc → AtReset (later dt s) → Gives (.characterReceived dt c) s ready) ∧
      ([x, c] = bigEndian 2 crc → ¬AtReset (later dt s) → st ≠ 0 →
        (ty = 0 ∨ 42 < ty → refused .unknownType) ∧
        (1 ≤ ty → ty ≤ 42 → ty ≠ 34 → body.length ∉ lengths ty → refused .frameLength) ∧
        (ty = 34 → ¬groupsFill body → refused .frameLength)))

/-- A request body as it stands on the link: the type and the fields of R198; none for an event. The types are numbered
1 to 42 in the order of the catalogue. -/
def Sys2Proof.Stated.spelled : Instr → Option (Nat × List Byte)
  | .plsg _ _ run part => some (1, num 1 run ++ num 1 part)
  | .ftst _ _ run => some (2, num 1 run)
  | .prdg _ _ point part => some (3, (point.map (num 1)).getD [] ++ num 1 part)
  | .subs _ _ point value => some (4, num 1 point ++ signed 4 value)
  | .tset _ _ time => some (5, num 4 time)
  | .totg _ _ run part => some (6, (run.map (num 1)).getD [] ++ num 1 part)
  | .snap _ _ => some (7, [])
  | .snpg _ _ part => some (8, num 1 part)
  | .ropn _ _ run => some (9, num 1 run)
  | .rcls _ _ run => some (10, num 1 run)
  | .gset _ _ grade name alpha f rho => some (11, num 1 grade ++ text 12 name ++ num 4 alpha ++ num 4 f ++ num 2 rho)
  | .gget _ _ grade part => some (12, (grade.map (num 1)).getD [] ++ num 1 part)
  | .bsch _ _ id grade nomination destination =>
    some (13, num 3 id ++ num 1 grade ++ optional 5 (nomination.map (num 5)) ++ optional 8 (destination.map (text 8)))
  | .bdel _ _ id => some (14, num 3 id)
  | .bsta _ _ => some (15, [])
  | .bend _ _ => some (16, [])
  | .bcut _ _ => some (17, [])
  | .bget _ _ part => some (18, num 1 part)
  | .tget _ _ ticket part => some (19, (ticket.map (num 5)).getD [] ++ num 1 part)
  | .trel _ _ ticket => some (20, num 5 ticket)
  | .preq _ _ run rounds attempts limit => some (21, num 1 run ++ num 1 rounds ++ num 1 attempts ++ num 2 limit)
  | .pcan _ _ run => some (22, num 1 run)
  | .paln _ _ run => some (23, num 1 run)
  | .pget _ _ number part => some (24, (number.map (num 4)).getD [] ++ num 1 part)
  | .pacc _ _ run confirm => some (25, num 1 run ++ [if confirm then 1 else 0])
  | .prej _ _ run => some (26, num 1 run)
  | .pena _ _ => some (27, [])
  | .pdis _ _ => some (28, [])
  | .mfgt _ _ run rate part => some (29, num 1 run ++ optional 4 (rate.map (num 4)) ++ num 1 part)
  | .mfsp _ _ run rate mf => some (30, num 1 run ++ num 4 rate ++ num 2 mf)
  | .mfdp _ _ run rate => some (31, num 1 run ++ num 4 rate)
  | .cndg _ _ scope part => some (32, (scope.map (num 1)).getD [] ++ num 1 part)
  | .cndc _ _ target => some (33, (target.map fun x => num 1 x.1 ++ num 1 x.2).getD [])
  | .cstg _ _ block groups =>
    some (34, num 1 block ++ (groups.map fun g => num 2 g.index ++ num 1 g.value.length ++ g.value).flatten)
  | .ccom _ _ block => some (35, num 1 block)
  | .cget _ _ block copy part => some (36, num 1 block ++ num 1 copy ++ num 1 part)
  | .ktst _ _ block => some (37, num 1 block)
  | .aget _ _ number part => some (38, (number.map (num 4)).getD [] ++ num 1 part)
  | .atak _ _ number => some (39, num 4 number)
  | .stat _ _ part => some (40, num 1 part)
  | .rstr _ _ => some (41, [])
  | .rack _ _ => some (42, [])
  | _ => none

/-- The characters of a request frame: sync, station, type, tag, body length, body and CRC (R179, R197). -/
def Sys2Proof.Stated.frameOf (h : Header) (type : Nat) (body : List Byte) : List Byte :=
  let covered := num 1 h.station ++ num 1 type ++ bigEndian 2 h.tag.toNat ++ num 1 body.length ++ body
  (0xA5 :: covered) ++ bigEndian 2 (crc16 covered).toNat

/-- Every well-formed request, spelled on the link character by character as R197 and R198 lay it out and received from
READY by the part it is addressed to, or by every part where it is broadcast, leads to the state the request command
gives: no bit of a request is dropped. A request row stands for its whole frame (log entry 3). The confirm field of PACC as
1 for set and 0 for clear is log entry 20, and the presence characters of BSCH and MFGT are log entry 27. -/
def Obligations.SpelledFramesAreTheirRequests : Prop :=
  ∀ (i : Instr) (h : Header) (type : Nat) (body : List Byte) (s : State),
    wellFormed i = true → requestOf i = some (0, h) → spelled i = some (type, body) → Listening 0 s →
    h.station = 0 ∨ Own h s → s.link.receiver = .ready →
    ∃ t, Gives i s t ∧ Runs ((frameOf h type body).map fun c => .characterReceived 0 c) s t

/-! ### Curves -/

/-- The lookup of a curve (R128): 1.0000 for an empty one, a point's MF at its rate, linear interpolation between
neighbours, the end points' MF beyond the ends, always in 0.8000 to 1.2000; and when a lookup is extrapolated. -/
def Obligations.CurveLookup : Prop :=
  (∀ q, lookup [] q = 10000) ∧
  (∀ p q, lookup [p] q = p.mf) ∧
  ∀ (cv : List CurvePoint) (q : Nat), curveForm cv = true →
    (∀ p ∈ cv, p.rate = q → lookup cv q = p.mf) ∧
    (∀ p ∈ cv.head?, q < p.rate → lookup cv q = p.mf) ∧
    (∀ p ∈ cv.getLast?, p.rate < q → lookup cv q = p.mf) ∧
    (∀ (k : Nat) (p1 p2 : CurvePoint), cv[k]? = some p1 → cv[k + 1]? = some p2 → p1.rate < q → q < p2.rate →
      (lookup cv q : Int) = roundHalf ((p1.mf : Rat) +
        ((q : Rat) - (p1.rate : Rat)) / ((p2.rate : Rat) - (p1.rate : Rat)) * ((p2.mf : Rat) - (p1.mf : Rat)))) ∧
    (8000 ≤ lookup cv q ∧ lookup cv q ≤ 12000) ∧
    (extrapolated cv q = true ↔
      0 < q ∧ (cv = [] ∨ (∃ p ∈ cv.head?, q < p.rate) ∨ (∃ p ∈ cv.getLast?, p.rate < q)))

/-- Bands of rates (R127): the relation is symmetric, successive points of a curve are never in each other's band, at most
two points lie in the band of any rate and then on its two sides, and 0.0 has only itself in its band. -/
def Obligations.BandsOfRates : Prop :=
  (∀ x y : Nat, inBand x y = true ↔ (if x ≤ y then (y - x) * 100 ≤ 5 * x else (x - y) * 100 ≤ 5 * y)) ∧
  (∀ x y : Nat, inBand x y = inBand y x) ∧
  (∀ x : Nat, inBand x 0 = true ↔ x = 0) ∧
  ∀ (cv : List CurvePoint) (q : Nat), curveForm cv = true →
    (∀ (k : Nat) (p1 p2 : CurvePoint), cv[k]? = some p1 → cv[k + 1]? = some p2 → inBand p1.rate p2.rate = false) ∧
    (cv.filter fun p => inBand p.rate q).length ≤ 2 ∧
    (∀ p1 p2, (cv.filter fun p => inBand p.rate q) = [p1, p2] → p1.rate < q ∧ q < p2.rate)

/-- Placing an offered point (R132) keeps the form of a curve (R126), puts the point in, and is refused exactly when eight
points leave no place and none is near enough to replace. One point in the band is replaced; of two, which stand in rate
order, the nearer is replaced, the lower where both are equally near, and the other is removed. -/
def Obligations.PlacingKeepsTheForm : Prop :=
  ∀ (c : List CurvePoint) (x : CurvePoint), curveForm c = true → 8000 ≤ x.mf → x.mf ≤ 12000 →
    let away : CurvePoint → Nat := fun p => if p.rate ≤ x.rate then x.rate - p.rate else p.rate - x.rate
    (place c x = none ↔ c.length = 8 ∧ ∀ p ∈ c, inBand p.rate x.rate = false) ∧
    ∀ pl, place c x = some pl →
      curveForm pl.curve = true ∧ x ∈ pl.curve ∧
      (∀ p ∈ pl.curve, p = x ∨ (p ∈ c ∧ inBand p.rate x.rate = false)) ∧
      (∀ p ∈ c, inBand p.rate x.rate = false → p ∈ pl.curve) ∧
      (∀ p ∈ c, inBand p.rate x.rate = true → pl.replaced = some p ∨ pl.removed = some p) ∧
      (∀ p, c.filter (fun p => inBand p.rate x.rate) = [p] → pl.replaced = some p ∧ pl.removed = none) ∧
      (∀ p1 p2, c.filter (fun p => inBand p.rate x.rate) = [p1, p2] →
        if away p1 ≤ away p2 then pl.replaced = some p1 ∧ pl.removed = some p2
        else pl.replaced = some p2 ∧ pl.removed = some p1) ∧
      pl.curve.length + pl.replaced.toList.length + pl.removed.toList.length = c.length + 1

/-! ### Invariants -/

/-- The invariants of the part, together. -/
def Sys2Proof.Stated.AllInvariants (s : State) : Prop :=
  AuditInv s ∧ TicketInv s ∧ BatchInv s ∧ CurveInv s ∧ PermitInv s ∧ FlagInv s ∧ ProverInv s ∧ KindsInv s ∧
  GradesInv s ∧ ResidueInv s ∧ LinkInv s ∧ PulseInv s

/-- The part after reset satisfies every invariant. -/
def Obligations.InvariantsAtReset : Prop := AllInvariants State.reset

/-- The audit trail keeps its capacity, the place kept for RACK, and consecutive sequence numbers (R167, R169). -/
def Obligations.AuditTrailKept : Prop := Kept AuditInv

/-- The ticket store keeps its capacity and consecutive ticket numbers (R78, R85, R86). -/
def Obligations.TicketStoreKept : Prop := Kept TicketInv

/-- The batch queue keeps its capacity and its ids distinct, and a pending change what it needs (R70, R75). -/
def Obligations.BatchQueueKept : Prop := Kept BatchInv

/-- Every curve keeps its form, and every pending result lies in the range of a curve point (R115, R126). -/
def Obligations.CurvesKept : Prop := Kept CurveInv

/-- The permit line stays driven exactly when a TRIP-class condition is active or the hold timer runs (R148), and a run that
is not SOUND has its period in progress marked (R55). -/
def Obligations.PermitAndFlagKept : Prop := Kept PermitInv ∧ Kept FlagInv

/-- The prover holds one record at most, and each run one request, record or result (R99, R101, R102, R122). -/
def Obligations.ProverKept : Prop := Kept ProverInv

/-- The blocks keep agreeing on the kinds of the points they name (R160), and a grade that is named stays HOLDING (R67). -/
def Obligations.BlocksAndGradesKept : Prop := Kept KindsInv ∧ Kept GradesInv

/-- Every residue stays at least zero and less than one unit (R53). -/
def Obligations.ResiduesKept : Prop := Kept ResidueInv

/-- The receiver is OFF exactly while a reply is sent (R175, R182), and tallies and noise counts stay in range (R1, R8). -/
def Obligations.LinkAndTalliesKept : Prop := Kept LinkInv ∧ Kept PulseInv
end

