-- ==== Sys2Proof/Laws/State.lean ====
section
/-! SUPPORT. One lemma per field per update of State, true by rfl: no later proof unfolds a record update. -/

namespace Sys2Proof.Machine

@[simp] theorem State.withLines_lines (s : State) (x : Lines) : (s.withLines x).lines = x := rfl
@[simp] theorem State.withLines_supply (s : State) (x : Lines) : (s.withLines x).supply = s.supply := rfl
@[simp] theorem State.withLines_clock (s : State) (x : Lines) : (s.withLines x).clock = s.clock := rfl
@[simp] theorem State.withLines_counter (s : State) (x : Lines) : (s.withLines x).counter = s.counter := rfl
@[simp] theorem State.withLines_store (s : State) (x : Lines) : (s.withLines x).store = s.store := rfl
@[simp] theorem State.withLines_pulse (s : State) (x : Lines) : (s.withLines x).pulse = s.pulse := rfl
@[simp] theorem State.withLines_scanner (s : State) (x : Lines) : (s.withLines x).scanner = s.scanner := rfl
@[simp] theorem State.withLines_totalizer (s : State) (x : Lines) : (s.withLines x).totalizer = s.totalizer := rfl
@[simp] theorem State.withLines_change (s : State) (x : Lines) : (s.withLines x).change = s.change := rfl
@[simp] theorem State.withLines_requests (s : State) (x : Lines) : (s.withLines x).requests = s.requests := rfl
@[simp] theorem State.withLines_work (s : State) (x : Lines) : (s.withLines x).work = s.work := rfl
@[simp] theorem State.withLines_monitor (s : State) (x : Lines) : (s.withLines x).monitor = s.monitor := rfl
@[simp] theorem State.withLines_link (s : State) (x : Lines) : (s.withLines x).link = s.link := rfl
@[simp] theorem State.withLines_pending (s : State) (x : Lines) : (s.withLines x).pending = s.pending := rfl

@[simp] theorem State.withSupply_lines (s : State) (x : Supply) : (s.withSupply x).lines = s.lines := rfl
@[simp] theorem State.withSupply_supply (s : State) (x : Supply) : (s.withSupply x).supply = x := rfl
@[simp] theorem State.withSupply_clock (s : State) (x : Supply) : (s.withSupply x).clock = s.clock := rfl
@[simp] theorem State.withSupply_counter (s : State) (x : Supply) : (s.withSupply x).counter = s.counter := rfl
@[simp] theorem State.withSupply_store (s : State) (x : Supply) : (s.withSupply x).store = s.store := rfl
@[simp] theorem State.withSupply_pulse (s : State) (x : Supply) : (s.withSupply x).pulse = s.pulse := rfl
@[simp] theorem State.withSupply_scanner (s : State) (x : Supply) : (s.withSupply x).scanner = s.scanner := rfl
@[simp] theorem State.withSupply_totalizer (s : State) (x : Supply) : (s.withSupply x).totalizer = s.totalizer := rfl
@[simp] theorem State.withSupply_change (s : State) (x : Supply) : (s.withSupply x).change = s.change := rfl
@[simp] theorem State.withSupply_requests (s : State) (x : Supply) : (s.withSupply x).requests = s.requests := rfl
@[simp] theorem State.withSupply_work (s : State) (x : Supply) : (s.withSupply x).work = s.work := rfl
@[simp] theorem State.withSupply_monitor (s : State) (x : Supply) : (s.withSupply x).monitor = s.monitor := rfl
@[simp] theorem State.withSupply_link (s : State) (x : Supply) : (s.withSupply x).link = s.link := rfl
@[simp] theorem State.withSupply_pending (s : State) (x : Supply) : (s.withSupply x).pending = s.pending := rfl

@[simp] theorem State.withClock_lines (s : State) (x : Nat) : (s.withClock x).lines = s.lines := rfl
@[simp] theorem State.withClock_supply (s : State) (x : Nat) : (s.withClock x).supply = s.supply := rfl
@[simp] theorem State.withClock_clock (s : State) (x : Nat) : (s.withClock x).clock = x := rfl
@[simp] theorem State.withClock_counter (s : State) (x : Nat) : (s.withClock x).counter = s.counter := rfl
@[simp] theorem State.withClock_store (s : State) (x : Nat) : (s.withClock x).store = s.store := rfl
@[simp] theorem State.withClock_pulse (s : State) (x : Nat) : (s.withClock x).pulse = s.pulse := rfl
@[simp] theorem State.withClock_scanner (s : State) (x : Nat) : (s.withClock x).scanner = s.scanner := rfl
@[simp] theorem State.withClock_totalizer (s : State) (x : Nat) : (s.withClock x).totalizer = s.totalizer := rfl
@[simp] theorem State.withClock_change (s : State) (x : Nat) : (s.withClock x).change = s.change := rfl
@[simp] theorem State.withClock_requests (s : State) (x : Nat) : (s.withClock x).requests = s.requests := rfl
@[simp] theorem State.withClock_work (s : State) (x : Nat) : (s.withClock x).work = s.work := rfl
@[simp] theorem State.withClock_monitor (s : State) (x : Nat) : (s.withClock x).monitor = s.monitor := rfl
@[simp] theorem State.withClock_link (s : State) (x : Nat) : (s.withClock x).link = s.link := rfl
@[simp] theorem State.withClock_pending (s : State) (x : Nat) : (s.withClock x).pending = s.pending := rfl

@[simp] theorem State.withCounter_lines (s : State) (x : Stamp) : (s.withCounter x).lines = s.lines := rfl
@[simp] theorem State.withCounter_supply (s : State) (x : Stamp) : (s.withCounter x).supply = s.supply := rfl
@[simp] theorem State.withCounter_clock (s : State) (x : Stamp) : (s.withCounter x).clock = s.clock := rfl
@[simp] theorem State.withCounter_counter (s : State) (x : Stamp) : (s.withCounter x).counter = x := rfl
@[simp] theorem State.withCounter_store (s : State) (x : Stamp) : (s.withCounter x).store = s.store := rfl
@[simp] theorem State.withCounter_pulse (s : State) (x : Stamp) : (s.withCounter x).pulse = s.pulse := rfl
@[simp] theorem State.withCounter_scanner (s : State) (x : Stamp) : (s.withCounter x).scanner = s.scanner := rfl
@[simp] theorem State.withCounter_totalizer (s : State) (x : Stamp) : (s.withCounter x).totalizer = s.totalizer := rfl
@[simp] theorem State.withCounter_change (s : State) (x : Stamp) : (s.withCounter x).change = s.change := rfl
@[simp] theorem State.withCounter_requests (s : State) (x : Stamp) : (s.withCounter x).requests = s.requests := rfl
@[simp] theorem State.withCounter_work (s : State) (x : Stamp) : (s.withCounter x).work = s.work := rfl
@[simp] theorem State.withCounter_monitor (s : State) (x : Stamp) : (s.withCounter x).monitor = s.monitor := rfl
@[simp] theorem State.withCounter_link (s : State) (x : Stamp) : (s.withCounter x).link = s.link := rfl
@[simp] theorem State.withCounter_pending (s : State) (x : Stamp) : (s.withCounter x).pending = s.pending := rfl

@[simp] theorem State.withStore_lines (s : State) (x : Store) : (s.withStore x).lines = s.lines := rfl
@[simp] theorem State.withStore_supply (s : State) (x : Store) : (s.withStore x).supply = s.supply := rfl
@[simp] theorem State.withStore_clock (s : State) (x : Store) : (s.withStore x).clock = s.clock := rfl
@[simp] theorem State.withStore_counter (s : State) (x : Store) : (s.withStore x).counter = s.counter := rfl
@[simp] theorem State.withStore_store (s : State) (x : Store) : (s.withStore x).store = x := rfl
@[simp] theorem State.withStore_pulse (s : State) (x : Store) : (s.withStore x).pulse = s.pulse := rfl
@[simp] theorem State.withStore_scanner (s : State) (x : Store) : (s.withStore x).scanner = s.scanner := rfl
@[simp] theorem State.withStore_totalizer (s : State) (x : Store) : (s.withStore x).totalizer = s.totalizer := rfl
@[simp] theorem State.withStore_change (s : State) (x : Store) : (s.withStore x).change = s.change := rfl
@[simp] theorem State.withStore_requests (s : State) (x : Store) : (s.withStore x).requests = s.requests := rfl
@[simp] theorem State.withStore_work (s : State) (x : Store) : (s.withStore x).work = s.work := rfl
@[simp] theorem State.withStore_monitor (s : State) (x : Store) : (s.withStore x).monitor = s.monitor := rfl
@[simp] theorem State.withStore_link (s : State) (x : Store) : (s.withStore x).link = s.link := rfl
@[simp] theorem State.withStore_pending (s : State) (x : Store) : (s.withStore x).pending = s.pending := rfl

@[simp] theorem State.withPulse_lines (s : State) (x : PulseUnit) : (s.withPulse x).lines = s.lines := rfl
@[simp] theorem State.withPulse_supply (s : State) (x : PulseUnit) : (s.withPulse x).supply = s.supply := rfl
@[simp] theorem State.withPulse_clock (s : State) (x : PulseUnit) : (s.withPulse x).clock = s.clock := rfl
@[simp] theorem State.withPulse_counter (s : State) (x : PulseUnit) : (s.withPulse x).counter = s.counter := rfl
@[simp] theorem State.withPulse_store (s : State) (x : PulseUnit) : (s.withPulse x).store = s.store := rfl
@[simp] theorem State.withPulse_pulse (s : State) (x : PulseUnit) : (s.withPulse x).pulse = x := rfl
@[simp] theorem State.withPulse_scanner (s : State) (x : PulseUnit) : (s.withPulse x).scanner = s.scanner := rfl
@[simp] theorem State.withPulse_totalizer (s : State) (x : PulseUnit) : (s.withPulse x).totalizer = s.totalizer := rfl
@[simp] theorem State.withPulse_change (s : State) (x : PulseUnit) : (s.withPulse x).change = s.change := rfl
@[simp] theorem State.withPulse_requests (s : State) (x : PulseUnit) : (s.withPulse x).requests = s.requests := rfl
@[simp] theorem State.withPulse_work (s : State) (x : PulseUnit) : (s.withPulse x).work = s.work := rfl
@[simp] theorem State.withPulse_monitor (s : State) (x : PulseUnit) : (s.withPulse x).monitor = s.monitor := rfl
@[simp] theorem State.withPulse_link (s : State) (x : PulseUnit) : (s.withPulse x).link = s.link := rfl
@[simp] theorem State.withPulse_pending (s : State) (x : PulseUnit) : (s.withPulse x).pending = s.pending := rfl

@[simp] theorem State.withScanner_lines (s : State) (x : Scanner) : (s.withScanner x).lines = s.lines := rfl
@[simp] theorem State.withScanner_supply (s : State) (x : Scanner) : (s.withScanner x).supply = s.supply := rfl
@[simp] theorem State.withScanner_clock (s : State) (x : Scanner) : (s.withScanner x).clock = s.clock := rfl
@[simp] theorem State.withScanner_counter (s : State) (x : Scanner) : (s.withScanner x).counter = s.counter := rfl
@[simp] theorem State.withScanner_store (s : State) (x : Scanner) : (s.withScanner x).store = s.store := rfl
@[simp] theorem State.withScanner_pulse (s : State) (x : Scanner) : (s.withScanner x).pulse = s.pulse := rfl
@[simp] theorem State.withScanner_scanner (s : State) (x : Scanner) : (s.withScanner x).scanner = x := rfl
@[simp] theorem State.withScanner_totalizer (s : State) (x : Scanner) : (s.withScanner x).totalizer = s.totalizer := rfl
@[simp] theorem State.withScanner_change (s : State) (x : Scanner) : (s.withScanner x).change = s.change := rfl
@[simp] theorem State.withScanner_requests (s : State) (x : Scanner) : (s.withScanner x).requests = s.requests := rfl
@[simp] theorem State.withScanner_work (s : State) (x : Scanner) : (s.withScanner x).work = s.work := rfl
@[simp] theorem State.withScanner_monitor (s : State) (x : Scanner) : (s.withScanner x).monitor = s.monitor := rfl
@[simp] theorem State.withScanner_link (s : State) (x : Scanner) : (s.withScanner x).link = s.link := rfl
@[simp] theorem State.withScanner_pending (s : State) (x : Scanner) : (s.withScanner x).pending = s.pending := rfl

@[simp] theorem State.withTotalizer_lines (s : State) (x : Totalizer) : (s.withTotalizer x).lines = s.lines := rfl
@[simp] theorem State.withTotalizer_supply (s : State) (x : Totalizer) : (s.withTotalizer x).supply = s.supply := rfl
@[simp] theorem State.withTotalizer_clock (s : State) (x : Totalizer) : (s.withTotalizer x).clock = s.clock := rfl
@[simp] theorem State.withTotalizer_counter (s : State) (x : Totalizer) : (s.withTotalizer x).counter = s.counter := rfl
@[simp] theorem State.withTotalizer_store (s : State) (x : Totalizer) : (s.withTotalizer x).store = s.store := rfl
@[simp] theorem State.withTotalizer_pulse (s : State) (x : Totalizer) : (s.withTotalizer x).pulse = s.pulse := rfl
@[simp] theorem State.withTotalizer_scanner (s : State) (x : Totalizer) : (s.withTotalizer x).scanner = s.scanner := rfl
@[simp] theorem State.withTotalizer_totalizer (s : State) (x : Totalizer) : (s.withTotalizer x).totalizer = x := rfl
@[simp] theorem State.withTotalizer_change (s : State) (x : Totalizer) : (s.withTotalizer x).change = s.change := rfl
@[simp] theorem State.withTotalizer_requests (s : State) (x : Totalizer) : (s.withTotalizer x).requests = s.requests := rfl
@[simp] theorem State.withTotalizer_work (s : State) (x : Totalizer) : (s.withTotalizer x).work = s.work := rfl
@[simp] theorem State.withTotalizer_monitor (s : State) (x : Totalizer) : (s.withTotalizer x).monitor = s.monitor := rfl
@[simp] theorem State.withTotalizer_link (s : State) (x : Totalizer) : (s.withTotalizer x).link = s.link := rfl
@[simp] theorem State.withTotalizer_pending (s : State) (x : Totalizer) : (s.withTotalizer x).pending = s.pending := rfl

@[simp] theorem State.withChange_lines (s : State) (x : BatchChange) : (s.withChange x).lines = s.lines := rfl
@[simp] theorem State.withChange_supply (s : State) (x : BatchChange) : (s.withChange x).supply = s.supply := rfl
@[simp] theorem State.withChange_clock (s : State) (x : BatchChange) : (s.withChange x).clock = s.clock := rfl
@[simp] theorem State.withChange_counter (s : State) (x : BatchChange) : (s.withChange x).counter = s.counter := rfl
@[simp] theorem State.withChange_store (s : State) (x : BatchChange) : (s.withChange x).store = s.store := rfl
@[simp] theorem State.withChange_pulse (s : State) (x : BatchChange) : (s.withChange x).pulse = s.pulse := rfl
@[simp] theorem State.withChange_scanner (s : State) (x : BatchChange) : (s.withChange x).scanner = s.scanner := rfl
@[simp] theorem State.withChange_totalizer (s : State) (x : BatchChange) : (s.withChange x).totalizer = s.totalizer := rfl
@[simp] theorem State.withChange_change (s : State) (x : BatchChange) : (s.withChange x).change = x := rfl
@[simp] theorem State.withChange_requests (s : State) (x : BatchChange) : (s.withChange x).requests = s.requests := rfl
@[simp] theorem State.withChange_work (s : State) (x : BatchChange) : (s.withChange x).work = s.work := rfl
@[simp] theorem State.withChange_monitor (s : State) (x : BatchChange) : (s.withChange x).monitor = s.monitor := rfl
@[simp] theorem State.withChange_link (s : State) (x : BatchChange) : (s.withChange x).link = s.link := rfl
@[simp] theorem State.withChange_pending (s : State) (x : BatchChange) : (s.withChange x).pending = s.pending := rfl

@[simp] theorem State.withRequests_lines (s : State) (x : List ProvingRequest) : (s.withRequests x).lines = s.lines := rfl
@[simp] theorem State.withRequests_supply (s : State) (x : List ProvingRequest) : (s.withRequests x).supply = s.supply := rfl
@[simp] theorem State.withRequests_clock (s : State) (x : List ProvingRequest) : (s.withRequests x).clock = s.clock := rfl
@[simp] theorem State.withRequests_counter (s : State) (x : List ProvingRequest) : (s.withRequests x).counter = s.counter := rfl
@[simp] theorem State.withRequests_store (s : State) (x : List ProvingRequest) : (s.withRequests x).store = s.store := rfl
@[simp] theorem State.withRequests_pulse (s : State) (x : List ProvingRequest) : (s.withRequests x).pulse = s.pulse := rfl
@[simp] theorem State.withRequests_scanner (s : State) (x : List ProvingRequest) : (s.withRequests x).scanner = s.scanner := rfl
@[simp] theorem State.withRequests_totalizer (s : State) (x : List ProvingRequest) : (s.withRequests x).totalizer = s.totalizer := rfl
@[simp] theorem State.withRequests_change (s : State) (x : List ProvingRequest) : (s.withRequests x).change = s.change := rfl
@[simp] theorem State.withRequests_requests (s : State) (x : List ProvingRequest) : (s.withRequests x).requests = x := rfl
@[simp] theorem State.withRequests_work (s : State) (x : List ProvingRequest) : (s.withRequests x).work = s.work := rfl
@[simp] theorem State.withRequests_monitor (s : State) (x : List ProvingRequest) : (s.withRequests x).monitor = s.monitor := rfl
@[simp] theorem State.withRequests_link (s : State) (x : List ProvingRequest) : (s.withRequests x).link = s.link := rfl
@[simp] theorem State.withRequests_pending (s : State) (x : List ProvingRequest) : (s.withRequests x).pending = s.pending := rfl

@[simp] theorem State.withWork_lines (s : State) (x : ConfigWork) : (s.withWork x).lines = s.lines := rfl
@[simp] theorem State.withWork_supply (s : State) (x : ConfigWork) : (s.withWork x).supply = s.supply := rfl
@[simp] theorem State.withWork_clock (s : State) (x : ConfigWork) : (s.withWork x).clock = s.clock := rfl
@[simp] theorem State.withWork_counter (s : State) (x : ConfigWork) : (s.withWork x).counter = s.counter := rfl
@[simp] theorem State.withWork_store (s : State) (x : ConfigWork) : (s.withWork x).store = s.store := rfl
@[simp] theorem State.withWork_pulse (s : State) (x : ConfigWork) : (s.withWork x).pulse = s.pulse := rfl
@[simp] theorem State.withWork_scanner (s : State) (x : ConfigWork) : (s.withWork x).scanner = s.scanner := rfl
@[simp] theorem State.withWork_totalizer (s : State) (x : ConfigWork) : (s.withWork x).totalizer = s.totalizer := rfl
@[simp] theorem State.withWork_change (s : State) (x : ConfigWork) : (s.withWork x).change = s.change := rfl
@[simp] theorem State.withWork_requests (s : State) (x : ConfigWork) : (s.withWork x).requests = s.requests := rfl
@[simp] theorem State.withWork_work (s : State) (x : ConfigWork) : (s.withWork x).work = x := rfl
@[simp] theorem State.withWork_monitor (s : State) (x : ConfigWork) : (s.withWork x).monitor = s.monitor := rfl
@[simp] theorem State.withWork_link (s : State) (x : ConfigWork) : (s.withWork x).link = s.link := rfl
@[simp] theorem State.withWork_pending (s : State) (x : ConfigWork) : (s.withWork x).pending = s.pending := rfl

@[simp] theorem State.withMonitor_lines (s : State) (x : Monitor) : (s.withMonitor x).lines = s.lines := rfl
@[simp] theorem State.withMonitor_supply (s : State) (x : Monitor) : (s.withMonitor x).supply = s.supply := rfl
@[simp] theorem State.withMonitor_clock (s : State) (x : Monitor) : (s.withMonitor x).clock = s.clock := rfl
@[simp] theorem State.withMonitor_counter (s : State) (x : Monitor) : (s.withMonitor x).counter = s.counter := rfl
@[simp] theorem State.withMonitor_store (s : State) (x : Monitor) : (s.withMonitor x).store = s.store := rfl
@[simp] theorem State.withMonitor_pulse (s : State) (x : Monitor) : (s.withMonitor x).pulse = s.pulse := rfl
@[simp] theorem State.withMonitor_scanner (s : State) (x : Monitor) : (s.withMonitor x).scanner = s.scanner := rfl
@[simp] theorem State.withMonitor_totalizer (s : State) (x : Monitor) : (s.withMonitor x).totalizer = s.totalizer := rfl
@[simp] theorem State.withMonitor_change (s : State) (x : Monitor) : (s.withMonitor x).change = s.change := rfl
@[simp] theorem State.withMonitor_requests (s : State) (x : Monitor) : (s.withMonitor x).requests = s.requests := rfl
@[simp] theorem State.withMonitor_work (s : State) (x : Monitor) : (s.withMonitor x).work = s.work := rfl
@[simp] theorem State.withMonitor_monitor (s : State) (x : Monitor) : (s.withMonitor x).monitor = x := rfl
@[simp] theorem State.withMonitor_link (s : State) (x : Monitor) : (s.withMonitor x).link = s.link := rfl
@[simp] theorem State.withMonitor_pending (s : State) (x : Monitor) : (s.withMonitor x).pending = s.pending := rfl

@[simp] theorem State.withLink_lines (s : State) (x : Link) : (s.withLink x).lines = s.lines := rfl
@[simp] theorem State.withLink_supply (s : State) (x : Link) : (s.withLink x).supply = s.supply := rfl
@[simp] theorem State.withLink_clock (s : State) (x : Link) : (s.withLink x).clock = s.clock := rfl
@[simp] theorem State.withLink_counter (s : State) (x : Link) : (s.withLink x).counter = s.counter := rfl
@[simp] theorem State.withLink_store (s : State) (x : Link) : (s.withLink x).store = s.store := rfl
@[simp] theorem State.withLink_pulse (s : State) (x : Link) : (s.withLink x).pulse = s.pulse := rfl
@[simp] theorem State.withLink_scanner (s : State) (x : Link) : (s.withLink x).scanner = s.scanner := rfl
@[simp] theorem State.withLink_totalizer (s : State) (x : Link) : (s.withLink x).totalizer = s.totalizer := rfl
@[simp] theorem State.withLink_change (s : State) (x : Link) : (s.withLink x).change = s.change := rfl
@[simp] theorem State.withLink_requests (s : State) (x : Link) : (s.withLink x).requests = s.requests := rfl
@[simp] theorem State.withLink_work (s : State) (x : Link) : (s.withLink x).work = s.work := rfl
@[simp] theorem State.withLink_monitor (s : State) (x : Link) : (s.withLink x).monitor = s.monitor := rfl
@[simp] theorem State.withLink_link (s : State) (x : Link) : (s.withLink x).link = x := rfl
@[simp] theorem State.withLink_pending (s : State) (x : Link) : (s.withLink x).pending = s.pending := rfl

@[simp] theorem State.withPending_lines (s : State) (x : List Instr) : (s.withPending x).lines = s.lines := rfl
@[simp] theorem State.withPending_supply (s : State) (x : List Instr) : (s.withPending x).supply = s.supply := rfl
@[simp] theorem State.withPending_clock (s : State) (x : List Instr) : (s.withPending x).clock = s.clock := rfl
@[simp] theorem State.withPending_counter (s : State) (x : List Instr) : (s.withPending x).counter = s.counter := rfl
@[simp] theorem State.withPending_store (s : State) (x : List Instr) : (s.withPending x).store = s.store := rfl
@[simp] theorem State.withPending_pulse (s : State) (x : List Instr) : (s.withPending x).pulse = s.pulse := rfl
@[simp] theorem State.withPending_scanner (s : State) (x : List Instr) : (s.withPending x).scanner = s.scanner := rfl
@[simp] theorem State.withPending_totalizer (s : State) (x : List Instr) : (s.withPending x).totalizer = s.totalizer := rfl
@[simp] theorem State.withPending_change (s : State) (x : List Instr) : (s.withPending x).change = s.change := rfl
@[simp] theorem State.withPending_requests (s : State) (x : List Instr) : (s.withPending x).requests = s.requests := rfl
@[simp] theorem State.withPending_work (s : State) (x : List Instr) : (s.withPending x).work = s.work := rfl
@[simp] theorem State.withPending_monitor (s : State) (x : List Instr) : (s.withPending x).monitor = s.monitor := rfl
@[simp] theorem State.withPending_link (s : State) (x : List Instr) : (s.withPending x).link = s.link := rfl
@[simp] theorem State.withPending_pending (s : State) (x : List Instr) : (s.withPending x).pending = x := rfl

end Sys2Proof.Machine
end

