-- ==== Sys2Proof/Laws/Monitor.lean ====
section
/-! SUPPORT. What a judgement can change, said once: Judged s t holds of the state t any number of judgements leaves from s. It is reflexive and transitive, and each of its consequences is one lemma. -/

namespace Sys2Proof.Laws

open Sys2Proof Sys2Proof.Machine

/-- t is s with its conditions and permit line, its marks of the period in progress, and its record and history of
provings changed, and nothing else. -/
def Judged (s t : State) : Prop :=
  t = ((s.withMonitor t.monitor).withTotalizer { s.totalizer with unsound := t.totalizer.unsound }).withStore
    { s.store with record := t.store.record, history := t.store.history }

theorem Judged.refl (s : State) : Judged s s := rfl

theorem Judged.trans {s t u : State} (h : Judged s t) (g : Judged t u) : Judged s u := by
  unfold Judged at h g ⊢
  rw [g, h]
  rfl

/-! ### Consequences -/

theorem Judged.lines {s t : State} (h : Judged s t) : t.lines = s.lines := by rw [h]; rfl
theorem Judged.supply {s t : State} (h : Judged s t) : t.supply = s.supply := by rw [h]; rfl
theorem Judged.clock {s t : State} (h : Judged s t) : t.clock = s.clock := by rw [h]; rfl
theorem Judged.counter {s t : State} (h : Judged s t) : t.counter = s.counter := by rw [h]; rfl
theorem Judged.pulse {s t : State} (h : Judged s t) : t.pulse = s.pulse := by rw [h]; rfl
theorem Judged.scanner {s t : State} (h : Judged s t) : t.scanner = s.scanner := by rw [h]; rfl
theorem Judged.change {s t : State} (h : Judged s t) : t.change = s.change := by rw [h]; rfl
theorem Judged.requests {s t : State} (h : Judged s t) : t.requests = s.requests := by rw [h]; rfl
theorem Judged.work {s t : State} (h : Judged s t) : t.work = s.work := by rw [h]; rfl
theorem Judged.link {s t : State} (h : Judged s t) : t.link = s.link := by rw [h]; rfl
theorem Judged.pending {s t : State} (h : Judged s t) : t.pending = s.pending := by rw [h]; rfl

/-- The retention store but for the record holding the prover and the history. -/
theorem Judged.store {s t : State} (h : Judged s t) :
    t.store = { s.store with record := t.store.record, history := t.store.history } := by
  have e : t.store = (((s.withMonitor t.monitor).withTotalizer
      { s.totalizer with unsound := t.totalizer.unsound }).withStore
      { s.store with record := t.store.record, history := t.store.history }).store := congrArg State.store h
  exact e

/-- The totalizer block but for the marks of the period in progress. -/
theorem Judged.totalizer {s t : State} (h : Judged s t) :
    t.totalizer = { s.totalizer with unsound := t.totalizer.unsound } := by
  have e : t.totalizer = (((s.withMonitor t.monitor).withTotalizer
      { s.totalizer with unsound := t.totalizer.unsound }).withStore
      { s.store with record := t.store.record, history := t.store.history }).totalizer := congrArg State.totalizer h
  exact e

theorem Judged.running {s t : State} (h : Judged s t) : t.running = s.running := by
  unfold State.running; rw [h.supply]

theorem Judged.stationBlock {s t : State} (h : Judged s t) : t.stationBlock = s.stationBlock := by
  unfold State.stationBlock; rw [h.store]

theorem Judged.audit {s t : State} (h : Judged s t) : t.store.audit = s.store.audit := by rw [h.store]
theorem Judged.auditCounter {s t : State} (h : Judged s t) : t.store.auditCounter = s.store.auditCounter := by
  rw [h.store]
theorem Judged.runs {s t : State} (h : Judged s t) : t.store.runs = s.store.runs := by rw [h.store]
theorem Judged.queue {s t : State} (h : Judged s t) : t.store.queue = s.store.queue := by rw [h.store]
theorem Judged.active {s t : State} (h : Judged s t) : t.store.active = s.store.active := by rw [h.store]
theorem Judged.slots {s t : State} (h : Judged s t) : t.store.slots = s.store.slots := by rw [h.store]
theorem Judged.held {s t : State} (h : Judged s t) : t.store.held = s.store.held := by rw [h.store]
theorem Judged.ticketCounter {s t : State} (h : Judged s t) : t.store.ticketCounter = s.store.ticketCounter := by
  rw [h.store]
theorem Judged.curves {s t : State} (h : Judged s t) : t.store.curves = s.store.curves := by rw [h.store]
theorem Judged.pendingCurves {s t : State} (h : Judged s t) : t.store.pendingCurves = s.store.pendingCurves := by
  rw [h.store]
theorem Judged.results {s t : State} (h : Judged s t) : t.store.results = s.store.results := by rw [h.store]
theorem Judged.grades {s t : State} (h : Judged s t) : t.store.grades = s.store.grades := by rw [h.store]
theorem Judged.provingCounter {s t : State} (h : Judged s t) :
    t.store.provingCounter = s.store.provingCounter := by rw [h.store]

/-! ### The operations -/

theorem judged_withMonitor (s : State) (x : Monitor) : Judged s (s.withMonitor x) := rfl

theorem judged_setRecord (s : State) (x : Option ProvingRecord) : Judged s (s.setRecord x) := rfl

theorem judged_markUnsound (r : Run) (s : State) : Judged s (markUnsound r s) := rfl

theorem judged_endRecord (st : RecordState) (c : EndCause) (s : State) : Judged s (endRecord st c s) := by
  unfold endRecord
  split <;> rfl

theorem judged_abortRecord (c : EndCause) (s : State) : Judged s (abortRecord c s) := judged_endRecord _ _ _

theorem judged_proverFollows (r : Run) (x : Integrity) (s : State) : Judged s (proverFollows r x s) := by
  unfold proverFollows
  split
  · exact Judged.refl s
  · split
    · split
      · exact judged_abortRecord _ _
      · exact judged_setRecord _ _
      · exact Judged.refl s
    · exact Judged.refl s

theorem judged_handRun (old : PerRun Integrity) (s : State) (r : Run) : Judged s (handRun old s r) := by
  unfold handRun
  simp only
  split
  · exact Judged.refl s
  · split
    · exact judged_proverFollows _ _ _
    · exact (judged_markUnsound _ _).trans (judged_proverFollows _ _ _)

theorem judged_foldl {α : Type} (f : State → α → State) (h : ∀ s x, Judged s (f s x)) (l : List α) (s : State) :
    Judged s (l.foldl f s) := by
  induction l generalizing s with
  | nil => exact Judged.refl s
  | cons x rest ih => exact (h s x).trans (ih (f s x))

theorem judged_handChanges (old : PerRun Integrity) (s : State) : Judged s (handChanges old s) :=
  judged_foldl _ (judged_handRun old) _ _

theorem judged_setCondition (i : ConditionId) (on : Bool) (s : State) : Judged s (setCondition i on s) := by
  unfold setCondition
  simp only
  split
  · exact Judged.refl s
  · exact (judged_withMonitor _ _).trans (judged_handChanges _ _)

theorem judged_withdraw (s : State) : Judged s (withdraw s) := judged_withMonitor _ _

theorem judged_readLine (s : State) : Judged s (readLine s) := by
  unfold readLine
  simp only
  split
  · exact (judged_withMonitor _ _).trans (judged_setCondition _ _ _)
  · exact (judged_withMonitor _ _).trans (judged_withMonitor _ _)

theorem judged_release (s : State) : Judged s (release s) := (judged_withMonitor _ _).trans (judged_readLine _)

theorem judged_releaseIfFree (s : State) : Judged s (releaseIfFree s) := by
  unfold releaseIfFree
  split
  · exact judged_release s
  · exact Judged.refl s

/-- A judgement changes conditions, permit line, marks and the record of the prover, and nothing else (R142, R145,
R148, R149). -/
theorem judged_judge (i : ConditionId) (on : Bool) (s : State) : Judged s (judge i on s) := by
  unfold judge
  simp only
  split
  · exact Judged.refl s
  · split
    · split
      · exact (judged_setCondition _ _ _).trans (judged_withdraw _)
      · exact judged_setCondition _ _ _
    · exact (judged_setCondition _ _ _).trans (judged_releaseIfFree _)

theorem judged_applyClasses (b : StationBlock) (old : PerRun Integrity) (s : State) :
    Judged s (applyClasses b old s) := by
  unfold applyClasses
  simp only
  split
  · exact (judged_handChanges _ _).trans (judged_withdraw _)
  · exact (judged_handChanges _ _).trans (judged_releaseIfFree _)

/-- A judgement that agrees with its record changes nothing (R142). -/
theorem judge_of_agrees (i : ConditionId) (on : Bool) (s : State) (h : s.active i = on) : judge i on s = s := by
  unfold judge
  rw [if_pos h]

/-! ### The conditions table alone -/

theorem handChanges_monitor (old : PerRun Integrity) (s : State) : (handChanges old s).monitor = s.monitor := by
  have step : ∀ (t : State) (r : Run), (handRun old t r).monitor = t.monitor := by
    intro t r
    unfold handRun
    simp only
    split
    · rfl
    · unfold proverFollows
      split
      · split <;> rfl
      · split
        · split
          · unfold abortRecord endRecord
            split <;> (split <;> rfl)
          · split <;> rfl
          · split <;> rfl
        · split <;> rfl
  unfold handChanges
  generalize allRuns = l
  induction l generalizing s with
  | nil => rfl
  | cons r rest ih => exact (ih (handRun old s r)).trans (step s r)

/-- The table after a judgement taken against the record: that one record, where the judgement differs (R142). -/
theorem setCondition_table (i : ConditionId) (on : Bool) (s : State) (h : s.active i ≠ on) :
    (setCondition i on s).monitor.table =
      s.monitor.table.set i
        (if on then activated s.clock (s.monitor.table.get i) else deactivated s.clock (s.monitor.table.get i)) := by
  unfold setCondition
  simp only
  rw [if_neg (show ¬(s.monitor.table.get i).active = on from h), handChanges_monitor]
  rfl

end Sys2Proof.Laws
end

