-- ==== Sys2Proof/Laws/Ops.lean ====
section
/-! SUPPORT. The shared operations of the commands: the timing counter, audit entries, the grant, a request frame and its answer. One lemma says for each what it can do. -/

namespace Sys2Proof.Laws

open Sys2Proof Sys2Proof.Machine

/-! ### The timing counter -/

theorem advance_of_running (dt : Nat) (s : State) (h : s.running = true) :
    advance dt s = s.withCounter (s.counter + BitVec.ofNat 48 dt) := by
  unfold advance
  rw [if_pos h]

theorem advance_of_not_running (dt : Nat) (s : State) (h : s.running = false) : advance dt s = s := by
  unfold advance
  rw [if_neg (by rw [h]; exact Bool.false_ne_true)]

/-- The passing of time changes the counter alone (R16). -/
theorem advance_frame (dt : Nat) (s : State) : advance dt s = s.withCounter (advance dt s).counter := by
  unfold advance
  split <;> rfl

@[simp] theorem advance_store (dt : Nat) (s : State) : (advance dt s).store = s.store := by
  rw [advance_frame]; rfl
@[simp] theorem advance_link (dt : Nat) (s : State) : (advance dt s).link = s.link := by
  rw [advance_frame]; rfl
@[simp] theorem advance_monitor (dt : Nat) (s : State) : (advance dt s).monitor = s.monitor := by
  rw [advance_frame]; rfl
@[simp] theorem advance_supply (dt : Nat) (s : State) : (advance dt s).supply = s.supply := by
  rw [advance_frame]; rfl
@[simp] theorem advance_pulse (dt : Nat) (s : State) : (advance dt s).pulse = s.pulse := by
  rw [advance_frame]; rfl
@[simp] theorem advance_scanner (dt : Nat) (s : State) : (advance dt s).scanner = s.scanner := by
  rw [advance_frame]; rfl
@[simp] theorem advance_lines (dt : Nat) (s : State) : (advance dt s).lines = s.lines := by
  rw [advance_frame]; rfl
@[simp] theorem advance_clock (dt : Nat) (s : State) : (advance dt s).clock = s.clock := by
  rw [advance_frame]; rfl
@[simp] theorem advance_totalizer (dt : Nat) (s : State) : (advance dt s).totalizer = s.totalizer := by
  rw [advance_frame]; rfl
@[simp] theorem advance_change (dt : Nat) (s : State) : (advance dt s).change = s.change := by
  rw [advance_frame]; rfl
@[simp] theorem advance_requests (dt : Nat) (s : State) : (advance dt s).requests = s.requests := by
  rw [advance_frame]; rfl
@[simp] theorem advance_work (dt : Nat) (s : State) : (advance dt s).work = s.work := by
  rw [advance_frame]; rfl
@[simp] theorem advance_pending (dt : Nat) (s : State) : (advance dt s).pending = s.pending := by
  rw [advance_frame]; rfl
@[simp] theorem advance_running (dt : Nat) (s : State) : (advance dt s).running = s.running := by
  unfold State.running; rw [advance_supply]

theorem whileRunning_of_running (dt : Nat) (f : State → State) (s : State) (h : s.running = true) :
    whileRunning dt f s = f (advance dt s) := by
  unfold whileRunning
  rw [if_pos h]

theorem whileRunning_of_not_running (dt : Nat) (f : State → State) (s : State) (h : s.running = false) :
    whileRunning dt f s = s := by
  unfold whileRunning
  rw [if_neg (by rw [h]; exact Bool.false_ne_true)]

/-! ### Audit entries -/

/-- An audit entry changes the trail and its counter alone (R167). -/
theorem addAudit_eq (scope : Option Run) (d : AuditData) (s : State) :
    addAudit scope d s = s.withStore { s.store with
      audit := s.store.audit ++ [{ seq := s.store.auditCounter, time := s.clock, scope := scope, data := d }]
      auditCounter := s.store.auditCounter + 1 } := rfl

/-! ### The grant -/

/-- t is s with its proving queue, record, history and proving counter changed, and nothing else. -/
def Granted (s t : State) : Prop :=
  t = (s.withRequests t.requests).withStore
    { s.store with record := t.store.record, history := t.store.history, provingCounter := t.store.provingCounter }

theorem Granted.refl (s : State) : Granted s s := rfl

theorem Granted.trans {s t u : State} (h : Granted s t) (g : Granted t u) : Granted s u := by
  unfold Granted at h g ⊢
  rw [g, h]
  rfl

theorem granted_abortRecord (c : EndCause) (s : State) : Granted s (abortRecord c s) := by
  unfold abortRecord endRecord
  split <;> rfl

theorem granted_grantFrom (l : List ProvingRequest) (s : State) : Granted s (grantFrom l s) := by
  induction l generalizing s with
  | nil => exact Granted.refl s
  | cons q rest ih =>
    unfold grantFrom
    simp only
    have h : Granted s (openRecord q rest s) := rfl
    split
    · exact h.trans ((granted_abortRecord _ _).trans (ih _))
    · split
      · exact h.trans ((granted_abortRecord _ _).trans (ih _))
      · exact h

/-- A grant changes the proving queue, the record, the history and the proving counter alone (R101, R102). -/
theorem granted_grant (s : State) : Granted s (grant s) := by
  unfold grant
  split
  · exact granted_grantFrom _ _
  · exact Granted.refl s

theorem granted_settle (s t : State) : Granted t (settle s t) := by
  unfold settle
  split
  · exact granted_grant t
  · exact Granted.refl t

/-! ### A request frame -/

/-- The part takes frames dt counts from now: RUNNING, its receiver on, no reply queued that the frame would abandon, and
not the instant of an acceptance of the reset line. -/
def Ready (dt : Nat) (s : State) : Prop :=
  s.running = true ∧ s.link.receiver ≠ .off ∧ s.link.reply = .none ∧ (advance dt s).resetInstant = false

/-- A receiver that is on, at an instant that is no acceptance of the reset line, is not passed over. -/
theorem not_passedOver {s : State} (on : s.link.receiver ≠ .off) (free : s.resetInstant = false) :
    ¬(s.link.receiver = .off ∨ s.resetInstant = true) := by
  rintro (h | h)
  · exact on h
  · rw [free] at h; exact Bool.false_ne_true h

theorem abandonReply_of_none (s : State) (h : s.link.reply = .none) : abandonReply s = (s, false) := by
  unfold abandonReply
  rw [h]

/-- A frame addressed to a part that takes frames is taken, and its reply queued (R181). -/
theorem requestFrame_addressed (dt : Nat) (h : Header) (type : Nat) (b : Bool) (f : State → State × Answer) (s : State)
    (r : Ready dt s) (own : h.station = s.link.station) (notAll : h.station ≠ 0) :
    requestFrame dt h type b f s = .next (takeRequest type h.tag f (frameEnds (advance dt s))) := by
  unfold requestFrame
  rw [if_pos r.1]
  simp only
  rw [if_neg (not_passedOver (by rw [advance_link]; exact r.2.1) r.2.2.2), if_neg notAll,
    if_pos (by rw [advance_link]; exact own),
    abandonReply_of_none _ (by rw [advance_link]; exact r.2.2.1)]
  rfl

/-- A broadcast frame is taken without a reply if its type acts when broadcast, and ignored otherwise (R184). -/
theorem requestFrame_broadcast (dt : Nat) (h : Header) (type : Nat) (b : Bool) (f : State → State × Answer) (s : State)
    (r : Ready dt s) (all : h.station = 0) :
    requestFrame dt h type b f s =
      .next (if b then (f (frameEnds (advance dt s))).1 else frameEnds (advance dt s)) := by
  unfold requestFrame
  rw [if_pos r.1]
  simp only
  rw [if_neg (not_passedOver (by rw [advance_link]; exact r.2.1) r.2.2.2), if_pos all,
    abandonReply_of_none _ (by rw [advance_link]; exact r.2.2.1)]
  rfl

/-- A frame of another station is counted off (R176). -/
theorem requestFrame_foreign (dt : Nat) (h : Header) (type : Nat) (b : Bool) (f : State → State × Answer) (s : State)
    (run : s.running = true) (on : s.link.receiver ≠ .off) (free : (advance dt s).resetInstant = false)
    (other : h.station ≠ s.link.station) (notAll : h.station ≠ 0) :
    requestFrame dt h type b f s = .next (frameEnds (advance dt s)) := by
  unfold requestFrame
  rw [if_pos run]
  simp only
  rw [if_neg (not_passedOver (by rw [advance_link]; exact on) free), if_neg notAll,
    if_neg (by rw [advance_link]; exact other)]

/-- At the instant of an acceptance of the reset line no frame is taken and no update made (R188, R192). -/
theorem requestFrame_atReset (dt : Nat) (h : Header) (type : Nat) (b : Bool) (f : State → State × Answer) (s : State)
    (at' : (advance dt s).resetInstant = true) : requestFrame dt h type b f s = .next (advance dt s) := by
  unfold requestFrame
  by_cases run : s.running = true
  · rw [if_pos run]
    simp only
    rw [if_pos (Or.inr at')]
  · rw [if_neg run, advance_of_not_running dt s (by simpa using run)]

/-- A part that is not RUNNING takes no frame (R189). -/
theorem requestFrame_not_running (dt : Nat) (h : Header) (type : Nat) (b : Bool) (f : State → State × Answer)
    (s : State) (run : s.running = false) : requestFrame dt h type b f s = .next s := by
  unfold requestFrame
  rw [if_neg (by rw [run]; exact Bool.false_ne_true)]

/-- A request frame never stops the part. -/
theorem requestFrame_next (dt : Nat) (h : Header) (type : Nat) (b : Bool) (f : State → State × Answer) (s : State) :
    ∃ t, requestFrame dt h type b f s = .next t := by
  unfold requestFrame
  simp only
  repeat' split
  all_goals exact ⟨_, rfl⟩

/-- What a request handler makes of its state and answer (R181). -/
theorem takeRequest_eq (type : Nat) (tag : Tag) (f : State → State × Answer) (s : State) :
    takeRequest type tag f s = (f s).1.withLink { (f s).1.link with
      reply := .queued { station := (f s).1.link.station + 128, type := type, tag := tag, status := (f s).2.status,
                         body := (f s).2.body, restart := (f s).2.restart, formed := (f s).1.counter } } := rfl

/-- A refused request changes nothing but the link (R185). -/
theorem takeRequest_refused (type : Nat) (tag : Tag) (f : State → State × Answer) (s : State) (st : Status)
    (h : f s = refuse s st) :
    takeRequest type tag f s = s.withLink { s.link with
      reply := .queued { station := s.link.station + 128, type := type, tag := tag, status := st, body := [],
                         restart := false, formed := s.counter } } := by
  rw [takeRequest_eq, h]
  rfl

end Sys2Proof.Laws
end

