-- ==== Sys2Proof/Laws/PerInstr.lean ====
section
/-! SUPPORT. Statements made command by command about the commands as syntax: HeaderFits says that the header of a well-formed request names a station of the link. -/

namespace Sys2Proof.Laws

open Sys2Proof

/-- The header of a request; none for an event. -/
def headerOf : Instr → Option Header
  | .plsg _ h _ _ => some h
  | .ftst _ h _ => some h
  | .prdg _ h _ _ => some h
  | .subs _ h _ _ => some h
  | .tset _ h _ => some h
  | .totg _ h _ _ => some h
  | .snap _ h => some h
  | .snpg _ h _ => some h
  | .ropn _ h _ => some h
  | .rcls _ h _ => some h
  | .gset _ h _ _ _ _ _ => some h
  | .gget _ h _ _ => some h
  | .bsch _ h _ _ _ _ => some h
  | .bdel _ h _ => some h
  | .bsta _ h => some h
  | .bend _ h => some h
  | .bcut _ h => some h
  | .bget _ h _ => some h
  | .tget _ h _ _ => some h
  | .trel _ h _ => some h
  | .preq _ h _ _ _ _ => some h
  | .pcan _ h _ => some h
  | .paln _ h _ => some h
  | .pget _ h _ _ => some h
  | .pacc _ h _ _ => some h
  | .prej _ h _ => some h
  | .pena _ h => some h
  | .pdis _ h => some h
  | .mfgt _ h _ _ _ => some h
  | .mfsp _ h _ _ _ => some h
  | .mfdp _ h _ _ => some h
  | .cndg _ h _ _ => some h
  | .cndc _ h _ => some h
  | .cstg _ h _ _ => some h
  | .ccom _ h _ => some h
  | .cget _ h _ _ _ => some h
  | .ktst _ h _ => some h
  | .aget _ h _ _ => some h
  | .atak _ h _ => some h
  | .stat _ h _ => some h
  | .rstr _ h => some h
  | .rack _ h => some h
  | .meterChannelRisingEdge _ _ _ => none
  | .meterChannelFall _ _ _ => none
  | .qualificationTimeExpiry _ _ _ _ => none
  | .detectorActivation _ _ => none
  | .detectorRelease _ _ => none
  | .debounceExpiry _ _ => none
  | .deadTimeExpiry _ _ => none
  | .conversionCompletion _ _ => none
  | .staleTimerExpiry _ _ => none
  | .periodBoundary _ _ => none
  | .alignTimeoutExpiry _ => none
  | .launchTimeoutExpiry _ => none
  | .passTimeoutExpiry _ => none
  | .holdTimerExpiry _ => none
  | .permitLineFall _ => none
  | .permitLineRise _ => none
  | .externalFilterExpiry _ => none
  | .characterReceived _ _ => none
  | .silenceTimerExpiry _ => none
  | .replyStart _ => none
  | .replyDeadlineExpiry _ => none
  | .replyEnd _ => none
  | .powerFailWarning _ _ => none
  | .warningDeassertion _ => none
  | .mainPowerReturn _ => none
  | .mainPowerFailure _ => none
  | .backupSupplyFailure _ => none
  | .resetLineFall _ => none
  | .resetLineRise _ => none
  | .resetQualificationExpiry _ => none
  | .stationClockSecond _ => none
  | .secondsSinceStartAdvance _ => none

/-- A well-formed request is addressed to a station 0 to 31 (R173). -/
def HeaderFits.Statement (i : Instr) : Prop :=
  wellFormed i = true → ∀ h, headerOf i = some h → h.station ≤ 31

/-- The first of two conjuncts that are both true. -/
theorem leftTrue {a b : Bool} (w : (a && b) = true) : a = true := by
  cases a
  · exact nomatch w
  · rfl

/-- A well-formed header names a station of the link. -/
theorem stationFits {h g : Header} (w : wfHeader h = true) (e : some h = some g) : g.station ≤ 31 := by
  cases e
  exact of_decide_eq_true w

theorem HeaderFits.plsg (dt : Nat) (h : Header) (run part : Nat) :
    HeaderFits.Statement (.plsg dt h run part) :=
  fun w _ e => stationFits (leftTrue (leftTrue w)) e

theorem HeaderFits.ftst (dt : Nat) (h : Header) (run : Nat) :
    HeaderFits.Statement (.ftst dt h run) :=
  fun w _ e => stationFits (leftTrue w) e

theorem HeaderFits.prdg (dt : Nat) (h : Header) (point : Option Nat) (part : Nat) :
    HeaderFits.Statement (.prdg dt h point part) :=
  fun w _ e => stationFits (leftTrue (leftTrue w)) e

theorem HeaderFits.subs (dt : Nat) (h : Header) (point : Nat) (value : Int) :
    HeaderFits.Statement (.subs dt h point value) :=
  fun w _ e => stationFits (leftTrue (leftTrue w)) e

theorem HeaderFits.tset (dt : Nat) (h : Header) (time : Nat) :
    HeaderFits.Statement (.tset dt h time) :=
  fun w _ e => stationFits (leftTrue w) e

theorem HeaderFits.totg (dt : Nat) (h : Header) (run : Option Nat) (part : Nat) :
    HeaderFits.Statement (.totg dt h run part) :=
  fun w _ e => stationFits (leftTrue (leftTrue w)) e

theorem HeaderFits.snap (dt : Nat) (h : Header) :
    HeaderFits.Statement (.snap dt h) :=
  fun w _ e => stationFits w e

theorem HeaderFits.snpg (dt : Nat) (h : Header) (part : Nat) :
    HeaderFits.Statement (.snpg dt h part) :=
  fun w _ e => stationFits (leftTrue w) e

theorem HeaderFits.ropn (dt : Nat) (h : Header) (run : Nat) :
    HeaderFits.Statement (.ropn dt h run) :=
  fun w _ e => stationFits (leftTrue w) e

theorem HeaderFits.rcls (dt : Nat) (h : Header) (run : Nat) :
    HeaderFits.Statement (.rcls dt h run) :=
  fun w _ e => stationFits (leftTrue w) e

theorem HeaderFits.gset (dt : Nat) (h : Header) (grade : Nat) (name : List Byte) (alpha f rho : Nat) :
    HeaderFits.Statement (.gset dt h grade name alpha f rho) :=
  fun w _ e => stationFits (leftTrue (leftTrue (leftTrue (leftTrue (leftTrue w))))) e

theorem HeaderFits.gget (dt : Nat) (h : Header) (grade : Option Nat) (part : Nat) :
    HeaderFits.Statement (.gget dt h grade part) :=
  fun w _ e => stationFits (leftTrue (leftTrue w)) e

theorem HeaderFits.bsch (dt : Nat) (h : Header) (id grade : Nat) (nomination : Option Nat) (destination : Option (List Byte)) :
    HeaderFits.Statement (.bsch dt h id grade nomination destination) :=
  fun w _ e => stationFits (leftTrue (leftTrue (leftTrue (leftTrue w)))) e

theorem HeaderFits.bdel (dt : Nat) (h : Header) (id : Nat) :
    HeaderFits.Statement (.bdel dt h id) :=
  fun w _ e => stationFits (leftTrue w) e

theorem HeaderFits.bsta (dt : Nat) (h : Header) :
    HeaderFits.Statement (.bsta dt h) :=
  fun w _ e => stationFits w e

theorem HeaderFits.bend (dt : Nat) (h : Header) :
    HeaderFits.Statement (.bend dt h) :=
  fun w _ e => stationFits w e

theorem HeaderFits.bcut (dt : Nat) (h : Header) :
    HeaderFits.Statement (.bcut dt h) :=
  fun w _ e => stationFits w e

theorem HeaderFits.bget (dt : Nat) (h : Header) (part : Nat) :
    HeaderFits.Statement (.bget dt h part) :=
  fun w _ e => stationFits (leftTrue w) e

theorem HeaderFits.tget (dt : Nat) (h : Header) (ticket : Option Nat) (part : Nat) :
    HeaderFits.Statement (.tget dt h ticket part) :=
  fun w _ e => stationFits (leftTrue (leftTrue w)) e

theorem HeaderFits.trel (dt : Nat) (h : Header) (ticket : Nat) :
    HeaderFits.Statement (.trel dt h ticket) :=
  fun w _ e => stationFits (leftTrue w) e

theorem HeaderFits.preq (dt : Nat) (h : Header) (run rounds attempts limit : Nat) :
    HeaderFits.Statement (.preq dt h run rounds attempts limit) :=
  fun w _ e => stationFits (leftTrue (leftTrue (leftTrue (leftTrue w)))) e

theorem HeaderFits.pcan (dt : Nat) (h : Header) (run : Nat) :
    HeaderFits.Statement (.pcan dt h run) :=
  fun w _ e => stationFits (leftTrue w) e

theorem HeaderFits.paln (dt : Nat) (h : Header) (run : Nat) :
    HeaderFits.Statement (.paln dt h run) :=
  fun w _ e => stationFits (leftTrue w) e

theorem HeaderFits.pget (dt : Nat) (h : Header) (number : Option Nat) (part : Nat) :
    HeaderFits.Statement (.pget dt h number part) :=
  fun w _ e => stationFits (leftTrue (leftTrue w)) e

theorem HeaderFits.pacc (dt : Nat) (h : Header) (run : Nat) (confirm : Bool) :
    HeaderFits.Statement (.pacc dt h run confirm) :=
  fun w _ e => stationFits (leftTrue w) e

theorem HeaderFits.prej (dt : Nat) (h : Header) (run : Nat) :
    HeaderFits.Statement (.prej dt h run) :=
  fun w _ e => stationFits (leftTrue w) e

theorem HeaderFits.pena (dt : Nat) (h : Header) :
    HeaderFits.Statement (.pena dt h) :=
  fun w _ e => stationFits w e

theorem HeaderFits.pdis (dt : Nat) (h : Header) :
    HeaderFits.Statement (.pdis dt h) :=
  fun w _ e => stationFits w e

theorem HeaderFits.mfgt (dt : Nat) (h : Header) (run : Nat) (rate : Option Nat) (part : Nat) :
    HeaderFits.Statement (.mfgt dt h run rate part) :=
  fun w _ e => stationFits (leftTrue (leftTrue (leftTrue w))) e

theorem HeaderFits.mfsp (dt : Nat) (h : Header) (run rate mf : Nat) :
    HeaderFits.Statement (.mfsp dt h run rate mf) :=
  fun w _ e => stationFits (leftTrue (leftTrue (leftTrue w))) e

theorem HeaderFits.mfdp (dt : Nat) (h : Header) (run rate : Nat) :
    HeaderFits.Statement (.mfdp dt h run rate) :=
  fun w _ e => stationFits (leftTrue (leftTrue w)) e

theorem HeaderFits.cndg (dt : Nat) (h : Header) (scope : Option Nat) (part : Nat) :
    HeaderFits.Statement (.cndg dt h scope part) :=
  fun w _ e => stationFits (leftTrue (leftTrue w)) e

theorem HeaderFits.cndc (dt : Nat) (h : Header) (target : Option (Nat × Nat)) :
    HeaderFits.Statement (.cndc dt h target) :=
  fun w _ e => stationFits (leftTrue w) e

theorem HeaderFits.cstg (dt : Nat) (h : Header) (block : Nat) (groups : List FieldGroup) :
    HeaderFits.Statement (.cstg dt h block groups) :=
  fun w _ e => stationFits (leftTrue (leftTrue w)) e

theorem HeaderFits.ccom (dt : Nat) (h : Header) (block : Nat) :
    HeaderFits.Statement (.ccom dt h block) :=
  fun w _ e => stationFits (leftTrue w) e

theorem HeaderFits.cget (dt : Nat) (h : Header) (block copy part : Nat) :
    HeaderFits.Statement (.cget dt h block copy part) :=
  fun w _ e => stationFits (leftTrue (leftTrue (leftTrue w))) e

theorem HeaderFits.ktst (dt : Nat) (h : Header) (block : Nat) :
    HeaderFits.Statement (.ktst dt h block) :=
  fun w _ e => stationFits (leftTrue w) e

theorem HeaderFits.aget (dt : Nat) (h : Header) (number : Option Nat) (part : Nat) :
    HeaderFits.Statement (.aget dt h number part) :=
  fun w _ e => stationFits (leftTrue (leftTrue w)) e

theorem HeaderFits.atak (dt : Nat) (h : Header) (number : Nat) :
    HeaderFits.Statement (.atak dt h number) :=
  fun w _ e => stationFits (leftTrue w) e

theorem HeaderFits.stat (dt : Nat) (h : Header) (part : Nat) :
    HeaderFits.Statement (.stat dt h part) :=
  fun w _ e => stationFits (leftTrue w) e

theorem HeaderFits.rstr (dt : Nat) (h : Header) :
    HeaderFits.Statement (.rstr dt h) :=
  fun w _ e => stationFits w e

theorem HeaderFits.rack (dt : Nat) (h : Header) :
    HeaderFits.Statement (.rack dt h) :=
  fun w _ e => stationFits w e

theorem HeaderFits.meterChannelRisingEdge (dt : Nat) (run : Run) (channel : Channel) :
    HeaderFits.Statement (.meterChannelRisingEdge dt run channel) :=
  fun _ _ e => nomatch e

theorem HeaderFits.meterChannelFall (dt : Nat) (run : Run) (channel : Channel) :
    HeaderFits.Statement (.meterChannelFall dt run channel) :=
  fun _ _ e => nomatch e

theorem HeaderFits.qualificationTimeExpiry (dt : Nat) (run : Run) (channel : Channel) (comparatorFault : Bool) :
    HeaderFits.Statement (.qualificationTimeExpiry dt run channel comparatorFault) :=
  fun _ _ e => nomatch e

theorem HeaderFits.detectorActivation (dt : Nat) (detector : Detector) :
    HeaderFits.Statement (.detectorActivation dt detector) :=
  fun _ _ e => nomatch e

theorem HeaderFits.detectorRelease (dt : Nat) (detector : Detector) :
    HeaderFits.Statement (.detectorRelease dt detector) :=
  fun _ _ e => nomatch e

theorem HeaderFits.debounceExpiry (dt : Nat) (detector : Detector) :
    HeaderFits.Statement (.debounceExpiry dt detector) :=
  fun _ _ e => nomatch e

theorem HeaderFits.deadTimeExpiry (dt : Nat) (detector : Detector) :
    HeaderFits.Statement (.deadTimeExpiry dt detector) :=
  fun _ _ e => nomatch e

theorem HeaderFits.conversionCompletion (dt : Nat) (fraction : Nat) :
    HeaderFits.Statement (.conversionCompletion dt fraction) :=
  fun _ _ e => nomatch e

theorem HeaderFits.staleTimerExpiry (dt : Nat) (point : Fin 16) :
    HeaderFits.Statement (.staleTimerExpiry dt point) :=
  fun _ _ e => nomatch e

theorem HeaderFits.periodBoundary (dt : Nat) (order : BoundaryOrder) :
    HeaderFits.Statement (.periodBoundary dt order) :=
  fun _ _ e => nomatch e

theorem HeaderFits.alignTimeoutExpiry (dt : Nat) :
    HeaderFits.Statement (.alignTimeoutExpiry dt) :=
  fun _ _ e => nomatch e

theorem HeaderFits.launchTimeoutExpiry (dt : Nat) :
    HeaderFits.Statement (.launchTimeoutExpiry dt) :=
  fun _ _ e => nomatch e

theorem HeaderFits.passTimeoutExpiry (dt : Nat) :
    HeaderFits.Statement (.passTimeoutExpiry dt) :=
  fun _ _ e => nomatch e

theorem HeaderFits.holdTimerExpiry (dt : Nat) :
    HeaderFits.Statement (.holdTimerExpiry dt) :=
  fun _ _ e => nomatch e

theorem HeaderFits.permitLineFall (dt : Nat) :
    HeaderFits.Statement (.permitLineFall dt) :=
  fun _ _ e => nomatch e

theorem HeaderFits.permitLineRise (dt : Nat) :
    HeaderFits.Statement (.permitLineRise dt) :=
  fun _ _ e => nomatch e

theorem HeaderFits.externalFilterExpiry (dt : Nat) :
    HeaderFits.Statement (.externalFilterExpiry dt) :=
  fun _ _ e => nomatch e

theorem HeaderFits.characterReceived (dt : Nat) (character : Byte) :
    HeaderFits.Statement (.characterReceived dt character) :=
  fun _ _ e => nomatch e

theorem HeaderFits.silenceTimerExpiry (dt : Nat) :
    HeaderFits.Statement (.silenceTimerExpiry dt) :=
  fun _ _ e => nomatch e

theorem HeaderFits.replyStart (dt : Nat) :
    HeaderFits.Statement (.replyStart dt) :=
  fun _ _ e => nomatch e

theorem HeaderFits.replyDeadlineExpiry (dt : Nat) :
    HeaderFits.Statement (.replyDeadlineExpiry dt) :=
  fun _ _ e => nomatch e

theorem HeaderFits.replyEnd (dt : Nat) :
    HeaderFits.Statement (.replyEnd dt) :=
  fun _ _ e => nomatch e

theorem HeaderFits.powerFailWarning (dt : Nat) (order : BoundaryOrder) :
    HeaderFits.Statement (.powerFailWarning dt order) :=
  fun _ _ e => nomatch e

theorem HeaderFits.warningDeassertion (dt : Nat) :
    HeaderFits.Statement (.warningDeassertion dt) :=
  fun _ _ e => nomatch e

theorem HeaderFits.mainPowerReturn (dt : Nat) :
    HeaderFits.Statement (.mainPowerReturn dt) :=
  fun _ _ e => nomatch e

theorem HeaderFits.mainPowerFailure (dt : Nat) :
    HeaderFits.Statement (.mainPowerFailure dt) :=
  fun _ _ e => nomatch e

theorem HeaderFits.backupSupplyFailure (dt : Nat) :
    HeaderFits.Statement (.backupSupplyFailure dt) :=
  fun _ _ e => nomatch e

theorem HeaderFits.resetLineFall (dt : Nat) :
    HeaderFits.Statement (.resetLineFall dt) :=
  fun _ _ e => nomatch e

theorem HeaderFits.resetLineRise (dt : Nat) :
    HeaderFits.Statement (.resetLineRise dt) :=
  fun _ _ e => nomatch e

theorem HeaderFits.resetQualificationExpiry (dt : Nat) :
    HeaderFits.Statement (.resetQualificationExpiry dt) :=
  fun _ _ e => nomatch e

theorem HeaderFits.stationClockSecond (dt : Nat) :
    HeaderFits.Statement (.stationClockSecond dt) :=
  fun _ _ e => nomatch e

theorem HeaderFits.secondsSinceStartAdvance (dt : Nat) :
    HeaderFits.Statement (.secondsSinceStartAdvance dt) :=
  fun _ _ e => nomatch e

end Sys2Proof.Laws
end

