-- ==== Sys2Proof/Laws/Tables.lean ====
section
/-! SUPPORT. Reading a table after one of its values has been replaced: the four runs, the channels, the conditions table. -/

namespace Sys2Proof.Machine

@[simp] theorem PerRun.get_set_same {α : Type} (t : PerRun α) (r : Run) (x : α) : (t.set r x).get r = x := by
  cases r <;> rfl

theorem PerRun.get_set_other {α : Type} (t : PerRun α) (r q : Run) (x : α) (h : q ≠ r) :
    (t.set r x).get q = t.get q := by
  cases r <;> cases q <;> first | rfl | exact absurd rfl h

@[simp] theorem PerRun.get_tab {α : Type} (f : Run → α) (r : Run) : (PerRun.tab f).get r = f r := by
  cases r <;> rfl

theorem PerRun.ext_get {α : Type} (t u : PerRun α) (h : ∀ r, t.get r = u.get r) : t = u := by
  have h1 := h .r1
  have h2 := h .r2
  have h3 := h .r3
  have h4 := h .r4
  cases t; cases u
  simp only [PerRun.get] at h1 h2 h3 h4
  subst h1 h2 h3 h4
  rfl

@[simp] theorem RunPulse.channel_setChannel_same (p : RunPulse) (c : Channel) (x : PulseChannel) :
    (p.setChannel c x).channel c = x := by
  cases c <;> rfl

theorem RunPulse.channel_setChannel_other (p : RunPulse) (c d : Channel) (x : PulseChannel) (h : d ≠ c) :
    (p.setChannel c x).channel d = p.channel d := by
  cases c <;> cases d <;> first | rfl | exact absurd rfl h

@[simp] theorem PulseUnit.detector_setDetector_same (u : PulseUnit) (d : Detector) (x : DetectorState) :
    (u.setDetector d x).detector d = x := by
  cases d <;> rfl

theorem PulseUnit.detector_setDetector_other (u : PulseUnit) (d e : Detector) (x : DetectorState) (h : e ≠ d) :
    (u.setDetector d x).detector e = u.detector e := by
  cases d <;> cases e <;> first | rfl | exact absurd rfl h

@[simp] theorem Lines.channel_setChannel_same (l : Lines) (r : Run) (c : Channel) (x : Bool) :
    (l.setChannel r c x).channel r c = x := by
  cases c <;> cases r <;> rfl

@[simp] theorem Lines.detector_setDetector_same (l : Lines) (d : Detector) (x : Bool) :
    (l.setDetector d x).detector d = x := by
  cases d <;> rfl

theorem runKindIndex_inj (a b : RunKind) (h : runKindIndex a = runKindIndex b) : a = b := by
  revert h
  cases a <;> cases b <;> first | (intro _; rfl) | (intro h; exact absurd h (by decide))

theorem stationKindIndex_inj (a b : StationKind) (h : stationKindIndex a = stationKindIndex b) : a = b := by
  revert h
  cases a <;> cases b <;> first | (intro _; rfl) | (intro h; exact absurd h (by decide))

/-- The record just written. -/
@[simp] theorem ConditionTable.get_set_same (t : ConditionTable) (i : ConditionId) (x : ConditionRecord) :
    (t.set i x).get i = x := by
  cases i with
  | run k r => simp [ConditionTable.set, ConditionTable.get]
  | station k => simp [ConditionTable.set, ConditionTable.get]

/-- Two judgements for different records never interact (R142). -/
theorem ConditionTable.get_set_other (t : ConditionTable) (i j : ConditionId) (x : ConditionRecord) (h : j ≠ i) :
    (t.set i x).get j = t.get j := by
  cases i with
  | run k r =>
    cases j with
    | run k' r' =>
      by_cases e : r' = r
      · subst e
        have hk : runKindIndex k ≠ runKindIndex k' := fun q => h (by rw [runKindIndex_inj _ _ q])
        simp only [ConditionTable.set, ConditionTable.get, PerRun.get_set_same, Fin.getElem_fin]
        rw [Vector.getElem_set_ne]
        exact fun q => hk (Fin.ext q)
      · simp only [ConditionTable.set, ConditionTable.get, PerRun.get_set_other _ _ _ _ e]
    | station k' => rfl
  | station k =>
    cases j with
    | run k' r' => rfl
    | station k' =>
      have hk : stationKindIndex k ≠ stationKindIndex k' := fun q => h (by rw [stationKindIndex_inj _ _ q])
      simp only [ConditionTable.set, ConditionTable.get, Fin.getElem_fin]
      rw [Vector.getElem_set_ne]
      exact fun q => hk (Fin.ext q)

end Sys2Proof.Machine
end

