-- ==== Sys2Proof/Tests/Slice0.lean ====
section
/-! SUPPORT. The model's own tests: ill-formed commands the check refuses, values written out from the manual, each command on a small state at the edges of its ranges, and for every statement that has hypotheses a state that meets them. -/

set_option Elab.async false

namespace Sys2Proof.Tests

open Sys2Proof Sys2Proof.Machine Sys2Proof.Safety Sys2Proof.Stated

/-! ### Helpers -/

def own : Header := { station := 1, tag := 0x1234 }
def other : Header := { station := 2, tag := 0x1234 }
def everyone : Header := { station := 0, tag := 0x1234 }
def far : Header := { station := 32, tag := 0 }
def ord : BoundaryOrder := { verifyFirst := true, causeFirst := .gradeChange }

/-- The part after reset with nothing active and every run OPEN. -/
def calm : State :=
  (State.reset.withMonitor freshMonitor).withStore
    { State.reset.store with runs := PerRun.tab fun _ => { factoryTotals with service := .opened } }

def every (c : ConditionClass) : Vector ConditionClass 18 := Vector.replicate 18 c

/-- The part with classes, the block's stored code not renewed with them. -/
def classed (x : Vector ConditionClass 18) (s : State) : State :=
  s.withStore { s.store with
    station := { s.store.station with current := { factoryStation with classes := x } } }

/-- One command after another. -/
def chainOfCommands (l : List Instr) (s : State) : State :=
  l.foldl (fun s i => match exec i s with | .next t => t | _ => s) s

/-- The status a command's reply carries. -/
def status (i : Instr) (s : State) : Option Status :=
  match exec i s with
  | .next t =>
    match t.link.reply with
    | .queued r => some r.status
    | _ => none
  | _ => none

/-- The body a command's reply carries. -/
def body (i : Instr) (s : State) : List Byte :=
  match exec i s with
  | .next t =>
    match t.link.reply with
    | .queued r => r.body
    | _ => []
  | _ => []

/-- The state a command leads to, with its reply sent. -/
def after (i : Instr) (s : State) : State :=
  match exec i s with
  | .next t => t.withLink { t.link with reply := .none, receiver := .ready }
  | _ => s

/-! ### Ill-formed commands -/

theorem test_illFormedNumbers :
    ([ .plsg 0 far 1 0, .plsg 0 own 256 0, .plsg 0 own 1 256, .ftst 0 own 256, .prdg 0 own (some 256) 0,
       .prdg 0 own none 256, .subs 0 own 256 0, .tset 0 own 4294967296, .totg 0 own (some 256) 0, .snap 0 far,
       .snpg 0 own 256, .ropn 0 own 256, .rcls 0 own 256, .gget 0 own (some 256) 0, .bdel 0 own 16777216,
       .bsta 0 far, .bend 0 far, .bcut 0 far, .bget 0 own 256, .tget 0 own (some 1099511627776) 0,
       .trel 0 own 1099511627776, .preq 0 own 1 256 0 0, .preq 0 own 1 2 256 0, .preq 0 own 1 2 2 65536,
       .pcan 0 own 256, .paln 0 own 256, .pget 0 own (some 4294967296) 0, .pacc 0 own 256 true, .prej 0 own 256,
       .pena 0 far, .pdis 0 far ] : List Instr).all (fun i => !wellFormed i) = true := by decide +kernel

theorem test_illFormedForms :
    ([ .subs 0 own 0 2147483648, .subs 0 own 0 (-2147483649), .gset 0 own 256 [] 0 0 0,
       .gset 0 own 1 (List.replicate 13 65) 0 0 0, .gset 0 own 1 [65, 0] 0 0 0, .gset 0 own 1 [] 0 0 65536,
       .bsch 0 own 16777216 1 none none, .bsch 0 own 1 1 (some 1099511627776) none,
       .bsch 0 own 1 1 none (some (List.replicate 9 65)), .bsch 0 own 1 1 none (some [0]),
       .mfgt 0 own 1 (some 4294967296) 0, .mfsp 0 own 1 0 65536, .mfdp 0 own 1 4294967296, .cndg 0 own (some 256) 0,
       .cndc 0 own (some (256, 0)), .cndc 0 own (some (0, 256)), .cstg 0 own 0 [],
       .cstg 0 own 0 [{ index := 65536, value := [] }], .cstg 0 own 0 [{ index := 0, value := List.replicate 237 0 }],
       .ccom 0 own 256, .cget 0 own 0 256 0, .ktst 0 own 256, .aget 0 own (some 4294967296) 0,
       .atak 0 own 4294967296, .stat 0 own 256, .rstr 0 far, .rack 0 far, .conversionCompletion 0 1000001,
       .periodBoundary 0 { verifyFirst := true, causeFirst := .power },
       .powerFailWarning 0 { verifyFirst := true, causeFirst := .sequence } ] : List Instr).all
      (fun i => !wellFormed i) = true := by decide +kernel

theorem test_wellFormedEdges :
    ([ .tset 0 own 4294967295, .subs 0 own 255 (-2147483648), .gset 0 own 255 (List.replicate 12 65) 0 0 65535,
       .cstg 0 own 0 [{ index := 65535, value := List.replicate 236 0 }], .conversionCompletion 0 1000000,
       .periodBoundary 0 ord, .plsg 0 { station := 31, tag := 0 } 255 255 ] : List Instr).all wellFormed = true := by
  decide +kernel

/-! ### Values the manual gives -/

/-- The check values of the two codes of R179 and R198 over the digits 1 to 9. -/
theorem test_codes :
    crc16 [0x31, 0x32, 0x33, 0x34, 0x35, 0x36, 0x37, 0x38, 0x39] = 0x29B1#16 ∧
    checkCode [0x31, 0x32, 0x33, 0x34, 0x35, 0x36, 0x37, 0x38, 0x39] = 0xFC891918#32 := by decide +kernel

/-- An FTST frame written out: sync, station 1, type 2, tag, one character of body, CRC. -/
theorem test_frameOfFtst :
    frameOf own 2 (num 1 3) = [0xA5, 0x01, 0x02, 0x12, 0x34, 0x01, 0x03] ++ bigEndian 2
      (crc16 [0x01, 0x02, 0x12, 0x34, 0x01, 0x03]).toNat ∧
    spelled (.ftst 0 own 3) = some (2, [0x03]) := by decide +kernel

/-- Rounding with halves away from zero (00_scope 4.2). -/
theorem test_rounding : [roundHalf (5 / 2), roundHalf (-5 / 2), roundHalf (49 / 100)] = [3, -3, 0] := by
  decide +kernel

/-- A rollover, and the greatest total (R57). -/
theorem test_totals : [addTotal 999999999999 1, addTotal 999999999998 1] = [0, 999999999999] := by decide +kernel

/-! ### Worked examples of the manual -/

/-- The first period of section 3.7: q, MF, CTL, CPL, CCF. -/
theorem test_periodExample :
    let curve : List CurvePoint :=
      [{ rate := 24000, mf := 10020, origin := 0, date := 0 }, { rate := 36000, mf := 10004, origin := 0, date := 0 }]
    indicatedRate (indicatedVolume 1000 2400000) 5000000 = 30000 ∧ lookup curve 30000 = 10012 ∧
    ctlFactor 9000 41750 = 97593 ∧ cplFactor 800 12500 = 100100 ∧ ccfFactor 97593 100100 10012 = 97808 := by
  decide +kernel

/-- The figures of round 1 of section 6.13: both passes and the round. -/
theorem test_passExample :
    figuresOf 2400000 19199 0 5000 95997063 96000000 =
      { n := 19199, dd := 95997063, dp := 95995000, ni := 19199413, rate := 30000 } := by decide +kernel

theorem test_roundExample :
    roundFiguresOf 9000 800 8000 335 40 2400000 (19199413 + 19198999) [41750, 12500, 41500, 12000]
        [41750, 12500, 41500, 12000] =
      { tm := 41750, pm := 12500, tp := 41500, pp := 12000, cts := 100089, cps := 100005, ctlp := 97615,
        cplp := 100096, ctlm := 97593, cplm := 100100, mf := 100117 } := by decide +kernel

/-- The spread and MF_new of section 6.13. -/
theorem test_resultExample :
    spreadOf [100117, 100121] = 4 / 100117 ∧ roundHalf ((200238 : Rat) / 2 / 10) = 10012 := by decide +kernel

/-- A curve of two points at the edges of its span. -/
theorem test_lookupEdges :
    let c : List CurvePoint :=
      [{ rate := 1000, mf := 10000, origin := 0, date := 0 }, { rate := 2000, mf := 10001, origin := 0, date := 0 }]
    [0, 999, 1000, 1499, 1500, 2000, 2001].map (fun q => (lookup c q, extrapolated c q)) =
      [(10000, false), (10000, true), (10000, false), (10000, false), (10001, false), (10001, false),
       (10001, true)] := by decide +kernel

/-- The band at its edge: five hundredths of the lower rate (R127). -/
theorem test_bandEdges : [inBand 1000 1050, inBand 1050 1000, inBand 1000 1051, inBand 0 0, inBand 0 1] =
    [true, true, false, true, false] := by decide +kernel

/-! ### Requests at the edges of their ranges -/

theorem test_readingPulses :
    [0, 1, 4, 5].map (fun r => status (.plsg 0 own r 0) calm) =
      [some .badField, some .ok, some .ok, some .badField] ∧ status (.plsg 0 own 1 1) calm = some .badField := by
  decide +kernel

theorem test_readingPoints :
    [some 0, some 15, some 16, none].map (fun p => status (.prdg 0 own p 0) calm) =
      [some .ok, some .ok, some .badField, some .ok] := by decide +kernel

theorem test_readingTotals :
    [none, some 0, some 4, some 5].map (fun r => status (.totg 0 own r 0) calm) =
      [some .ok, some .badField, some .ok, some .badField] ∧
    status (.snpg 0 own 0) calm = some .notFound ∧ status (.snpg 0 own 1) (after (.snap 0 own) calm) = some .ok ∧
    status (.snpg 0 own 2) (after (.snap 0 own) calm) = some .badField := by decide +kernel

theorem test_readingGradesAndBatches :
    [none, some 0, some 1, some 16, some 17].map (fun g => status (.gget 0 own g 0) calm) =
      [some .ok, some .badField, some .ok, some .ok, some .badField] ∧
    [0, 2, 3].map (fun p => status (.bget 0 own p) calm) = [some .ok, some .ok, some .badField] := by decide +kernel

theorem test_readingTickets :
    [none, some 0, some 1, some 999999999999, some 1000000000000].map (fun n => status (.tget 0 own n 0) calm) =
      [some .ok, some .badField, some .notFound, some .notFound, some .badField] := by decide +kernel

theorem test_readingControl :
    [none, some 1].map (fun n => status (.pget 0 own n 0) calm) = [some .ok, some .notFound] ∧
    [none, some 999999, some 1000000].map (fun q => status (.mfgt 0 own 1 q 0) calm) =
      [some .ok, some .ok, some .badField] ∧
    [none, some 0, some 4, some 5].map (fun n => status (.cndg 0 own n 0) calm) =
      [some .ok, some .ok, some .ok, some .badField] := by decide +kernel

theorem test_readingBlocks :
    [(0, 0), (7, 0), (8, 0), (3, 0), (3, 1), (0, 1), (0, 2), (0, 3)].map (fun x => status (.cget 0 own x.1 x.2 0) calm) =
      [some .ok, some .ok, some .badField, some .ok, some .badField, some .notFound, some .notFound,
       some .badField] := by decide +kernel

theorem test_readingAudit :
    [none, some 0, some 1, some 2].map (fun n => status (.aget 0 own n 0) (after (.tset 0 own 9) calm)) =
      [some .ok, some .notFound, some .ok, some .notFound] := by decide +kernel

theorem test_ftst : status (.ftst 0 own 1) calm = some .ok ∧
    status (.ftst 0 own 1) (after (.ftst 0 own 1) calm) = some .badState := by decide +kernel

theorem test_subs :
    [-2001, -2000, 8000, 8001].map (fun v => status (.subs 0 own 0 v) calm) =
      [some .badField, some .ok, some .ok, some .badField] ∧ status (.subs 0 own 16 0) calm = some .badField := by
  decide +kernel

theorem test_tset :
    [3155759999, 3155760000].map (fun t => status (.tset 0 own t) calm) = [some .ok, some .badField] := by
  decide +kernel

theorem test_service :
    [status (.rcls 0 own 1) calm, status (.ropn 0 own 1) calm, status (.rcls 0 own 5) calm,
      status (.ropn 0 own 1) (after (.rcls 0 own 1) calm), status (.ropn 0 own 4) State.reset] =
      [some .ok, some .badState, some .badField, some .badState, some .ok] := by decide +kernel

theorem test_gset :
    [(1, 1000, 100, 6000), (16, 20000, 2000, 11000), (0, 1000, 100, 6000), (17, 1000, 100, 6000),
      (1, 990, 100, 6000), (1, 1005, 100, 6000), (1, 20010, 100, 6000), (1, 1000, 99, 6000), (1, 1000, 2001, 6000),
      (1, 1000, 100, 5999), (1, 1000, 100, 11001)].map
      (fun x => status (.gset 0 own x.1 [65] x.2.1 x.2.2.1 x.2.2.2) calm) =
      [some .ok, some .ok] ++ List.replicate 9 (some .badField) := by decide +kernel

/-- The part with one batch of id 7 queued, or with eight. -/
def queued : State := after (.bsch 0 own 7 1 none none) calm

def queuedEight : State :=
  calm.withStore { calm.store with
    queue := (List.range 8).map fun i => { id := i + 1, grade := 1, nomination := none, destination := none } }

theorem test_bsch :
    [(1, 1), (999999, 1), (0, 1), (1000000, 1), (1, 2), (1, 0), (1, 17)].map
      (fun x => status (.bsch 0 own x.1 x.2 none none) calm) =
      [some .ok, some .ok, some .badField, some .badField, some .badField, some .badField, some .badField] ∧
    [some 0, some 1, some 9999999999, some 10000000000].map (fun n => status (.bsch 0 own 1 1 n none) calm) =
      [some .badField, some .ok, some .ok, some .badField] := by decide +kernel

theorem test_bschFull :
    [[], [65], List.replicate 8 65, List.replicate 9 65, [0x1F], [0x20], [0x7E], [0x7F]].map
      (fun d => status (.bsch 0 own 1 1 none (some d)) calm) =
      [some .badField, some .ok, some .ok, some .badField, some .badField, some .ok, some .ok, some .badField] ∧
    status (.bsch 0 own 7 1 none none) queued = some .duplicate ∧
    status (.bsch 0 own 9 1 none none) queuedEight = some .queueFull := by decide +kernel

/-- The part with the head of its queue reserved to start. -/
def starting : State := after (.bsta 0 own) queued

theorem test_bdel :
    [status (.bdel 0 own 0) calm, status (.bdel 0 own 1000000) calm, status (.bdel 0 own 1) calm,
      status (.bdel 0 own 7) queued, status (.bdel 0 own 7) starting] =
      [some .badField, some .badField, some .notFound, some .ok, some .badState] := by decide +kernel

/-- An active batch of id 5, with nothing metered. -/
def batch (nomination : Option Nat) (reached : Bool) : ActiveBatch :=
  { entry := { id := 5, grade := 1, nomination := nomination, destination := none }
    start := 0
    runs := PerRun.tab fun _ =>
      { opening := zeroSplit, acc := zeroSplit, sums := zeroSums, periods := 0, flaggedPeriods := 0 }
    interruptions := 0, outage := 0, reached := reached }

/-- The ticket of a batch with a number. -/
def ticket (n : Nat) : Ticket := formTicket n 0 .hostEnd (fun _ => zeroSplit) (batch none false)

/-- The part with a batch active, a pending change, one entry queued and a held record. -/
def batching (c : BatchChange) (b : ActiveBatch) (held : Option Ticket) : State :=
  (queued.withStore { queued.store with active := some b, held := held }).withChange c

theorem test_batchRequests :
    [status (.bsta 0 own) calm, status (.bsta 0 own) queued, status (.bend 0 own) calm, status (.bcut 0 own) calm] =
      [some .notFound, some .ok, some .badState, some .badState] ∧
    [status (.bend 0 own) (batching .none (batch none false) none),
      status (.bcut 0 own) (batching .none (batch none false) none),
      status (.bend 0 own) (batching .none (batch none false) (some (ticket 1))),
      status (.bcut 0 own) (batching .none (batch none false) (some (ticket 1))),
      status (.bend 0 own) (batching .ends (batch none false) none)] =
      [some .ok, some .ok, some .storeFull, some .storeFull, some .badState] := by decide +kernel

/-- Twelve tickets and a held one. -/
def full : State :=
  calm.withStore { calm.store with
    slots := (List.range 12).map fun i => ticket (i + 1), held := some (ticket 13), ticketCounter := 14 }

theorem test_trel :
    [0, 1, 2, 13, 14, 999999999999, 1000000000000].map (fun n => status (.trel 0 own n) full) =
      [some .badField, some .ok, some .notOldest, some .notOldest, some .notFound, some .notFound,
       some .badField] ∧ body (.trel 0 own 1) full = 1 :: num 5 2 := by decide +kernel

theorem test_preq :
    [(2, 2, 1), (10, 20, 50), (1, 2, 1), (11, 20, 1), (2, 1, 1), (2, 21, 1), (2, 2, 0), (2, 2, 51)].map
      (fun x => status (.preq 0 own 1 x.1 x.2.1 x.2.2) calm) =
      [some .ok, some .ok, some .badField, some .badField, some .badField, some .badField, some .badField,
       some .badField] ∧
    body (.preq 0 own 1 2 2 1) calm = 1 :: num 4 1 ∧ status (.preq 0 own 1 2 2 1) State.reset = some .badState := by
  decide +kernel

/-- The request of run 1, and the part proving it with a record in a state. -/
def request1 : ProvingRequest := { run := .r1, rounds := 2, attempts := 4, limit := 5, queued := 0 }

def proving (st : RecordState) (c : Option RoundState) : State :=
  calm.withStore { calm.store with record := some { openedRecord request1 calm with state := st, current := c } }

theorem test_proverRequests :
    [status (.pcan 0 own 1) (proving .aligning none), status (.pcan 0 own 2) (proving .aligning none),
      status (.paln 0 own 1) (proving .aligning none), status (.paln 0 own 1) (proving .armed none),
      status (.pdis 0 own) (proving .aligning none), status (.pdis 0 own) calm, status (.pena 0 own) calm] =
      [some .ok, some .notFound, some .ok, some .badState, some .badState, some .ok, some .ok] := by decide +kernel

/-- A pending result of run 1 with a deviation. -/
def resulted (deviating : Bool) : State :=
  calm.withStore { calm.store with
    results := calm.store.results.set .r1 (some { openedRecord request1 calm with
      state := .complete
      result := some { mf := 10012, rate := 30000, spread := 0, rounds := [1, 2], curveValue := some 10000,
                       deviating := deviating, time := 86400 } }) }

theorem test_decisions :
    [status (.pacc 0 own 1 false) calm, status (.pacc 0 own 1 false) (resulted true),
      status (.pacc 0 own 1 true) (resulted true), status (.pacc 0 own 1 false) (resulted false),
      status (.prej 0 own 1) (resulted true), status (.prej 0 own 2) (resulted true)] =
      [some .notFound, some .deviationUnconfirmed, some .ok, some .ok, some .ok, some .notFound] := by decide +kernel

theorem test_curveRequests :
    [(1, 8000), (999999, 12000), (0, 10000), (1000000, 10000), (1, 7999), (1, 12001)].map
      (fun x => status (.mfsp 0 own 1 x.1 x.2) calm) =
      [some .ok, some .ok, some .badField, some .badField, some .badField, some .badField] ∧
    status (.mfdp 0 own 1 30000) calm = some .notFound ∧
    body (.mfdp 0 own 1 30000) (after (.mfsp 0 own 1 30000 10000) calm) = [0] := by decide +kernel

theorem test_cndc :
    [(0, 1), (12, 4), (0, 0), (0, 5), (13, 0), (18, 0), (13, 1), (19, 0)].map
      (fun x => status (.cndc 0 own (some x)) calm) =
      [some .ok, some .ok, some .badField, some .badField, some .ok, some .ok, some .badField, some .badField] ∧
    status (.cndc 0 own (some (18, 0))) State.reset = some .badState ∧ body (.cndc 0 own none) calm = [0] := by
  decide +kernel

/-- The STATION block staged with a period length. -/
def stagedLength (n : Nat) : State := after (.cstg 0 own 0 [{ index := 0, value := num 2 n }]) calm

theorem test_staging :
    [status (.cstg 0 own 3 [{ index := 0, value := [1] }]) calm, status (.cstg 0 own 8 [{ index := 0, value := [1] }]) calm,
      status (.cstg 0 own 0 [{ index := 22, value := [0, 20] }]) calm,
      status (.cstg 0 own 0 [{ index := 23, value := [0, 20] }]) calm] =
      [some .badField, some .badField, some .ok, some .badField] := by decide +kernel

theorem test_commit :
    [199, 200, 250, 2000, 2001].map (fun n => status (.ccom 0 own 0) (stagedLength n)) =
      [some .configInvalid, some .ok, some .configInvalid, some .ok, some .configInvalid] ∧
    status (.ccom 0 own 0) calm = some .badState ∧ status (.ktst 0 own 3) calm = some .ok := by decide +kernel

theorem test_atak :
    status (.atak 0 own 1) calm = some .notFound ∧
    body (.atak 0 own 1) (after (.tset 0 own 9) calm) = [1, 0, 0, 0, 0, 0] := by decide +kernel

theorem test_rackAndRstr :
    [status (.rack 0 own) State.reset, status (.rack 0 own) calm, status (.rstr 0 own) calm] =
      [some .ok, some .badState, some .ok] := by decide +kernel

/-! ### States that meet the hypotheses of the statements -/

/-- A request the part takes, addressed or broadcast: for every statement of a request. -/
theorem test_hypothesesOfRequests : Taken 0 own calm ∧ Listening 0 calm ∧ everyone.station = 0 := by
  unfold Taken Listening Own AtReset; decide +kernel

def reply (restart : Bool) : Reply :=
  { station := 129, type := 41, tag := 0, status := .ok, body := [], restart := restart, formed := 5 }

/-- A reply waits to be sent. -/
def replying (restart : Bool) : State := calm.withLink { calm.link with reply := .queued (reply restart) }

/-- A reply is being sent. -/
def sending (restart : Bool) : State :=
  calm.withLink { calm.link with reply := .sending (reply restart), sent := replyFrame (reply restart), receiver := .off }

/-- The part at the instant of an acceptance of the reset line. -/
def restarted : State := calm.withSupply { calm.supply with byReset := true }

def halted : State := calm.withSupply { calm.supply with power := .halted }

def unpowered : State :=
  (calm.withSupply { calm.supply with power := .unpowered }).withLines { calm.lines with mainPower := false }

theorem test_hypothesesOfFramesThatDoNotAct :
    (requestOf (.bsta 5 other) = some (5, other) ∧ calm.running = true ∧ calm.link.receiver ≠ .off ∧
      ¬AtReset (later 5 calm) ∧ other.station ≠ 0 ∧ other.station ≠ calm.link.station) ∧
    (requestOf (.bsta 5 everyone) = some (5, everyone) ∧ everyone.station = 0 ∧
      actsBroadcast (.bsta 5 everyone) = false) ∧
    halted.running = false ∧ (sending true).running = true ∧ (sending true).link.receiver = .off ∧
    AtReset (later 0 restarted) ∧ ¬AtReset (later 1 restarted) ∧ ¬Ends 0 calm ∧ ¬Ends 0 restarted ∧
    Ends 5000000 restarted := by
  unfold Ends AtReset; decide +kernel

/-- At the instant of an acceptance of the reset line a request and a boundary make no update; one count later they do
(R192). -/
theorem test_resetInstant :
    ([.tset 0 own 9, .periodBoundary 0 ord] : List Instr).all (fun i =>
      match exec i restarted with
      | .next t => decide (t.clock = 0 ∧ t.store.audit = [] ∧ t.link.reply = .none ∧ t.totalizer.last.r1 = none)
      | _ => false) = true ∧
    status (.tset 1 own 9) restarted = some .ok := by decide +kernel

/-- That instant comes of the reset line alone. -/
theorem test_resetLine :
    let low := (calm.withLines { calm.lines with resetLow := true }).withSupply { calm.supply with resetQualifying := true }
    (resetQualifies low).supply.byReset = true ∧ (performStart low).supply.byReset = false := by decide +kernel

/-- A reply frame written out: sync, station 1 with the marker, type, tag, status, length, check code (R197). -/
theorem test_replyFrame :
    replyFrame { reply false with tag := 0x1234, status := .badField } =
      [0xA5, 0x81, 0x29, 0x12, 0x34, 0x03, 0x00] ++
        bigEndian 2 (crc16 [0x81, 0x29, 0x12, 0x34, 0x03, 0x00]).toNat := by decide +kernel

/-- The confirm field on the link is read for a DEVIATING result alone (R120). -/
theorem test_confirmField :
    ([(0 : Byte), 1, 2].map fun c => match parse 25 [1, c] with
      | .request f => [(f calm).2.status, (f (resulted false)).2.status, (f (resulted true)).2.status]
      | _ => []) =
      [[.notFound, .ok, .deviationUnconfirmed], [.notFound, .ok, .ok], [.notFound, .ok, .badField]] := by
  decide +kernel

theorem test_hypothesesOfOwnFrameAbandonsTheReply :
    ∀ x ∈ [true, false], ∀ h ∈ [own, everyone], (replying x).running = true ∧ (replying x).link.receiver ≠ .off ∧
      ¬AtReset (later 0 (replying x)) ∧ (h.station = 0 ∨ h.station = (replying x).link.station) ∧
      (replying x).link.reply = .queued (reply x) ∧ (reply x).restart = x := by
  unfold AtReset; decide +kernel

theorem test_hypothesesOfRecordLayouts :
    (ticket 1).entry.destination = none ∧
    (∀ n ∈ [0, 10], (List.replicate n 1 : List Nat).length ≤ 10) := by decide +kernel

/-- Two requests wait while run 1 is FAILED (its class TRIP), CLOSED, both or neither. -/
def requesting (failed shut : Bool) : State :=
  let s := calm.withRequests [request1, { request1 with run := .r2 }]
  let s := if shut then s.setRunTotals .r1 { s.store.runs.r1 with service := .closed } else s
  if failed then setCondition (.run .pulseNoise .r1) true (classed (every .trip) s) else s

/-- The head of the queue is aborted at its grant where its run is FAILED or CLOSED, and the next granted (R101). -/
theorem test_abortedAtItsGrant :
    ([(false, false), (true, false), (false, true), (true, true)].map fun x =>
      let s := grant (requesting x.1 x.2)
      (s.requests.length, s.store.record.map (·.number), s.store.history.map (·.cause))) =
    [(1, some 1, []), (0, some 2, [some .runFailed]), (0, some 2, [some .runClosed]),
      (0, some 2, [some .runFailed])] ∧
    (∀ x ∈ [true, false], ∀ y ∈ [true, false],
      (decide ((requesting x y).integrity .r1 = .failed),
        decide ((requesting x y).store.runs.r1.service = .closed)) = (x, y)) := by decide +kernel

theorem test_hypothesesOfTheGrant :
    calm.store.proverEnabled = true ∧ calm.store.record = none ∧
    (calm.withRequests [request1]).requests = request1 :: [] ∧
    (calm.withRequests [request1]).integrity request1.run ≠ .failed ∧
    (calm.store.runs.get request1.run).service = .opened ∧ calm.requests = [] ∧
    (proving .aligning none).store.record ≠ none ∧
    (calm.withStore { calm.store with proverEnabled := false }).store.proverEnabled = false := by decide +kernel

/-- A channel high with its qualification running, and the windows of run 1 at given counts. -/
def qualifying (a b : Nat) (test : Bool) : State :=
  let p := calm.runPulse .r1
  (calm.withLines (calm.lines.setChannel .r1 .a true)).setRunPulse .r1
    { p with a := { p.a with qualifying := some 10, window := a }, b := { p.b with window := b }, testMark := test }

theorem test_hypothesesOfLineEdges :
    (calm.running = true ∧ calm.lines.channel .r1 .a = false ∧ ((calm.runPulse .r1).channel .a).qualifying = none) ∧
    ((qualifying 0 0 false).running = true ∧ (qualifying 0 0 false).lines.channel .r1 .a = true ∧
      (((qualifying 0 0 false).runPulse .r1).channel .a).qualifying ≠ none) ∧ halted.running = false := by
  decide +kernel

/-- Detector 1 in a phase, its input active or not. -/
def detecting (ph : DetectorPhase) (level : Bool) : State :=
  (calm.withLines (calm.lines.setDetector .d1 level)).setDetector .d1 { phase := ph, debounce := 5, last := none }

theorem test_hypothesesOfDetectorEdges :
    ∀ ph ∈ [DetectorPhase.idle, .qualifying, .dead], ∀ level ∈ [true, false],
      (detecting ph level).running = true ∧ (detecting ph level).lines.detector .d1 = level ∧
      ((detecting ph level).pulse.detector .d1).phase = ph := by decide +kernel

theorem test_hypothesesOfAcceptedPulseIsCounted :
    ∀ a ∈ [0, 998], ∀ b ∈ [0, 999],
      (qualifying a b false).running = true ∧ (((qualifying a b false).runPulse .r1).channel .a).qualifying ≠ none ∧
      (qualifying a b false).lines.channel .r1 .a = true ∧
      (((qualifying a b false).runPulse .r1).channel .a).window + 1 < ((qualifying a b false).runPulse .r1).w ∧
      (((qualifying a b false).runPulse .r1).channel (otherChannel .a)).window <
        ((qualifying a b false).runPulse .r1).w ∧
      (qualifying a b false).store.record = none := by decide +kernel

/-- A forward and a reverse pulse: the other channel low, or high. -/
theorem test_hypothesesOfTheDirection :
    forward (qualifying 0 0 false) .r1 .a ∧
    ¬ forward ((qualifying 0 0 false).withLines ((qualifying 0 0 false).lines.setChannel .r1 .b true)) .r1 .a := by
  unfold forward; decide +kernel

/-- Windows about to close: A against no B, one, a mismatch at the limit, and a match at it; with a test mark. -/
theorem test_hypothesesOfWindowClose :
    ∀ b ∈ [0, 1, 997, 998, 1000], ∀ m ∈ [true, false],
      (qualifying 999 b m).running = true ∧ (((qualifying 999 b m).runPulse .r1).channel .a).qualifying ≠ none ∧
      (qualifying 999 b m).lines.channel .r1 .a = true ∧
      ((qualifying 999 b m).runPulse .r1).w ≤ max (((qualifying 999 b m).runPulse .r1).a.window + 1)
        (((qualifying 999 b m).runPulse .r1).b.window + 0) ∧
      ((qualifying 999 b m).runPulse .r1).testMark = m := by decide +kernel

/-- The kinds those windows have (R7). -/
theorem test_windowKinds : [0, 1, 997, 998, 1000].map (fun b => windowKind 1000 b 2) =
    [.bSilent, .mismatch, .mismatch, .match_, .match_] ∧ windowKind 0 1000 2 = .aSilent := by decide +kernel

/-- A round begun at detector 1, its pass with or without a pulse, or its second pass begun. -/
def round1 (pulsed : Bool) (second : Bool) : RoundState :=
  let p : PassState := { beginPass .d1 100 (some 30000) with p0 := if pulsed then some 200 else none }
  { number := 1
    first := p
    second := if second then some { p with start := .d2 } else none
    marks := { readingInvalid := false, flowUnstable := false, runDegraded := false } }

/-- Detector d about to be accepted while a record is in a state. -/
def activating (d : Detector) (st : RecordState) (c : Option RoundState) : State :=
  (proving st c).setDetector d { phase := .qualifying, debounce := 5, last := none }

theorem test_proverInvOfThoseStates (d : Detector) :
    ProverInv (activating d .aligning none) ∧ ProverInv (activating d .armed none) ∧
    ProverInv (activating d .tail (some (round1 true false))) ∧
    (∀ p q, ProverInv (activating d .pass (some (round1 p q)))) ∧
    ProverInv (activating d .turn (some (round1 true false))) := by
  have key : ∀ (st : RecordState) (c : Option RoundState), recordTimer st ≠ none →
      (st = .pass ∨ st = .tail ∨ st = .turn → ∃ x, c = some x ∧ (currentPass x).figures = none) →
      ProverInv (activating d st c) := by
    intro st c ht hc
    refine ⟨?_, ?_, ?_, ?_, ?_⟩
    · intro r; cases r <;> cases d <;> first | exact Nat.le_refl 1 | exact Nat.zero_le 1
    · intro h; cases d <;> exact absurd (show true = false from h) (by decide)
    · intro x hx
      have : x = { openedRecord request1 calm with state := st, current := c } := by
        cases d <;> exact (Option.some.inj hx).symm
      subst this; exact ht
    · intro x hx hs
      have : x = { openedRecord request1 calm with state := st, current := c } := by
        cases d <;> exact (Option.some.inj hx).symm
      subst this
      obtain ⟨y, hy, hf⟩ := hc hs
      exact ⟨y, hy, fun _ => hf⟩
    · cases d <;> exact Nat.zero_le 4
  refine ⟨key _ _ (by decide) (by simp), key _ _ (by decide) (by simp), key _ _ (by decide) ?_, ?_,
    key _ _ (by decide) ?_⟩
  · exact fun _ => ⟨_, rfl, rfl⟩
  · intro p q; exact key _ _ (by decide) fun _ => ⟨_, rfl, by cases q <;> rfl⟩
  · exact fun _ => ⟨_, rfl, rfl⟩

theorem test_hypothesesOfAcceptedActivation (d : Detector) :
    ((activating d .armed none).pulse.detector d).phase = .qualifying ∧ (activating d .armed none).running = true ∧
    (activating d .armed none).store.record.map (·.state) = some .armed ∧
    (∀ c, (activating d .pass (some c)).store.record.map (·.current) = some (some c)) ∧
    calm.store.record = none ∧ (calm.pulse.detector .d1).phase ≠ .qualifying := by
  cases d <;> exact ⟨rfl, rfl, rfl, fun _ => rfl, rfl, by decide⟩

/-- The pass in progress begun at either detector, with or without its first pulse; TURN of a round begun at D1. -/
theorem test_activationClauses (p q : Bool) :
    ((round1 p q).second.getD (round1 p q).first).start = (if q then .d2 else .d1) ∧
    (((round1 p q).second.getD (round1 p q).first).p0.isNone = !p) ∧ (round1 true false).first.start = .d1 := by
  cases p <;> cases q <;> exact ⟨rfl, rfl, rfl⟩

theorem test_hypothesesOfRecordTimeouts :
    (∀ st ∈ [RecordState.aligning, .armed, .turn, .pass, .tail],
      (proving st none).running = true ∧ (proving st none).store.record.map (·.state) = some st ∧
      (∀ x, (proving st none).store.record = some x → x.timerStart ≠ (later 1 (proving st none)).counter)) ∧
    ∀ x, calm.store.record = some x → x.state ∉ [RecordState.aligning] := by
  refine ⟨by decide +kernel, ?_⟩
  intro x hx; nomatch hx

/-- Point 0 converting with or without a partner, point 1 holding a reading with a status. -/
def converting (pair : Option Nat) (inj : Bool) (st : PointStatus) : State :=
  (calm.withScanner { calm.scanner with
    converter := some
      { point := 0, injected := inj, setup := { factorySetup 0 with partner := pair }, started := 5,
        moves := true } }).setPoint 1
    { reading := some { value := 15000, time := 0 }, status := st, staleTimer := some { started := 5, length := 10 } }

theorem test_hypothesesOfScannerEvents :
    (∀ p ∈ [none, some 1], ∀ i ∈ [true, false], ∀ st ∈ [PointStatus.good, .deviation, .range],
      (converting p i st).running = true ∧
      (converting p i st).scanner.converter =
        some { point := 0, injected := i, setup := { factorySetup 0 with partner := p }, started := 5, moves := true } ∧
      (5 : Stamp) ≠ (later 0 (converting p i st)).counter ∧
      ((converting p i st).scanner.points[(1 : Fin 16)]).status = st ∧
      ((converting p i st).scanner.points[(1 : Fin 16)]).staleTimer ≠ none) ∧
    pointIndex 1 ≠ 0 ∧ calm.scanner.converter = none ∧ (calm.scanner.points[(1 : Fin 16)]).staleTimer = none := by
  decide +kernel

/-- Readings at both ends of the span, and the edges of the valid range of a temperature point (R25, R26). -/
theorem test_readings :
    [0, 1000000].map (readingOf (factorySetup 0)) = [-50000, 150000] ∧
    [-20001, -20000, 80000, 80001].map (inValidRange (factorySetup 0)) = [false, true, true, false] := by
  decide +kernel

theorem test_hypothesesOfBoundaryChangesTheBatch :
    (starting.running = true ∧ starting.change = .start ∧
      starting.store.queue = { id := 7, grade := 1, nomination := none, destination := none } :: []) ∧
    (∀ c ∈ [BatchChange.ends, .cutover], (batching c (batch none false) none).running = true ∧
      (batching c (batch none false) none).change = c ∧
      (batching c (batch none false) none).store.active = some (batch none false) ∧
      (batching c (batch none false) none).store.queue ≠ []) ∧
    ((batching .none (batch (some 1) true) none).change = .none ∧ (batch (some 1) true).reached = true ∧
      (batching .none (batch (some 1) true) none).store.held = none) ∧
    (batching .none (batch (some 1) true) (some (ticket 13))).store.held ≠ none ∧
    ((batch none false).reached = false ∧ (batch none false).entry.nomination = none) ∧
    calm.change = .none ∧ calm.store.active = none := by decide +kernel

theorem test_hypothesesOfPowerEvents :
    (unpowered.supply.power = .unpowered ∧ unpowered.lines.warning = false ∧ unpowered.lines.mainPower = false) ∧
    (unpowered.withLines { unpowered.lines with warning := true }).lines.warning = true ∧
    (halted.running = false ∧ halted.lines.mainPower = true) ∧ calm.running = true ∧
    (let s := (calm.withLines { calm.lines with resetLow := true }).withSupply
        { calm.supply with resetQualifying := true }
     s.running = true ∧ s.supply.resetQualifying = true ∧ s.lines.resetLow = true) ∧
    calm.supply.resetQualifying = false ∧
    calm.totalizer.clockSet ≠ some (later 1 calm).counter ∧ ((later 1 calm).counter ≠ 0 ∨ calm.supply.seconds ≠ 0) ∧
    (let s := calm.withTotalizer { calm.totalizer with clockSet := some calm.counter }
     s.running = true ∧ s.totalizer.clockSet = some (later 0 s).counter) ∧
    (State.reset.running = true ∧ (later 0 State.reset).counter = 0 ∧ State.reset.supply.seconds = 0) := by decide +kernel

theorem test_hypothesesOfStarts :
    (calm.store.formatMark = true ∧ calm.store.codeAgrees = true) ∧
    (calm.withStore { calm.store with formatMark := false }).store.formatMark = false := by decide +kernel

/-- An unpowered part whose backup memory has been lost. -/
def lostPart : State :=
  ((calm.withSupply { calm.supply with power := .unpowered }).withLines { resetLines with mainPower := false }).withStore
    { calm.store with formatMark := false, codeAgrees := false }

theorem test_hypothesesOfResetIsTheFirstStart :
    lostPart.supply.power = .unpowered ∧ lostPart.lines = { resetLines with mainPower := false } ∧
    lostPart.pending = [] ∧ lostPart.store.formatMark = false := by decide +kernel

theorem test_hypothesesOfJudgementIsTaken :
    (calm.monitor.table.get (.station .retentionLost)).active = false ∧
    conditionClass calm.stationBlock (.station .retentionLost) = .trip ∧
    conditionClass calm.stationBlock (.station .waterSubstituted) ≠ .trip ∧
    (State.reset.monitor.table.get (.station .retentionLost)).active = true := by decide +kernel

/-- Withdrawn with the hold timer running and nothing active. -/
def holding : State :=
  calm.withMonitor { calm.monitor with withdrawn := true, hold := some { started := 5, length := 10 } }

/-- Permitted, with the line low and the external filter running. -/
def filtering : State :=
  (calm.withLines { calm.lines with permitHigh := false }).withMonitor
    { calm.monitor with seen := some false, filter := some { started := 5, length := 200 } }

theorem test_hypothesesOfPermitEvents :
    (State.reset.running = true ∧ State.reset.monitor.withdrawn = (State.reset.tripActive || State.reset.monitor.hold.isSome) ∧
      State.reset.monitor.hold ≠ none ∧ State.reset.tripActive = true) ∧
    (holding.running = true ∧ holding.monitor.withdrawn = (holding.tripActive || holding.monitor.hold.isSome) ∧
      holding.monitor.hold ≠ none ∧ holding.tripActive = false ∧ holding.lines.permitHigh = true) ∧
    (filtering.running = true ∧ filtering.monitor.withdrawn = (filtering.tripActive || filtering.monitor.hold.isSome) ∧
      filtering.monitor.hold = none ∧ filtering.lines.permitHigh = false ∧ filtering.monitor.filter ≠ none) ∧
    (calm.monitor.withdrawn = false ∧ calm.lines.permitHigh = true ∧ calm.monitor.filter = none) ∧
    (State.reset.monitor.hold.map (·.started) = some 0 ∧ (0 : Stamp) ≠ (later 1 State.reset).counter) ∧
    (holding.monitor.hold.map (·.started) = some 5 ∧ filtering.monitor.filter.map (·.started) = some 5 ∧
      (5 : Stamp) ≠ (later 0 holding).counter ∧ (5 : Stamp) ≠ (later 0 filtering).counter) := by decide +kernel

/-- The receiver in a state, the silence timer running since stamp 5, or not. -/
def receiving (r : Receiver) (silence : Bool) : State :=
  calm.withLink { calm.link with receiver := r, silence := if silence then some 5 else none }

theorem test_hypothesesOfLinkEvents :
    (∀ r ∈ [Receiver.ready, .waiting, .off, .skipping 0, .skipping 1, .skipping 2, .header [1, 2], .header [9],
        .body 1 2 0 1 [3]], ∀ q ∈ [true, false],
      (receiving r q).running = true ∧ (receiving r q).link.receiver = r ∧
        (receiving r q).link.silence = (if q then some 5 else none) ∧ (5 : Stamp) ≠ (later 0 (receiving r q)).counter) ∧
    (∀ x ∈ [true, false], (replying x).link.reply = .queued (reply x) ∧ (sending x).link.reply = .sending (reply x) ∧
      (replying x).link.silence = some (later 0 (replying x)).counter ∧
      (replying x).link.silence ≠ some (later 1 (replying x)).counter ∧
      (reply x).formed ≠ (later 0 (replying x)).counter ∧ (reply x).formed = (later 5 (replying x)).counter) ∧
    calm.link.reply = .none ∧ halted.running = false := by decide +kernel

/-- The station compare with and without a queued reply, and the header of a request and of a reply at its last two
characters, of the part's own and of another station. -/
theorem test_hypothesesOfTheHeader :
    (∀ x ∈ [true, false],
      let s := (replying x).withLink { (replying x).link with receiver := .header [] }
      s.running = true ∧ s.link.receiver = .header [] ∧ s.link.reply = .queued (reply x) ∧
        s.link.station = (1 : Byte).toNat ∧ (9 : Byte).toNat ≠ 0 ∧ (9 : Byte).toNat ≠ s.link.station) ∧
    (receiving (.header []) true).link.reply = .none ∧
    (∀ x ∈ [((0x09 : Byte), 3), (0x81, 4)],
      x.2 + 2 = (if x.1.toNat < 128 then 5 else 6) ∧ x.2 + 1 < (if x.1.toNat < 128 then 5 else 6)) ∧
    (∀ st ∈ [(0x09 : Byte), 0x81], st.toNat ≠ 0 ∧ st.toNat ≠ calm.link.station) ∧
    (∀ st ∈ [(0 : Byte), 1], st.toNat < 128 ∧ (st.toNat = 0 ∨ st.toNat = calm.link.station)) ∧
    (240 : Byte).toNat ≤ 240 ∧ ([1] : List Byte).length + 1 < 1 + 2 := by decide +kernel

/-- The header of a frame, taken character by character: another station's request and reply, and its own (R176). -/
theorem test_headers :
    ([[0x09, 2, 0, 0], [0x09, 2, 0, 0, 250], [0x81, 2, 0, 0, 0], [0x81, 2, 0, 0, 0, 7], [1, 2, 0x12, 0x34, 240]].map
      fun l => (chainOfCommands (l.map (.characterReceived 9)) (receiving (.header []) true)).link.receiver) =
    [.header [0x09, 2, 0, 0], .skipping 252, .header [0x81, 2, 0, 0, 0], .skipping 9, .body 1 2 0x1234 240 []] := by
  decide +kernel

theorem test_hypothesesOfBadFrames :
    (∀ st ∈ [(0 : Byte), 1], (receiving (.header [st, 2, 0, 0]) true).running = true ∧
      (receiving (.header [st, 2, 0, 0]) true).link.receiver = .header [st, 2, 0, 0] ∧
      (st.toNat = 0 ∨ (st.toNat = (receiving (.header [st, 2, 0, 0]) true).link.station ∧ st.toNat < 128))) ∧
    240 < (0xF1 : Byte).toNat ∧
    (∀ ty ∈ [(0 : Nat), 43, 42], ∃ x y : Byte,
      let s := receiving (.body 1 ty 0 1 ([9] ++ [x])) true
      let c := (crc16 (num 1 1 ++ num 1 ty ++ bigEndian 2 (0 : Tag).toNat ++ num 1 1 ++ [9])).toNat
      s.running = true ∧ s.link.receiver = .body 1 ty 0 [(9 : Byte)].length ([9] ++ [x]) ∧
      [x, y] = bigEndian 2 c ∧ [x, y + 1] ≠ bigEndian 2 c ∧ (ty = 0 ∨ 42 < ty ∨ ty = 42)) := by
  refine ⟨by decide +kernel, by decide +kernel, ?_⟩
  intro ty h
  refine ⟨_, _, rfl, rfl, rfl, ?_, ?_⟩
  · intro e
    exact absurd (List.cons.inj (List.cons.inj e).2).1 (by bv_omega)
  · revert h; revert ty; decide

/-- A request spelled out, taken from READY. -/
theorem test_hypothesesOfSpelledFrames :
    wellFormed (.ftst 0 own 3) = true ∧ requestOf (.ftst 0 own 3) = some (0, own) ∧
    spelled (.ftst 0 own 3) = some (2, [3]) ∧ Taken 0 own (receiving .ready true) ∧
    (receiving .ready true).link.receiver = .ready ∧ everyone.station = 0 ∧
    requestOf (.snap 0 everyone) = some (0, everyone) ∧ wellFormed (.snap 0 everyone) = true := by
  unfold Taken Listening Own AtReset; decide +kernel

/-- The characters of that frame leave the part with the same reply queued. -/
theorem test_spelledFtst :
    let t := (frameOf own 2 [3]).foldl (fun s c => (match exec (.characterReceived 0 c) s with | .next t => t | _ => s))
      (receiving .ready true)
    (t.link.reply, t.link.receiver, (t.runPulse .r3).testMark) =
      (.queued { station := 129, type := 2, tag := 0x1234, status := .ok, body := [], restart := false, formed := 0 }, .ready, true) := by
  decide +kernel

def point (rate mf : Nat) : CurvePoint := { rate := rate, mf := mf, origin := 0, date := 0 }

/-- Eight points more than 5 % apart. -/
def fullCurve : List CurvePoint := [1000, 2000, 3000, 4000, 5000, 6000, 7000, 8000].map fun r => point r 10000

theorem test_hypothesesOfCurves :
    curveForm fullCurve = true ∧ curveForm [point 1000 8000, point 1051 12000] = true ∧
    curveForm [point 1000 8000, point 1050 12000] = false ∧
    ([point 1000 8000, point 1051 12000].filter fun p => inBand p.rate 1025).length = 2 ∧
    fullCurve[0]? = some (point 1000 10000) ∧ fullCurve[1]? = some (point 2000 10000) := by decide +kernel

/-- Placing: inserted, replacing one, replacing the nearer of two (the lower where equally near), and refused (R132). -/
theorem test_placing :
    (place [] (point 1 8000)).map (·.curve) = some [point 1 8000] ∧
    (place fullCurve (point 1500 8000)) = none ∧
    ((place fullCurve (point 1050 8000)).bind (·.replaced)) = some (point 1000 10000) ∧
    ([1030, 1029, 1031].map fun q =>
      (place [point 1000 8000, point 1060 8000] (point q 9000)).map fun p => (p.curve, p.replaced, p.removed)) =
      [some ([point 1030 9000], some (point 1000 8000), some (point 1060 8000)),
        some ([point 1029 9000], some (point 1000 8000), some (point 1060 8000)),
        some ([point 1031 9000], some (point 1060 8000), some (point 1000 8000))] ∧
    curveForm [point 1000 8000, point 1060 8000] = true ∧
    ([1030, 1029, 1031, 1000].map fun q =>
      ([point 1000 8000, point 1060 8000].filter fun p => inBand p.rate q).length) = [2, 2, 2, 1] := by decide +kernel

/-! ### States that meet each clause of the widened statements -/

/-- The events that are none in a part that is not RUNNING: HALTED and UNPOWERED. -/
theorem test_hypothesesOfNotRunning : halted.running = false ∧ unpowered.running = false := by decide +kernel

/-- A POINTS block pending with a list of one point, and a RUN block that names another temperature point. -/
def applying (tempPoint : Nat) (s : State) : State :=
  (s.withStore { s.store with
    points := { s.store.points with pending := some { factoryPoints with scanList := [3] } }
    runBlocks := s.store.runBlocks.set .r1
      { s.store.runBlocks.r1 with pending := some { factoryRun .r1 with tempPoint := tempPoint } } }).withLines
    { s.lines with permitHigh := false }

/-- What a boundary does to the scanner and to TEMPERATURE_DEVIATION where those blocks come (R28, R39). -/
theorem test_blocksReachTheScanner :
    ([calm, converting none false .deviation, converting none true .deviation].map fun s =>
      let t := chainOfCommands [.periodBoundary 5000000 ord] (applying 1 s)
      (t.scanner.position, t.scanner.converter.map fun c => (c.point, c.moves),
        t.active (.run .temperatureDeviation .r1))) =
    [(0, some (3, true), false), (0, some (0, false), true), (0, some (0, false), true)] := by decide +kernel

/-- The clauses of NotJudged: the same temperature point and another, the line high and low, the permit given and not, and
no condition of class TRIP. -/
theorem test_hypothesesOfNotJudged :
    (calm.store.runBlocks.r1).pending = none ∧ (calm.store.points.pending = none) ∧
    ((applying 1 calm).store.runBlocks.r1).pending = some { factoryRun .r1 with tempPoint := 1 } ∧
    (1 : Nat) ≠ ((applying 1 calm).runBlock .r1).tempPoint ∧
    (applying 0 calm).store.points.pending ≠ none ∧ calm.scanner.converter = none ∧
    (applying 0 calm).lines.permitHigh = false ∧ calm.monitor.withdrawn = false ∧ holding.monitor.withdrawn = true ∧
    calm.supply.firstPeriod = false ∧
    (∀ k : Fin 18, (Vector.replicate 18 ConditionClass.flag)[k] ≠ .trip) := by decide +kernel

/-- A boundary at the end of its period, in a state whose flags are in order. -/
theorem test_hypothesesOfTheBoundary : calm.running = true ∧ Ends 5000000 calm ∧ FlagInv calm := by
  refine ⟨by decide +kernel, by unfold Ends AtReset; decide +kernel, ?_⟩
  intro _ r h; exact absurd (by cases r <;> decide +kernel) h

/-- Staging each kind of block at its first and last field, with values of a wrong form, and one field twice. -/
theorem test_stages :
    ([(0, [(0, num 2 5), (22, num 2 9)]), (1, [(0, num 4 5), (10, num 2 9)]), (2, [(8, [1, 3]), (160, [2, 9, 9])]),
      (2, [(8, [0, 0]), (159, signed 4 (-1))]), (7, [(0, num 4 5), (0, num 4 6)]), (7, [(10, num 2 0)]),
      (0, [(0, num 2 5), (3, [3])]), (0, [(23, [0])]), (2, [(8, [0, 3])]), (2, [(8, [2, 3])]), (2, [(0, [3])]),
      (2, [(160, 17 :: List.replicate 17 1)]), (7, [(11, [0])]), (7, [(0, [0])]), (3, [(0, [0])]), (8, [(0, [0])])] :
        List (Nat × List (Nat × List Byte))).map
      (fun x => (stages x.1 (x.2.map fun g => { index := g.1, value := g.2 }) calm).status) =
    List.replicate 6 .ok ++ List.replicate 10 .badField ∧
    ((stages 4 [{ index := 0, value := num 4 5 }, { index := 0, value := num 4 6 }] calm).state.work.stagedRuns.r1.map
      (·.k)) = some 6 := by decide +kernel

/-- The part with block copies staged: RUN1 with a K and a maximum rate. -/
def stagedRun (k maxRate : Nat) : State :=
  calm.withWork { calm.work with
    stagedRuns := calm.work.stagedRuns.set .r1 (some { factoryRun .r1 with k := k, maxRate := maxRate }) }

/-- CCOM: no copy, a field outside its range, two fields that disagree, and a copy that commits; a full trail; KTST. -/
theorem test_commits :
    [(commits 4 calm).status, (commits 4 (stagedRun 999 999999)).status, (commits 4 (stagedRun 1000 999999)).status,
      (commits 3 calm).status, (commits 8 calm).status] =
      [.badState, .configInvalid, .ok, .badField, .badField] ∧
    [(commits 4 (stagedRun 999 999999)).body, (commits 4 (stagedRun 1000 10)).body] = [[4, 0, 0], [4, 0, 3]] := by
  decide +kernel

/-- A block the factory codes agree with, and its code spoiled. -/
theorem test_spoils :
    [blockOf 0, blockOf 3, blockOf 7] = [some .station, some .grades, some (.run .r4)] ∧
    [calm.mismatch .station, (spoils 0 calm).state.mismatch .station] = [false, true] := by decide +kernel

def goodEntry (p : Fin 16) : SetEntry := { point := p, reading := some { value := 15000, time := 0 }, status := .good }

def goodSet : ChainAnswer := .set ([0, 4, 8, 9].map goodEntry)

/-- A pass swept, its tail pulse to come, with the answers given. -/
def swept (d : Detector) (ends : Option ChainAnswer) : PassState :=
  { start := d, startRate := some 30000, d0 := some (0 : Stamp), p0 := some (10 : Stamp), d1 := some (1000 : Stamp),
    p1 := none, count := 99, figures := none, startAnswer := some goodSet, endAnswer := ends }

/-- A pass done, its factor set by N. -/
def passed (n : Nat) : PassState :=
  { swept .d1 (some goodSet) with
    p1 := some (1010 : Stamp), figures := some { n := n, dd := 1000, dp := 1000, ni := n * 1000, rate := 30000 } }

/-- A round in its second pass, that pass's end answered or not. -/
def lastPass (n : Nat) (ends : Option ChainAnswer) : RoundState :=
  { number := 2, first := passed n, second := some (swept .d2 ends),
    marks := { readingInvalid := false, flowUnstable := false, runDegraded := false } }

/-- The entry of an earlier round with a factor. -/
def earlier (mf : Int) : RoundEntry :=
  { number := 1, start := .d1, first := { n := 100, dd := 1000, dp := 1000, ni := 100000, rate := 30000 },
    second := { n := 100, dd := 1000, dp := 1000, ni := 100000, rate := 30000 }, rate := 30000,
    figures := some { tm := 0, pm := 0, tp := 0, pp := 0, cts := 0, cps := 0, ctlp := 0, cplp := 0, ctlm := 0,
                      cplm := 0, mf := mf },
    discarded := none }

/-- A pulse about to be accepted on the counting channel while run 1 is proved: K 100, Vb 1, one round before. -/
def pulsing (st : RecordState) (c : Option RoundState) (attempts : Nat) (mf : Int) : State :=
  let s := (qualifying 0 0 false).withCounter 1010
  s.withStore { s.store with
    record := some { openedRecord request1 calm with
      state := st, current := c, k := 100000, vb := 1000, attempts := attempts, accepted := 1, rounds := [earlier mf] } }

/-- What becomes of the record: its state, the pending result, and the cause in the history. -/
def fate (i : Instr) (s : State) : Option RecordState × Option Int × List (Option EndCause) :=
  match exec i s with
  | .next t => (t.store.record.map (·.state), (t.store.results.r1.bind (·.result)).map (·.mf),
      t.store.history.map (·.cause))
  | _ => (none, none, [])

/-- Each way a delivered pulse goes (R105, R106, R113 to R115): disregarded, first of a pass, counted, the tail of a first
pass, the tail of a second with a chain unanswered, and with all answered a result, ARMED again, FAILED by repeatability
and by range. -/
theorem test_deliveredPulse :
    let e : Instr := .qualificationTimeExpiry 0 .r1 .a false
    ([pulsing .armed none 1 100000, pulsing .pass (some (round1 false false)) 1 100000,
      pulsing .pass (some (round1 true false)) 1 100000,
      pulsing .tail (some { lastPass 100 none with second := none, first := swept .d1 none }) 1 100000,
      pulsing .tail (some (lastPass 100 none)) 1 100000, pulsing .tail (some (lastPass 100 (some goodSet))) 1 100053,
      pulsing .tail (some (lastPass 100 (some goodSet))) 1 110000,
      pulsing .tail (some (lastPass 100 (some goodSet))) 3 110000,
      pulsing .tail (some (lastPass 300 (some goodSet))) 1 50000].map (fate e)).map (fun x => (x.1, x.2.1.isSome, x.2.2)) =
    [(some .armed, false, []), (some .pass, false, []), (some .pass, false, []), (some .turn, false, []),
      (some .tail, false, []), (none, true, []), (some .armed, false, []), (none, false, [some .repeatability]),
      (none, false, [some .mfRange])] := by decide +kernel

/-- A window about to close at a count of B, with tallies one below M and losses. -/
def closing (b : Nat) (tally : Nat) (lostA lostB : Bool) : State :=
  let s := qualifying 999 b false
  let p := s.runPulse .r1
  s.setRunPulse .r1 { p with
    a := { p.a with lost := lostA }, b := { p.b with silence := tally, lost := lostB }, mismatch := tally,
    matched := tally }

/-- Losses, mismatch and noise after a close, and whether any condition changed. -/
def closed (s : State) : List Bool :=
  match exec (.qualificationTimeExpiry 0 .r1 .a false) s with
  | .next t => [(t.runPulse .r1).a.lost, (t.runPulse .r1).b.lost, t.active (.run .channelBLost .r1),
      t.active (.run .pulseMismatch .r1), allConditionIds.all fun i => t.active i == s.active i]
  | _ => []

/-- Each clause of a close at M and one below: silence, mismatch, match with restoration, and no change (R9, R10). -/
theorem test_closes :
    1 ≤ (calm.runBlock .r1).m ∧
    [closing 0 2 false false, closing 0 1 false false, closing 0 2 false true, closing 500 2 false false,
      closing 500 1 false false, closing 998 2 true true, closing 998 1 true true].map closed =
    [[false, true, true, false, false], [false, false, false, false, true], [false, true, false, false, true],
      [false, false, false, true, false], [false, false, false, false, true], [false, false, false, false, true],
      [true, true, false, false, true]] := by decide +kernel

/-- A chain of some points still to convert. -/
def chainOf (left : List (Fin 16)) : Chain :=
  { tag := { record := 1, round := 1, pass := 1, ends := false }, points := [0, 4, 8, 9], left := left }

/-- The part with chain slots occupied. -/
def chained (active waiting : Option Chain) (s : State) : State :=
  s.withScanner { s.scanner with active := active, waiting := waiting }

/-- A chain asked of a free scanner, of one with a chain, and of a full one (R31, R32). -/
theorem test_asked :
    let c := chainOf [0]
    ([chained none none calm, chained (some c) none calm, chained (some c) (some c) calm].map fun s =>
      let x := asked c.tag [2, 3] s
      (x.active.map (·.points), x.waiting.map (·.points), x.converter.map (·.point), x.refused, loses s)) =
    [(some [2, 3], none, some 2, 0, false),
      (some [0, 4, 8, 9], some [2, 3], calm.scanner.converter.map (·.point), 0, false),
      (some [0, 4, 8, 9], some [0, 4, 8, 9], calm.scanner.converter.map (·.point), 1, true)] ∧
    ([chained none none, chained (some c) (some c)].map fun f =>
      match exec (.debounceExpiry 0 .d1) (f (activating .d1 .armed none)) with
      | .next t => (t.store.record.bind (·.current)).map (·.marks.readingInvalid)
      | _ => none) = [some false, some true] := by decide +kernel

/-- A completion: a normal one, a chain's point with one to come, and its last, with a chain waiting or none (R30, R33). -/
theorem test_completions :
    ([chained none none (converting none false .good), chained (some (chainOf [0, 4])) none (converting none true .good),
      chained (some (chainOf [9])) none (converting none true .good),
      chained (some (chainOf [9])) (some (chainOf [4, 8])) (converting none true .good)].map fun s =>
      match exec (.conversionCompletion 0 500000) s with
      | .next t => (t.scanner.converter.map fun c => (c.point, c.injected), t.scanner.active.map (·.left))
      | _ => (none, none)) =
    [(none, none), (some (4, true), some [4]), (none, none), (some (4, true), some [4, 8])] := by decide +kernel

/-- Point 0, the temperature point of run 1, comes to and from DEVIATION, by a conversion and by staleness (R27 to R29). -/
theorem test_deviation :
    let on : State := (converting (some 1) false .good).setPoint 0
      { reading := none, status := .deviation, staleTimer := some { started := 5, length := 10 } }
    ([(converting (some 1) false .good, 1000000), (converting (some 1) false .good, 325000),
        (converting (some 1) false .good, 400000), (on, 325000)].map fun x =>
      match exec (.conversionCompletion 0 x.2) x.1 with
      | .next t => (x.1.pointStatus 0, t.pointStatus 0, t.active (.run .temperatureDeviation .r1))
      | _ => (.none, .none, false)) =
    [(.none, .range, false), (.none, .good, false), (.none, .deviation, true), (.deviation, .good, false)] ∧
    (match exec (.staleTimerExpiry 0 0) on with
      | .next t => (t.pointStatus 0, t.active (.run .temperatureDeviation .r1))
      | _ => (.none, true)) = (.stale, false) := by decide +kernel

/-- A boundary's marks: the STATION block, first in the rotation, with its code spoiled, and with a copy pending too. -/
theorem test_verification :
    let spoilt := (spoils 0 calm).state
    let pending := spoilt.withStore { spoilt.store with
      station := { spoilt.store.station with pending := some factoryStation } }
    calm.work.rotation = .station ∧ calm.active (.station .stationConfigCheck) = calm.mark .station ∧
    ([calm, spoilt, pending].map fun s =>
      match exec (.periodBoundary 5000000 ord) s with
      | .next t => [t.mark .station, t.active (.station .stationConfigCheck), t.commitPending .station]
      | _ => []) = [[false, false, false], [true, true, false], [false, false, false]] := by decide +kernel

/-- A nomination reached first at this boundary, before it, not yet, and with the held record in the way (R80, R81). -/
theorem test_nominations :
    ([(batch (some 0) false, none), (batch (some 1) true, none), (batch (some 1) false, none),
      (batch (some 0) false, some (ticket 13))] : List (ActiveBatch × Option Ticket)).map (fun x =>
      let s := batching .none x.1 x.2
      match exec (.periodBoundary 5000000 ord) s with
      | .next t => (nominated (credited s t x.1), t.store.active.isSome, t.store.slots.length,
          t.active (.station .ticketStoreFull))
      | _ => (false, false, 0, false)) =
    [(true, false, 1, false), (true, false, 1, false), (false, true, 0, false), (true, true, 0, true)] := by
  decide +kernel

theorem test_noTrip : NoTrip calm := by
  refine ⟨?_, fun b h => (nomatch h), by decide +kernel⟩
  intro i
  cases i with
  | run k r => cases r <;> cases k <;> exact fun h => absurd h (by decide +kernel)
  | station k => cases k <;> first | exact fun _ => rfl | exact fun h => absurd h (by decide +kernel)

/-- The part proving in PASS with a cut-over, a block, a closed run, or a lost counting channel at the boundary. -/
def overtaken (cutover block closes moves : Bool) : State :=
  let s := (proving .pass (some (round1 true false))).withChange (if cutover then .cutover else .none)
  let t := s.withStore { s.store with
    active := if cutover then some (batch none false) else none
    queue := if cutover then [{ id := 7, grade := 1, nomination := none, destination := none }] else []
    prover := { s.store.prover with pending := if block then some factoryProver else none }
    runs := s.store.runs.set .r1
      { s.store.runs.get .r1 with pendingService := if closes then some .closed else none } }
  (t.withTotalizer { t.totalizer with unsound := PerRun.tab fun _ => false }).setRunPulse .r1 { t.runPulse .r1 with a := { (t.runPulse .r1).a with lost := moves } }

/-- What ends the record at a boundary (R112, R117, R118). -/
def overtakes (s : State) : Option EndCause :=
  match exec (.periodBoundary 5000000 ord) s with
  | .next t => t.store.history.head?.bind (·.cause)
  | _ => none

/-- Each cause alone, the one taken first where it comes and the first of the others where it does not, and a judgement of
class TRIP. -/
theorem test_recordEndsAtABoundary :
    [overtaken true false false false, overtaken false true false false, overtaken false false true false,
      overtaken true true false false, overtaken false true true false,
      classed (every .trip) (overtaken false false false false)].map overtakes =
    [some .gradeChange, some .configChanged, some .runClosed, some .gradeChange, some .configChanged,
      some .runFailed] := by decide +kernel

/-- The period's flag, the mark of the next, and the round's mark: the counting channel moved, nothing judged but by class
NOTE, a judgement of class FLAG in the period, and one after it, by the verification (R111, R112). -/
theorem test_recordStaysAtABoundary :
    [classed (every .note) (overtaken false false false true), classed (every .note) (overtaken false false false false),
      overtaken false false false false,
      classed ((every .note).set 16 .flag) (overtaken false false false false)].map (fun s =>
      match exec (.periodBoundary 5000000 ord) s with
      | .next t => ((t.totalizer.last.r1.map (·.flagged)), t.totalizer.unsound.r1,
          (t.store.record.bind (·.current)).map fun c => (c.marks.flowUnstable, c.marks.runDegraded))
      | _ => (none, false, none)) =
    [(some false, false, some (true, true)), (some false, false, some (true, false)),
      (some true, true, some (true, true)), (some false, true, some (true, true))] := by decide +kernel

/-- The warning while a record holds the prover, and while the part is HALTED. -/
theorem test_warning :
    ([proving .armed none, halted].map fun s =>
      match exec (.powerFailWarning 0 ord) s with
      | .next t => (t.supply.power, t.store.history.map (·.cause), t.totalizer.last.r1.map (·.closing))
      | _ => (.running, [], none)) = [(.halted, [some .power], some true), (.halted, [], none)] := by decide +kernel

/-- A judgement that leaves its run SOUND, DEGRADED and FAILED, with the record it proves (R55, R112). -/
theorem test_followed :
    ([ConditionClass.note, .flag, .trip].map fun c =>
      let s := classed (every c) (overtaken false false false false)
      let t := judge (.run .pulseNoise .r1) true s
      (t.integrity .r1, t.totalizer.unsound.r1,
        (t.store.record.bind (·.current)).map (·.marks.runDegraded), t.store.history.map (·.cause))) =
    [(.sound, false, some false, []), (.degraded, true, some true, []), (.failed, true, none, [some .runFailed])] := by
  decide +kernel

/-- A reply's beginning sends its frame, and its end leaves none; after a character taken first at that instant it waits
(R182, R197). -/
theorem test_sentFrame :
    ([exec (.replyStart 1) (replying false), exec (.replyEnd 0) (sending false),
        exec (.replyStart 0) (chainOfCommands [.characterReceived 7 0] (replying false)),
        exec (.replyStart 1) (chainOfCommands [.characterReceived 7 0] (replying false))].map fun o =>
      match o with
      | .next t => t.link.sent
      | _ => [0]) = [replyFrame (reply false), [], [], replyFrame (reply false)] := by decide +kernel

/-- Whether a body of a type is refused for its length. -/
def lengthRefused (type : Nat) (b : List Byte) : Bool :=
  match parse type b with
  | .badLength => true
  | _ => false

/-- Every type but CSTG at every length up to its longest and beyond (R181, R198). -/
theorem test_lengths :
    ((List.range 42).all fun k => k + 1 == 34 || (List.range 26).all fun n =>
      lengthRefused (k + 1) (List.replicate n 0) == !(decide (n ∈ lengths (k + 1)))) = true := by decide +kernel

/-- CSTG bodies that groups fill, and that they do not: none, cut short, and a character over. -/
theorem test_cstgBodies :
    [[0, 0, 0, 2, 1, 2], [0, 0, 0, 0], [0], [], [0, 0, 0, 2, 1], [0, 0, 0, 0, 9]].map (lengthRefused 34) =
      [false, false, true, true, true, true] := by decide +kernel

theorem test_emptyIsNotFilled : ¬groupsFill [] ∧ groupsFill [0, 0, 0, 0] :=
  ⟨fun ⟨_, _, _, _, h⟩ => List.cons_ne_nil _ _ h.symm,
    0, [{ index := 0, value := [] }], by decide, by decide +kernel, by decide +kernel⟩

/-- What has just been started does not end at that instant, and ends later (R29, R34, R46, R101, R150, R178, R195). -/
theorem test_justStarted :
    ([0, 10000000].map fun dt =>
      let late : Instr → List Instr → State → State := fun i l s => chainOfCommands (l ++ [i]) s
      let held := late (.holdTimerExpiry dt) [] (judge (.run .pulseNoise .r1) true (classed (every .trip) holding))
      let stored := late (.staleTimerExpiry dt 0) [.conversionCompletion 0 500000] (converting none false .good)
      let taken := late (.conversionCompletion dt 500000) [.debounceExpiry 0 .d1]
        (activating .d1 .armed none)
      (held.monitor.hold.isSome, stored.pointStatus 0, taken.pointStatus 0)) =
    [(true, .good, .none), (false, .stale, .good)] ∧
    ([0, 10000000].map fun dt =>
      let heard := chainOfCommands [.characterReceived 0 2, .silenceTimerExpiry dt] (receiving (.header [1]) true)
      let set := chainOfCommands [.tset 0 own 9, .stationClockSecond dt] calm
      let asked := chainOfCommands [.preq 0 own 1 2 2 1, .alignTimeoutExpiry dt] calm
      let sent := chainOfCommands [.stat 0 own 0, .replyDeadlineExpiry dt] calm
      (heard.link.receiver, set.clock, asked.store.record.isSome,
        (chainOfCommands [.secondsSinceStartAdvance dt] calm).supply.seconds, sent.link.fault)) =
    [(.header [1, 2], 9, true, 0, .none), (.ready, 10, false, 1, .replyAbandoned)] := by decide +kernel

/-! ### The invariants -/

/-- A command waiting: the step every invariant is kept by. -/
def waiting : State := calm.withPending [.stationClockSecond 0]

theorem test_waitingSteps : step waiting = .next (calm.withClock 1) := rfl

theorem test_hypothesesOfTheInvariants :
    AuditInv waiting ∧ TicketInv waiting ∧ BatchInv waiting ∧ CurveInv waiting ∧ PermitInv waiting ∧ FlagInv waiting ∧
    GradesInv waiting ∧ ResidueInv waiting ∧ LinkInv waiting ∧ PulseInv waiting ∧ KindsInv waiting := by
  refine ⟨⟨by decide, by decide, ?_⟩, ⟨by decide, by decide, ?_, by decide⟩, ⟨by decide, by decide, ?_, by decide, ?_⟩,
    ?_, ?_, ?_, ⟨by decide, by decide, ?_, ?_, ?_⟩, ?_, ?_, ?_, ?_⟩
  · intro i e h; exact absurd h (by simp [waiting, calm, State.reset, factoryStore, State.withPending, State.withStore, State.withMonitor])
  · intro i e h; exact absurd h (by simp [tickets, waiting, calm, State.reset, factoryStore, State.withPending, State.withStore, State.withMonitor])
  · intro h; exact absurd h (by decide)
  · intro h; exact absurd h (by decide)
  · intro r; refine ⟨by cases r <;> decide, ?_, ?_⟩
    · intro c h; exact absurd h (by cases r <;> exact fun e => nomatch e)
    · intro c q h; exact absurd h (by cases r <;> exact fun e => nomatch e)
  · unfold PermitInv; decide +kernel
  · intro _ r h; exact absurd (by cases r <;> decide +kernel) h
  · intro b h; nomatch h
  · intro b h; nomatch h
  · intro b h; nomatch h
  · intro r; unfold fraction; cases r <;> decide +kernel
  · intro _; exact ⟨fun h => (nomatch h), fun h => (nomatch h)⟩
  · intro r; cases r <;> decide +kernel
  · unfold KindsInv; decide +kernel

theorem test_hypothesesOfProverKept : ProverInv waiting := by
  refine ⟨?_, by decide, ?_, ?_, by decide⟩
  · intro r; cases r <;> decide +kernel
  · intro x h; nomatch h
  · intro x h; nomatch h

end Sys2Proof.Tests
end

section
/-! A request frame that a listening part takes is described by its handler at the state the frame's last character
finds. The first part is shared by every request; the second settles the statement about ROPN and RCLS. -/

namespace Sys2Proof.Proofs

open Sys2Proof Sys2Proof.Machine Sys2Proof.Stated Sys2Proof.Laws

/-! ### The words of the statements and those of the model -/

theorem resetInstant_iff_atReset (s : State) : s.resetInstant = true ↔ AtReset s := by
  simp [State.resetInstant, AtReset, and_assoc]

theorem entryFree_eq_auditFree (t : State) : entryFree t = t.auditFree := rfl

theorem audited_eq_addAudit (scope : Option Run) (d : AuditData) (t : State) : audited scope d t = addAudit scope d t :=
  (addAudit_eq scope d t).symm

theorem advance_of_listening {dt : Nat} {s : State} (listening : Listening dt s) : advance dt s = later dt s :=
  advance_of_running dt s listening.1

theorem frameEnds_later (dt : Nat) (s : State) : frameEnds (later dt s) = arrived dt s := rfl

/-- A part that listens in the words of the statements is ready in those of the laws about requestFrame. -/
theorem ready_of_listening {dt : Nat} {s : State} (listening : Listening dt s) : Ready dt s := by
  have sameInstant := advance_of_listening listening
  obtain ⟨running, on, quiet, notReset⟩ := listening
  refine ⟨running, on, quiet, ?_⟩
  rw [sameInstant, Bool.eq_false_iff]
  exact fun h => notReset ((resetInstant_iff_atReset _).mp h)

/-! ### A taken request gives its handler's effect -/

/-- An effect as a request handler answers it; no restart is owed. -/
def outcomeOf (e : Effect) : State × Answer := (e.state, { status := e.status, body := e.body })

@[simp] theorem outcomeOf_refusal (t : State) (st : Status) : outcomeOf (refusal t st) = refuse t st := rfl

@[simp] theorem outcomeOf_done (t : State) (body : List Byte) : outcomeOf (done t body) = (t, ok body) := rfl

/-- A handler that answers an effect leaves that effect's state with its reply queued (R181). -/
theorem takeRequest_of_outcome {h : Header} {type : Nat} {handler : State → State × Answer} {t : State} {e : Effect}
    (answers : handler t = outcomeOf e) :
    takeRequest type h.tag handler t = replied h type e.status e.body e.state := by
  rw [takeRequest_eq, answers]
  rfl

/-- A request whose command is the frame of a handler has the effect the handler answers, whatever the state the frame's
last character finds. -/
theorem effects_of_handler {i : Instr} {dt : Nat} {h : Header} {type : Nat} {broadcast : Bool}
    {handler : State → State × Answer} {s : State} {effect : State → Effect} (taken : Taken dt h s)
    (frame : exec i s = requestFrame dt h type broadcast handler s)
    (answers : ∀ t, handler t = outcomeOf (effect t)) : Effects i dt h type s effect := by
  obtain ⟨listening, own, notAll⟩ := taken
  unfold Effects Gives
  rw [frame, requestFrame_addressed dt h type broadcast handler s (ready_of_listening listening) own notAll,
    advance_of_listening listening, frameEnds_later, takeRequest_of_outcome (answers _)]

/-! ### ROPN and RCLS -/

theorem exec_ropn (dt : Nat) (h : Header) (run : Nat) (s : State) :
    exec (.ropn dt h run) s = requestFrame dt h 9 false (reqService .opened run) s := rfl

theorem exec_rcls (dt : Nat) (h : Header) (run : Nat) (s : State) :
    exec (.rcls dt h run) s = requestFrame dt h 10 false (reqService .closed run) s := rfl

/-- The run's requested service state becomes its pending change, with the audit entry of the request (R60, R168). -/
def serviceRequested (target : Service) (r : Run) (t : State) : State :=
  let x := t.store.runs.get r
  audited (some r) (.runService target (x.cumulative.good.gsv + x.cumulative.flagged.gsv))
    (t.withStore { t.store with runs := t.store.runs.set r { x with pendingService := some target } })

/-- The effect of a request for a service state, with its refusals in the order of R60. -/
def serviceEffect (target : Service) (run : Nat) (t : State) : Effect :=
  onRun run t fun r =>
    if (t.store.runs.get r).pendingService.isSome then refusal t .badState
    else if (t.store.runs.get r).service = target then refusal t .badState
    else if entryFree t then done (serviceRequested target r t) []
    else refusal t .auditFull

/-- The handler's change of the run's totals and its audit entry are the pending change of the statement. -/
theorem addAudit_runService (target : Service) (r : Run) (t : State) :
    addAudit (some r) (.runService target (t.cumulativeGSV r))
        (t.setRunTotals r { t.store.runs.get r with pendingService := some target }) =
      serviceRequested target r t :=
  (audited_eq_addAudit _ _ _).symm

theorem reqService_eq_serviceEffect (target : Service) (run : Nat) (t : State) :
    reqService target run t = outcomeOf (serviceEffect target run t) := by
  unfold reqService serviceEffect onRun
  cases runOf run with
  | none => rfl
  | some r =>
    simp only [addAudit_runService, entryFree_eq_auditFree]
    by_cases pending : (t.store.runs.get r).pendingService.isSome = true
    · simp [pending]
    by_cases held : (t.store.runs.get r).service = target
    · simp [pending, held]
    by_cases free : t.auditFree = true
    · simp [pending, held, free]
    · simp [pending, held, free]

/-- Settles O11: both commands are the frame of one handler, which answers the stated effect in every state. -/
theorem serviceRequests : Obligations.ServiceRequests :=
  ⟨fun dt h run s taken =>
      effects_of_handler taken (exec_ropn dt h run s) (reqService_eq_serviceEffect .opened run),
    fun dt h run s taken =>
      effects_of_handler taken (exec_rcls dt h run s) (reqService_eq_serviceEffect .closed run)⟩

end Sys2Proof.Proofs
end

section
/-! The requests that schedule and delete batches and that ask for the active batch to end: each handler has the stated
effect in every state, and effects_of_handler carries that to the frame. -/

namespace Sys2Proof.Proofs

open Sys2Proof Sys2Proof.Machine Sys2Proof.Stated Sys2Proof.Laws

/-! ### The frames -/

theorem exec_bsch (dt : Nat) (h : Header) (id grade : Nat) (nomination : Option Nat) (destination : Option (List Byte))
    (s : State) :
    exec (.bsch dt h id grade nomination destination) s =
      requestFrame dt h 13 false (reqBsch id grade nomination destination) s := rfl

theorem exec_bdel (dt : Nat) (h : Header) (id : Nat) (s : State) :
    exec (.bdel dt h id) s = requestFrame dt h 14 false (reqBdel id) s := rfl

theorem exec_bend (dt : Nat) (h : Header) (s : State) :
    exec (.bend dt h) s = requestFrame dt h 16 false reqBend s := rfl

theorem exec_bcut (dt : Nat) (h : Header) (s : State) :
    exec (.bcut dt h) s = requestFrame dt h 17 false reqBcut s := rfl

/-! ### The fields of a batch entry -/

theorem batchIdValid_iff (id : Nat) : batchIdValid id = true ↔ 1 ≤ id ∧ id ≤ 999999 := decide_eq_true_iff

theorem nominationValid_iff (nomination : Option Nat) :
    nominationValid nomination = true ↔ ∀ n ∈ nomination, 1 ≤ n ∧ n ≤ 9999999999 := by
  cases nomination with
  | none => simp only [nominationValid, Option.mem_def, reduceCtorEq, false_implies, implies_true]
  | some x => simp only [nominationValid, Option.mem_some, forall_eq', decide_eq_true_iff]

theorem destinationValid_iff (destination : Option (List Byte)) :
    destinationValid destination = true ↔
      ∀ d ∈ destination, (1 ≤ d.length ∧ d.length ≤ 8) ∧ d.all printable = true := by
  cases destination with
  | none => simp only [destinationValid, Option.mem_def, reduceCtorEq, false_implies, implies_true]
  | some x => simp only [destinationValid, Option.mem_some, forall_eq', Bool.and_eq_true, decide_eq_true_iff]

/-- The four tests BSCH makes of its fields, in the words of R70 and R71. -/
theorem batchFieldsValid_iff (id grade : Nat) (nomination : Option Nat) (destination : Option (List Byte)) (t : State) :
    (batchIdValid id && (t.gradeEntry grade).isSome && nominationValid nomination && destinationValid destination) =
        true ↔
      (1 ≤ id ∧ id ≤ 999999) ∧ (t.gradeEntry grade).isSome = true ∧
        (∀ n ∈ nomination, 1 ≤ n ∧ n ≤ 9999999999) ∧
        (∀ d ∈ destination, (1 ≤ d.length ∧ d.length ≤ 8) ∧ d.all printable = true) := by
  simp only [Bool.and_eq_true, batchIdValid_iff, nominationValid_iff, destinationValid_iff, and_assoc]

/-! ### The ids in use -/

theorem activeId_eq_any (t : State) (id : Nat) :
    t.activeId id = t.store.active.any fun b => decide (b.entry.id = id) := by
  unfold State.activeId
  cases t.store.active <;> rfl

theorem queuedId_eq_any (t : State) (id : Nat) : t.queuedId id = t.store.queue.any fun e => decide (e.id = id) := rfl

/-- A head is reserved while a start or a cutover is pending (R75, R77). -/
theorem reservedHead_eq_some_iff (t : State) (id : Nat) :
    t.reservedHead = some id ↔
      (t.change = .start ∨ t.change = .cutover) ∧ t.store.queue.head?.any (fun e => decide (e.id = id)) = true := by
  unfold State.reservedHead
  by_cases reserves : t.change = .start ∨ t.change = .cutover
  · rw [if_pos reserves]
    simp only [reserves, Option.map_eq_some_iff, Option.any_eq_true, decide_eq_true_iff, true_and]
  · rw [if_neg reserves]
    simp only [reserves, false_and, reduceCtorEq]

/-- BSCH asks for room first, the statement for a full queue first (R70, R71). -/
theorem lt_queueCapacity_iff (n : Nat) : n < Config.queueCapacity ↔ ¬8 ≤ n := Nat.not_le.symm

/-! ### The outcome of an effect that tests -/

theorem outcomeOf_ite (c : Prop) [Decidable c] (d e : Effect) :
    outcomeOf (if c then d else e) = if c then outcomeOf d else outcomeOf e := apply_ite outcomeOf c d e

/-! ### The statements

In each proof the handler's tests are put in the words of the statement, and the outcome of the stated effect is taken
branch by branch: both sides then make the same tests in the same order and agree in every branch. -/

/-- Settles O13: BSCH's tests of the fields, of the ids in use and of the room are those of the statement. -/
theorem bschSchedulesABatch : Obligations.BschSchedulesABatch := by
  intro dt h id grade nomination destination s taken
  refine effects_of_handler taken (exec_bsch dt h id grade nomination destination s) fun t => ?_
  unfold reqBsch
  simp only [batchFieldsValid_iff, activeId_eq_any, queuedId_eq_any, lt_queueCapacity_iff, ite_not,
    outcomeOf_ite, outcomeOf_refusal, outcomeOf_done]

/-- Settles O14: BDEL's tests of the range, of the active batch, of the queue and of the reserved head are those of the
statement. -/
theorem bdelRemovesABatch : Obligations.BdelRemovesABatch := by
  intro dt h id s taken
  refine effects_of_handler taken (exec_bdel dt h id s) fun t => ?_
  unfold reqBdel
  simp only [batchIdValid_iff, activeId_eq_any, queuedId_eq_any, reservedHead_eq_some_iff, Bool.not_eq_true',
    ← Bool.not_eq_true, ite_not, outcomeOf_ite, outcomeOf_refusal, outcomeOf_done]

/-- Settles O16: both commands refuse alike; BCUT asks in addition for a head of the queue, whose id it answers. -/
theorem bendAndBcutAskForTheEnd : Obligations.BendAndBcutAskForTheEnd := by
  constructor
  · intro dt h s taken
    refine effects_of_handler taken (exec_bend dt h s) fun t => ?_
    unfold reqBend
    simp only [Option.isNone_iff_eq_none, Option.isSome_iff_ne_none, outcomeOf_ite, outcomeOf_refusal, outcomeOf_done]
  · intro dt h s taken
    refine effects_of_handler taken (exec_bcut dt h s) fun t => ?_
    unfold reqBcut
    simp only [Option.isNone_iff_eq_none, Option.isSome_iff_ne_none]
    cases t.store.queue with
    | nil => simp only [outcomeOf_ite, outcomeOf_refusal]
    | cons head rest => simp only [outcomeOf_ite, outcomeOf_refusal, outcomeOf_done]

end Sys2Proof.Proofs
end

section
/-! Bands of rates and the form of a curve (R126, R127). Each is put once in linear arithmetic: the points of a curve in
form are pairwise far apart, and two rates that are far apart and in the band of a third stand on its two sides. -/

namespace Sys2Proof.Proofs

open Sys2Proof Sys2Proof.Machine

/-! ### Bands and distances -/

theorem absDiff_comm (x y : Nat) : absDiff x y = absDiff y x := by
  unfold absDiff
  split <;> split <;> omega

theorem inBand_comm (x y : Nat) : inBand x y = inBand y x := by
  unfold inBand
  rw [absDiff_comm, Nat.min_comm]

/-- The difference and the lower rate, written out for the order in which the two rates stand. -/
theorem inBand_iff_of_order (x y : Nat) :
    inBand x y = true ↔ (if x ≤ y then (y - x) * 100 ≤ 5 * x else (x - y) * 100 ≤ 5 * y) := by
  unfold inBand absDiff
  by_cases ordered : x ≤ y
  · simp [ordered]
  · simp [ordered, Nat.min_eq_right (Nat.le_of_not_le ordered)]

/-- In the band: neither rate exceeds 1.05 times the other. -/
theorem inBand_iff (x y : Nat) : inBand x y = true ↔ 100 * y ≤ 105 * x ∧ 100 * x ≤ 105 * y := by
  rw [inBand_iff_of_order]
  split <;> omega

theorem inBand_zero_iff (x : Nat) : inBand x 0 = true ↔ x = 0 := by
  rw [inBand_iff]
  omega

/-- Far apart: the higher rate exceeds 1.05 times the lower. -/
theorem farApart_iff (low high : Nat) : farApart low high = true ↔ 105 * low < 100 * high := by
  unfold farApart
  rw [decide_eq_true_iff]
  omega

theorem lt_of_farApart {low high : Nat} (far : farApart low high = true) : low < high := by
  rw [farApart_iff] at far
  omega

theorem farApart_trans {low mid high : Nat} (far : farApart low mid = true) (far' : farApart mid high = true) :
    farApart low high = true := by
  rw [farApart_iff] at *
  omega

theorem inBand_eq_false_of_farApart {low high : Nat} (far : farApart low high = true) : inBand low high = false := by
  rw [farApart_iff] at far
  rw [← Bool.not_eq_true, inBand_iff]
  omega

/-- Two rates below a third, or two above it, would lie in each other's band (R127). -/
theorem between_of_inBand_of_farApart {low high q : Nat} (far : farApart low high = true) (lowIn : inBand low q = true)
    (highIn : inBand high q = true) : low < q ∧ q < high := by
  rw [farApart_iff] at far
  rw [inBand_iff] at lowIn highIn
  omega

/-! ### The form of a curve -/

/-- Every earlier point of the list is far below every later one. -/
def Spaced (cv : List CurvePoint) : Prop := cv.Pairwise fun p p' => farApart p.rate p'.rate = true

theorem spaced_of_curveSpaced (cv : List CurvePoint) (spaced : curveSpaced cv = true) : Spaced cv := by
  induction cv using curveSpaced.induct with
  | case1 => exact List.Pairwise.nil
  | case2 p => exact List.pairwise_singleton _ p
  | case3 p p2 rest ih =>
    rw [curveSpaced, Bool.and_eq_true] at spaced
    obtain ⟨far, tailSpaced⟩ := spaced
    have tail : Spaced (p2 :: rest) := ih tailSpaced
    refine List.pairwise_cons.mpr ⟨?_, tail⟩
    rintro x (_ | ⟨_, later⟩)
    · exact far
    · exact farApart_trans far ((List.pairwise_cons.mp tail).1 x later)

theorem spaced_of_curveForm {cv : List CurvePoint} (form : curveForm cv = true) : Spaced cv := by
  simp only [curveForm, Bool.and_eq_true] at form
  obtain ⟨⟨_, spaced⟩, _⟩ := form
  exact spaced_of_curveSpaced cv spaced

theorem mf_range_of_curveForm {cv : List CurvePoint} (form : curveForm cv = true) :
    ∀ p ∈ cv, 8000 ≤ p.mf ∧ p.mf ≤ 12000 := by
  simp only [curveForm, Bool.and_eq_true, List.all_eq_true, decide_eq_true_iff] at form
  exact form.2

/-- A list with successive members at k, split before them. -/
theorem exists_eq_append_of_successive {α : Type} {l : List α} {k : Nat} {a b : α} (first : l[k]? = some a)
    (second : l[k + 1]? = some b) : ∃ before after, l = before ++ a :: b :: after := by
  obtain ⟨inside, rfl⟩ := List.getElem?_eq_some_iff.mp first
  obtain ⟨inside', rfl⟩ := List.getElem?_eq_some_iff.mp second
  refine ⟨l.take k, l.drop (k + 2), ?_⟩
  rw [← List.drop_eq_getElem_cons inside', ← List.drop_eq_getElem_cons inside, List.take_append_drop]

theorem farApart_of_successive {cv : List CurvePoint} {k : Nat} {p1 p2 : CurvePoint} (spaced : Spaced cv)
    (first : cv[k]? = some p1) (second : cv[k + 1]? = some p2) : farApart p1.rate p2.rate = true := by
  obtain ⟨before, after, rfl⟩ := exists_eq_append_of_successive first second
  obtain ⟨_, tail, _⟩ := List.pairwise_append.mp spaced
  exact (List.pairwise_cons.mp tail).1 p2 (by simp)

/-! ### The points in one band -/

/-- The points of a curve in the band of q. -/
def inBandOf (q : Nat) (cv : List CurvePoint) : List CurvePoint := cv.filter fun p => inBand p.rate q

theorem inBand_of_mem_inBandOf {q : Nat} {cv : List CurvePoint} {p : CurvePoint} (mem : p ∈ inBandOf q cv) :
    inBand p.rate q = true := (List.mem_filter.mp mem).2

theorem spaced_inBandOf {cv : List CurvePoint} (q : Nat) (spaced : Spaced cv) : Spaced (inBandOf q cv) :=
  List.Pairwise.filter _ spaced

/-- Successive points in the band of q stand on its two sides. -/
theorem between_of_spaced_of_inBand {q : Nat} {p1 p2 : CurvePoint} {rest : List CurvePoint}
    (spaced : Spaced (p1 :: p2 :: rest)) (inBands : ∀ p ∈ p1 :: p2 :: rest, inBand p.rate q = true) :
    p1.rate < q ∧ q < p2.rate :=
  have far : farApart p1.rate p2.rate = true := (List.pairwise_cons.mp spaced).1 p2 (by simp)
  between_of_inBand_of_farApart far (inBands p1 (by simp)) (inBands p2 (by simp))

/-- With three points in the band of q the middle one would stand above q and below it. -/
theorem length_le_two_of_spaced_of_inBand {q : Nat} :
    ∀ l : List CurvePoint, Spaced l → (∀ p ∈ l, inBand p.rate q = true) → l.length ≤ 2
  | [], _, _ | [_], _, _ | [_, _], _, _ => by simp
  | p1 :: p2 :: p3 :: rest, spaced, inBands => by
    have above : q < p2.rate := (between_of_spaced_of_inBand spaced inBands).2
    have below : p2.rate < q :=
      (between_of_spaced_of_inBand spaced.of_cons fun p mem => inBands p (List.mem_cons_of_mem p1 mem)).1
    omega

/-- Settles O49: the points of a curve are pairwise far apart, and far points in one band stand on its two sides. -/
theorem bandsOfRates : Obligations.BandsOfRates := by
  refine ⟨inBand_iff_of_order, inBand_comm, inBand_zero_iff, fun cv q form => ?_⟩
  have spaced := spaced_of_curveForm form
  refine ⟨fun k p1 p2 first second => inBand_eq_false_of_farApart (farApart_of_successive spaced first second),
    length_le_two_of_spaced_of_inBand _ (spaced_inBandOf q spaced) fun p => inBand_of_mem_inBandOf, ?twoSides⟩
  case twoSides =>
    intro p1 p2 (band : inBandOf q cv = [p1, p2])
    have inBands : ∀ p ∈ [p1, p2], inBand p.rate q = true := fun p mem =>
      inBand_of_mem_inBandOf (band ▸ mem)
    have spacedBand : Spaced [p1, p2] := band ▸ spaced_inBandOf q spaced
    exact between_of_spaced_of_inBand spacedBand inBands

end Sys2Proof.Proofs
end

section
/-! The lookup of a curve (R128). Four equations say what it gives by where the rate stands to the first points; points
below the rate can be dropped, so each row of R128's table is one of them at the place where the rate stands. -/

namespace Sys2Proof.Proofs

open Sys2Proof Sys2Proof.Machine

/-! ### Rounding and interpolation -/

theorem le_roundHalf {n : Nat} {x : Rat} (le : (n : Rat) ≤ x) : (n : Int) ≤ roundHalf x := by
  have nonneg : 0 ≤ x := Rat.le_trans Rat.natCast_nonneg le
  rw [roundHalf, if_pos nonneg, Rat.le_floor_iff, Rat.intCast_natCast]
  grind

theorem roundHalf_le {n : Nat} {x : Rat} (nonneg : 0 ≤ x) (le : x ≤ n) : roundHalf x ≤ n := by
  have below : (x + 1 / 2).floor < (n : Int) + 1 := by
    rw [Rat.floor_lt_iff, Rat.intCast_add, Rat.intCast_natCast]
    grind
  rw [roundHalf, if_pos nonneg]
  omega

/-- The fraction of the way from one rate to another lies between 0 and 1. -/
theorem fraction_range {low q high : Rat} (above : low < q) (below : q < high) :
    0 ≤ (q - low) / (high - low) ∧ (q - low) / (high - low) ≤ 1 := by
  have width : 0 < high - low := by grind
  have positive : 0 < (q - low) / (high - low) := by
    rw [Rat.lt_div_iff width]
    grind
  have belowOne : (q - low) / (high - low) < 1 := by
    rw [Rat.div_lt_iff width]
    grind
  exact ⟨Rat.le_of_lt positive, Rat.le_of_lt belowOne⟩

/-- A mean of two values with weights 1 - w and w is no less than a lower bound of both. -/
theorem le_weightedMean {w bound first second : Rat} (weight : 0 ≤ w ∧ w ≤ 1) (le : bound ≤ first)
    (le' : bound ≤ second) : bound ≤ first + w * (second - first) := by
  have firstPart : 0 ≤ (1 - w) * (first - bound) := Rat.mul_nonneg (by grind) (by grind)
  have secondPart : 0 ≤ w * (second - bound) := Rat.mul_nonneg weight.1 (by grind)
  grind

/-- The upper bound is the lower bound of the negated values. -/
theorem weightedMean_le {w bound first second : Rat} (weight : 0 ≤ w ∧ w ≤ 1) (le : first ≤ bound)
    (le' : second ≤ bound) : first + w * (second - first) ≤ bound := by
  have negated : -bound ≤ -first + w * (-second - -first) :=
    le_weightedMean weight (Rat.neg_le_neg le) (Rat.neg_le_neg le')
  grind

/-- The interpolated value before it is rounded (R128). -/
def exactMf (p1 p2 : CurvePoint) (q : Nat) : Rat :=
  (p1.mf : Rat) + ((q : Rat) - (p1.rate : Rat)) / ((p2.rate : Rat) - (p1.rate : Rat)) * ((p2.mf : Rat) - (p1.mf : Rat))

theorem interpolate_eq (p1 p2 : CurvePoint) (q : Nat) : interpolate p1 p2 q = (roundHalf (exactMf p1 p2 q)).toNat := rfl

/-- Between two rates the interpolated value lies between the two factors: it is a weighted mean of them. -/
theorem exactMf_range {p1 p2 : CurvePoint} {q lo hi : Nat} (above : p1.rate < q) (below : q < p2.rate)
    (first : lo ≤ p1.mf ∧ p1.mf ≤ hi) (second : lo ≤ p2.mf ∧ p2.mf ≤ hi) :
    (lo : Rat) ≤ exactMf p1 p2 q ∧ exactMf p1 p2 q ≤ (hi : Rat) := by
  have weight := fraction_range (Rat.natCast_lt_natCast.mpr above) (Rat.natCast_lt_natCast.mpr below)
  obtain ⟨firstLow, firstHigh⟩ := first
  obtain ⟨secondLow, secondHigh⟩ := second
  exact ⟨le_weightedMean weight (Rat.natCast_le_natCast.mpr firstLow) (Rat.natCast_le_natCast.mpr secondLow),
    weightedMean_le weight (Rat.natCast_le_natCast.mpr firstHigh) (Rat.natCast_le_natCast.mpr secondHigh)⟩

/-- The rounded value keeps to whole bounds of the two factors. -/
theorem roundHalf_exactMf_range {p1 p2 : CurvePoint} {q lo hi : Nat} (above : p1.rate < q) (below : q < p2.rate)
    (first : lo ≤ p1.mf ∧ p1.mf ≤ hi) (second : lo ≤ p2.mf ∧ p2.mf ≤ hi) :
    (lo : Int) ≤ roundHalf (exactMf p1 p2 q) ∧ roundHalf (exactMf p1 p2 q) ≤ hi := by
  obtain ⟨low, high⟩ := exactMf_range above below first second
  exact ⟨le_roundHalf low, roundHalf_le (Rat.le_trans Rat.natCast_nonneg low) high⟩

/-- The rounded value is no less than 0, so that taking it as a natural number loses nothing. -/
theorem interpolate_cast {p1 p2 : CurvePoint} {q : Nat} (above : p1.rate < q) (below : q < p2.rate) :
    (interpolate p1 p2 q : Int) = roundHalf (exactMf p1 p2 q) := by
  rw [interpolate_eq]
  exact Int.toNat_of_nonneg (roundHalf_exactMf_range (lo := 0) (hi := max p1.mf p2.mf) above below
    ⟨Nat.zero_le _, Nat.le_max_left _ _⟩ ⟨Nat.zero_le _, Nat.le_max_right _ _⟩).1

theorem interpolate_range {p1 p2 : CurvePoint} {q lo hi : Nat} (above : p1.rate < q) (below : q < p2.rate)
    (first : lo ≤ p1.mf ∧ p1.mf ≤ hi) (second : lo ≤ p2.mf ∧ p2.mf ≤ hi) :
    lo ≤ interpolate p1 p2 q ∧ interpolate p1 p2 q ≤ hi := by
  have range := roundHalf_exactMf_range above below first second
  rw [← interpolate_cast above below] at range
  omega

/-! ### What a lookup gives, by where the rate stands -/

@[simp] theorem lookup_nil (q : Nat) : lookup [] q = 10000 := rfl

@[simp] theorem lookup_singleton (p : CurvePoint) (q : Nat) : lookup [p] q = p.mf := by
  simp [lookup, lookupFrom]

theorem lookup_of_le_head {p : CurvePoint} {q : Nat} (rest : List CurvePoint) (le : q ≤ p.rate) :
    lookup (p :: rest) q = p.mf := if_pos le

theorem lookup_between {p p2 : CurvePoint} {q : Nat} (rest : List CurvePoint) (above : p.rate < q)
    (below : q < p2.rate) : lookup (p :: p2 :: rest) q = interpolate p p2 q := by
  simp [lookup, lookupFrom, Nat.not_le.mpr above, Nat.ne_of_lt below, below]

/-- A head whose successor is still not above the rate has no part in the lookup. -/
theorem lookup_drop_head {p p2 : CurvePoint} {q : Nat} (rest : List CurvePoint) (above : p.rate < q)
    (le : p2.rate ≤ q) : lookup (p :: p2 :: rest) q = lookup (p2 :: rest) q := by
  by_cases atPoint : q = p2.rate
  · simp [lookup, lookupFrom, Nat.not_le.mpr above, ← atPoint]
  · have notBelow : ¬q < p2.rate := Nat.not_lt.mpr le
    have notLe : ¬q ≤ p2.rate := fun h => atPoint (Nat.le_antisymm h le)
    simp [lookup, lookupFrom, Nat.not_le.mpr above, atPoint, notBelow, notLe]

/-- All points before one that is not above the rate can be dropped. -/
theorem lookup_drop_append {q : Nat} {p : CurvePoint} (rest : List CurvePoint) (le : p.rate ≤ q) :
    ∀ before : List CurvePoint, Spaced (before ++ p :: rest) → lookup (before ++ p :: rest) q = lookup (p :: rest) q
  | [], _ => rfl
  | [x], spaced => by
    have far := (List.pairwise_cons.mp spaced).1 p (by simp)
    exact lookup_drop_head rest (Nat.lt_of_lt_of_le (lt_of_farApart far) le) le
  | x :: y :: before, spaced => by
    obtain ⟨fromX, spacedTail⟩ := List.pairwise_cons.mp spaced
    have xBelow : x.rate < p.rate := lt_of_farApart (fromX p (by simp))
    have yBelow : y.rate < p.rate := lt_of_farApart ((List.pairwise_cons.mp spacedTail).1 p (by simp))
    calc lookup (x :: y :: (before ++ p :: rest)) q
        = lookup (y :: (before ++ p :: rest)) q :=
          lookup_drop_head _ (Nat.lt_of_lt_of_le xBelow le) (Nat.le_trans (Nat.le_of_lt yBelow) le)
      _ = lookup (p :: rest) q := lookup_drop_append rest le (y :: before) spacedTail

/-! ### The rows of R128's table -/

theorem lookup_at_point {cv : List CurvePoint} {p : CurvePoint} (spaced : Spaced cv) (mem : p ∈ cv) :
    lookup cv p.rate = p.mf := by
  obtain ⟨before, after, rfl⟩ := List.append_of_mem mem
  rw [lookup_drop_append after (Nat.le_refl _) before spaced, lookup_of_le_head after (Nat.le_refl _)]

theorem lookup_below_head {cv : List CurvePoint} {p : CurvePoint} {q : Nat} (head : cv.head? = some p)
    (below : q < p.rate) : lookup cv q = p.mf := by
  obtain ⟨rest, rfl⟩ := List.head?_eq_some_iff.mp head
  exact lookup_of_le_head rest (Nat.le_of_lt below)

theorem lookup_above_last {cv : List CurvePoint} {p : CurvePoint} {q : Nat} (spaced : Spaced cv)
    (last : cv.getLast? = some p) (above : p.rate < q) : lookup cv q = p.mf := by
  obtain ⟨before, rfl⟩ := List.getLast?_eq_some_iff.mp last
  rw [lookup_drop_append [] (Nat.le_of_lt above) before spaced, lookup_singleton]

theorem lookup_between_successive {cv : List CurvePoint} {k q : Nat} {p1 p2 : CurvePoint} (spaced : Spaced cv)
    (first : cv[k]? = some p1) (second : cv[k + 1]? = some p2) (above : p1.rate < q) (below : q < p2.rate) :
    lookup cv q = interpolate p1 p2 q := by
  obtain ⟨before, after, rfl⟩ := exists_eq_append_of_successive first second
  rw [lookup_drop_append (p2 :: after) (Nat.le_of_lt above) before spaced, lookup_between after above below]

/-- A lookup keeps to whole bounds of the points' factors that hold 1.0000 too. -/
theorem lookup_range {q lo hi : Nat} (unity : lo ≤ 10000 ∧ 10000 ≤ hi) (cv : List CurvePoint)
    (range : ∀ p ∈ cv, lo ≤ p.mf ∧ p.mf ≤ hi) : lo ≤ lookup cv q ∧ lookup cv q ≤ hi := by
  induction cv using curveSpaced.induct with
  | case1 => exact unity
  | case2 p =>
    rw [lookup_singleton]
    exact range p (by simp)
  | case3 p p2 rest ih =>
    by_cases atHead : q ≤ p.rate
    · rw [lookup_of_le_head _ atHead]
      exact range p (by simp)
    have above : p.rate < q := Nat.lt_of_not_le atHead
    by_cases below : q < p2.rate
    · rw [lookup_between rest above below]
      exact interpolate_range above below (range p (by simp)) (range p2 (by simp))
    · rw [lookup_drop_head rest above (Nat.le_of_not_lt below)]
      exact ih fun x mem => range x (List.mem_cons_of_mem p mem)

theorem extrapolated_iff (cv : List CurvePoint) (q : Nat) :
    extrapolated cv q = true ↔
      0 < q ∧ (cv = [] ∨ (∃ p ∈ cv.head?, q < p.rate) ∨ (∃ p ∈ cv.getLast?, p.rate < q)) := by
  cases cv with
  | nil => simp [extrapolated]
  | cons p rest => simp [extrapolated, List.getLast?_eq_some_getLast]

/-- Settles O48: the rows of R128's table, the range of a lookup, and the lookups outside the span. -/
theorem curveLookup : Obligations.CurveLookup := by
  refine ⟨lookup_nil, lookup_singleton, fun cv q form => ?_⟩
  have spaced := spaced_of_curveForm form
  refine ⟨?atPoint, fun p head => lookup_below_head head, fun p last => lookup_above_last spaced last, ?between,
    lookup_range (by decide) cv (mf_range_of_curveForm form), extrapolated_iff cv q⟩
  case atPoint =>
    rintro p mem rfl
    exact lookup_at_point spaced mem
  case between =>
    intro k p1 p2 first second above below
    rw [lookup_between_successive spaced first second above below]
    exact interpolate_cast above below

end Sys2Proof.Proofs
end

section
/-! Placing an offered point (R132). Whatever the band of the point holds, the curve after it is the points out of the
band with the offered one inserted; the points in the band decide only what is replaced and removed. -/

namespace Sys2Proof.Proofs

open Sys2Proof Sys2Proof.Machine

/-! ### The form of a curve, by its parts -/

theorem curveSpaced_of_spaced (cv : List CurvePoint) (spaced : Spaced cv) : curveSpaced cv = true := by
  induction cv using curveSpaced.induct with
  | case1 => rfl
  | case2 p => rfl
  | case3 p p2 rest ih =>
    obtain ⟨fromP, tail⟩ := List.pairwise_cons.mp spaced
    rw [curveSpaced, Bool.and_eq_true]
    exact ⟨fromP p2 (by simp), ih tail⟩

theorem curveForm_iff (cv : List CurvePoint) :
    curveForm cv = true ↔ cv.length ≤ 8 ∧ Spaced cv ∧ ∀ p ∈ cv, 8000 ≤ p.mf ∧ p.mf ≤ 12000 := by
  constructor
  · intro form
    refine ⟨?_, spaced_of_curveForm form, mf_range_of_curveForm form⟩
    simp only [curveForm, Bool.and_eq_true, decide_eq_true_iff] at form
    exact form.1.1
  · rintro ⟨short, spaced, range⟩
    simp only [curveForm, Bool.and_eq_true, List.all_eq_true, decide_eq_true_iff]
    exact ⟨⟨short, curveSpaced_of_spaced cv spaced⟩, range⟩

/-- A curve keeps its form when points are deleted. -/
theorem curveForm_filter {cv : List CurvePoint} (form : curveForm cv = true) (keep : CurvePoint → Bool) :
    curveForm (cv.filter keep) = true := by
  rw [curveForm_iff] at form ⊢
  obtain ⟨short, spaced, range⟩ := form
  exact ⟨Nat.le_trans (List.length_filter_le _ _) short, spaced.filter _, fun p mem => range p (List.mem_filter.mp mem).1⟩

/-! ### Inserting a point -/

theorem mem_insertPoint {x p : CurvePoint} {cv : List CurvePoint} : p ∈ insertPoint x cv ↔ p = x ∨ p ∈ cv := by
  induction cv with
  | nil => simp [insertPoint]
  | cons y rest ih =>
    unfold insertPoint
    split
    · simp
    · simp only [List.mem_cons, ih]
      exact or_left_comm

theorem length_insertPoint (x : CurvePoint) (cv : List CurvePoint) : (insertPoint x cv).length = cv.length + 1 := by
  induction cv with
  | nil => rfl
  | cons y rest ih =>
    unfold insertPoint
    split
    · rfl
    · simp [ih]

/-- Of two rates not in one band the one that is not below the other is far above it. -/
theorem farApart_of_not_inBand {low high : Nat} (out : inBand low high = false) (le : low ≤ high) :
    farApart low high = true := by
  rw [farApart_iff]
  rw [← Bool.not_eq_true, inBand_iff] at out
  omega

/-- A point inserted among points out of its band keeps the rates far apart. -/
theorem spaced_insertPoint {x : CurvePoint} {cv : List CurvePoint} (spaced : Spaced cv)
    (out : ∀ p ∈ cv, inBand p.rate x.rate = false) : Spaced (insertPoint x cv) := by
  induction cv with
  | nil => exact List.pairwise_singleton _ _
  | cons y rest ih =>
    obtain ⟨fromY, tail⟩ := List.pairwise_cons.mp spaced
    have outY : inBand y.rate x.rate = false := out y (by simp)
    unfold insertPoint
    split
    next below =>
      have far : farApart x.rate y.rate = true :=
        farApart_of_not_inBand (by rw [inBand_comm]; exact outY) (Nat.le_of_lt below)
      refine List.pairwise_cons.mpr ⟨fun p mem => ?_, spaced⟩
      rcases List.mem_cons.mp mem with rfl | later
      · exact far
      · exact farApart_trans far (fromY p later)
    next notBelow =>
      refine List.pairwise_cons.mpr ⟨fun p mem => ?_, ih tail fun p mem => out p (List.mem_cons_of_mem y mem)⟩
      rcases mem_insertPoint.mp mem with rfl | later
      · exact farApart_of_not_inBand outY (Nat.le_of_not_lt notBelow)
      · exact fromY p later

/-! ### What placing does, by what stands in the band -/

/-- The points of a curve out of the band of q. -/
def outOfBand (q : Nat) (cv : List CurvePoint) : List CurvePoint := cv.filter fun p => !inBand p.rate q

theorem mem_outOfBand {q : Nat} {cv : List CurvePoint} {p : CurvePoint} :
    p ∈ outOfBand q cv ↔ p ∈ cv ∧ inBand p.rate q = false := by
  simp [outOfBand]

theorem mem_inBandOf {q : Nat} {cv : List CurvePoint} {p : CurvePoint} :
    p ∈ inBandOf q cv ↔ p ∈ cv ∧ inBand p.rate q = true := by
  simp [inBandOf]

theorem length_outOfBand_add (q : Nat) (cv : List CurvePoint) :
    (outOfBand q cv).length + (inBandOf q cv).length = cv.length := by
  have counted := List.length_eq_countP_add_countP (fun p : CurvePoint => inBand p.rate q) (l := cv)
  simp only [Bool.not_eq_true, Bool.decide_eq_false] at counted
  unfold outOfBand inBandOf
  rw [← List.countP_eq_length_filter, ← List.countP_eq_length_filter, counted, Nat.add_comm]

theorem outOfBand_of_none {q : Nat} {cv : List CurvePoint} (none_ : inBandOf q cv = []) : outOfBand q cv = cv := by
  refine List.filter_eq_self.mpr fun p mem => ?_
  have out : ¬inBand p.rate q = true := List.filter_eq_nil_iff.mp none_ p mem
  simpa using out

/-- The placement that replaces one point and may remove another. -/
def placed (x : CurvePoint) (cv : List CurvePoint) (replaced removed : Option CurvePoint) : Placement :=
  { curve := insertPoint x (outOfBand x.rate cv), replaced := replaced, removed := removed }

theorem place_of_none {cv : List CurvePoint} {x : CurvePoint} (band : inBandOf x.rate cv = []) :
    place cv x = if cv.length < 8 then some (placed x cv none none) else none := by
  unfold place
  have band' : (cv.filter fun p => inBand p.rate x.rate) = [] := band
  simp only [band', placed, outOfBand_of_none band]
  rfl

theorem place_of_one {cv : List CurvePoint} {x p : CurvePoint} (band : inBandOf x.rate cv = [p]) :
    place cv x = some (placed x cv (some p) none) := by
  unfold place
  have band' : (cv.filter fun p => inBand p.rate x.rate) = [p] := band
  simp only [band']
  rfl

theorem place_of_two {cv rest : List CurvePoint} {x p p2 : CurvePoint} (band : inBandOf x.rate cv = p :: p2 :: rest) :
    place cv x = some (if absDiff p.rate x.rate ≤ absDiff p2.rate x.rate then placed x cv (some p) (some p2)
      else placed x cv (some p2) (some p)) := by
  unfold place
  have band' : (cv.filter fun p => inBand p.rate x.rate) = p :: p2 :: rest := band
  simp only [band']
  split <;> rfl

/-- Whatever is replaced, the curve is the points out of the band with the offered one; there is room for it, and the
points in the band are those replaced and removed. -/
theorem place_cases {cv : List CurvePoint} {x : CurvePoint} {pl : Placement} (form : curveForm cv = true)
    (some_ : place cv x = some pl) :
    pl.curve = insertPoint x (outOfBand x.rate cv) ∧ (outOfBand x.rate cv).length < 8 ∧
      (inBandOf x.rate cv).length = pl.replaced.toList.length + pl.removed.toList.length ∧
      ∀ p ∈ inBandOf x.rate cv, pl.replaced = some p ∨ pl.removed = some p := by
  obtain ⟨short, spaced, _⟩ := (curveForm_iff cv).mp form
  have lengths := length_outOfBand_add x.rate cv
  have atMostTwo := length_le_two_of_spaced_of_inBand _ (spaced_inBandOf x.rate spaced) fun p => inBand_of_mem_inBandOf
  rcases band : inBandOf x.rate cv with _ | ⟨p, _ | ⟨p2, rest⟩⟩
  · rw [place_of_none band] at some_
    split at some_
    next room =>
      obtain rfl := Option.some.inj some_
      exact ⟨rfl, by rw [outOfBand_of_none band]; exact room, rfl, by simp⟩
    · nomatch some_
  · rw [place_of_one band] at some_
    obtain rfl := Option.some.inj some_
    rw [band] at lengths
    exact ⟨rfl, by simp only [List.length_singleton] at lengths; omega, rfl, by simp [placed]⟩
  · rw [band] at lengths atMostTwo
    obtain rfl : rest = [] := by
      rw [← List.length_eq_zero_iff]
      simp only [List.length_cons] at atMostTwo
      omega
    rw [place_of_two band] at some_
    obtain rfl := Option.some.inj some_
    simp only [List.length_cons, List.length_nil] at lengths
    split
    · exact ⟨rfl, by omega, rfl, by simp [placed]⟩
    · exact ⟨rfl, by omega, rfl, by simp [placed, or_comm]⟩

/-- A point in the range of a curve point keeps the form of the curve it is placed in (R126, R132). -/
theorem curveForm_of_place {cv : List CurvePoint} {x : CurvePoint} {pl : Placement} (form : curveForm cv = true)
    (range : 8000 ≤ x.mf ∧ x.mf ≤ 12000) (some_ : place cv x = some pl) : curveForm pl.curve = true := by
  obtain ⟨curve, room, _, _⟩ := place_cases form some_
  obtain ⟨_, spaced, ranges⟩ := (curveForm_iff cv).mp form
  rw [curve, curveForm_iff, length_insertPoint]
  refine ⟨room, spaced_insertPoint (spaced.filter _) fun p mem => (mem_outOfBand.mp mem).2, fun p mem => ?_⟩
  rcases mem_insertPoint.mp mem with rfl | other
  · exact range
  · exact ranges p (mem_outOfBand.mp other).1

theorem place_eq_none_iff {cv : List CurvePoint} {x : CurvePoint} (form : curveForm cv = true) :
    place cv x = none ↔ cv.length = 8 ∧ ∀ p ∈ cv, inBand p.rate x.rate = false := by
  obtain ⟨short, _, _⟩ := (curveForm_iff cv).mp form
  have noneIff : inBandOf x.rate cv = [] ↔ ∀ p ∈ cv, inBand p.rate x.rate = false := by
    simp [inBandOf, List.filter_eq_nil_iff]
  rw [← noneIff]
  rcases band : inBandOf x.rate cv with _ | ⟨p, _ | ⟨p2, rest⟩⟩
  · rw [place_of_none band]
    split
    next room => simp [Nat.ne_of_lt room]
    next full => exact iff_of_true rfl ⟨by omega, rfl⟩
  · rw [place_of_one band]
    simp
  · rw [place_of_two band]
    simp

/-- The distance as the statement writes it. -/
theorem absDiff_eq (x y : Nat) : absDiff x y = if x ≤ y then y - x else x - y := rfl

/-- Settles O50: every clause is read off the placement, by what stands in the band of the offered point. -/
theorem placingKeepsTheForm : Obligations.PlacingKeepsTheForm := by
  intro c x form low high away
  refine ⟨place_eq_none_iff form, fun pl some_ => ?_⟩
  obtain ⟨curve, _, counts, leaving⟩ := place_cases form some_
  refine ⟨curveForm_of_place form ⟨low, high⟩ some_, ?member, ?only, ?kept, ?left, ?one, ?two, ?length⟩
  case member => rw [curve]; exact mem_insertPoint.mpr (.inl rfl)
  case only =>
    intro p mem
    rw [curve] at mem
    exact (mem_insertPoint.mp mem).imp_right mem_outOfBand.mp
  case kept =>
    intro p mem out
    rw [curve]
    exact mem_insertPoint.mpr (.inr (mem_outOfBand.mpr ⟨mem, out⟩))
  case left => exact fun p mem near => leaving p (mem_inBandOf.mpr ⟨mem, near⟩)
  case one =>
    intro p band
    rw [place_of_one band] at some_
    obtain rfl := Option.some.inj some_
    exact ⟨rfl, rfl⟩
  case two =>
    intro p1 p2 band
    rw [place_of_two band] at some_
    obtain rfl := Option.some.inj some_
    simp only [away, ← absDiff_eq]
    split <;> exact ⟨rfl, rfl⟩
  case length =>
    have lengths := length_outOfBand_add x.rate c
    rw [curve, length_insertPoint]
    omega

end Sys2Proof.Proofs
end

section
/-! The small changes every command is made of. Act lists those the blocks make while they work, each under the test the
model makes before it; Move adds the changes that only a period boundary makes, and Stage the changes of time, lines,
supply and link, the starts and the halt. An invariant is kept by every step when it is kept by every one of them. -/

namespace Sys2Proof.Proofs

open Sys2Proof Sys2Proof.Machine Sys2Proof.Safety Sys2Proof.Stated Sys2Proof.Laws

/-! ### What a change must keep -/

/-- Tallies and noise counts of a run in range (R1, R8). -/
def TalliesOk (p : RunPulse) : Prop :=
  p.a.silence ≤ 15 ∧ p.b.silence ≤ 15 ∧ p.mismatch ≤ 15 ∧ p.matched ≤ 15 ∧ p.a.noise ≤ 65535 ∧ p.b.noise ≤ 65535

/-- A record that can hold the prover (R102, R104 to R107). -/
def RecordOk (x : ProvingRecord) : Prop :=
  recordTimer x.state ≠ none ∧
  (x.state = .pass ∨ x.state = .tail ∨ x.state = .turn →
    ∃ c, x.current = some c ∧ (x.state = .pass → (currentPass c).figures = none))

/-- The receiver is OFF exactly while a reply is sent (R175, R182). -/
def LinkOk (l : Link) : Prop := l.receiver = .off ↔ ∃ r, l.reply = .sending r

/-! ### The changes of the blocks at work -/

/-- One change of a block at work. -/
inductive Act : State → State → Prop where
  | judged {s : State} (i : ConditionId) (on : Bool)
      (room : i = .station .retentionLost → on = true → s.store.audit = []) : Act s (judge i on s)
  | lineRead {s : State} (permit : s.monitor.withdrawn = false) : Act s (readLine s)
  | lineSeen {s : State} (seen : Option Bool) (filter : Option Timer) :
      Act s (s.withMonitor { s.monitor with seen := seen, filter := filter })
  | holdEnded {s : State} : Act s (releaseIfFree (s.withMonitor { s.monitor with hold := none }))
  | latchCleared {s : State} (i : ConditionId) : Act s (clearLatch i s)
  | pulsed {s : State} (r : Run) (p : RunPulse) (keeps : TalliesOk (s.runPulse r) → TalliesOk p) :
      Act s (s.setRunPulse r p)
  | detected {s : State} (d : Detector) (x : DetectorState) : Act s (s.setDetector d x)
  | scanned {s : State} (x : Scanner) : Act s (s.withScanner x)
  | worked {s : State} (x : ConfigWork) : Act s (s.withWork x)
  | clocked {s : State} (x : Nat) : Act s (s.withClock x)
  | secondBegun {s : State} (x : Option Stamp) : Act s (s.withTotalizer { s.totalizer with clockSet := x })
  | faultCleared {s : State} : Act s (clearFault s)
  -- the prover
  | recorded {s : State} {r x : ProvingRecord} (held : s.store.record = some r) (run : x.request.run = r.request.run)
      (grade : x.grade = r.grade) (keeps : RecordOk r → RecordOk x) : Act s (s.setRecord (some x))
  | left {s : State} {r x : ProvingRecord} (held : s.store.record = some r) :
      Act s (s.withStore { s.store with record := none, history := pushHistory s.store.history x })
  | completed {s : State} {r x : ProvingRecord} {res : ProvingResult} (held : s.store.record = some r)
      (result : x.result = some res) (range : 8000 ≤ res.mf ∧ res.mf ≤ 12000) :
      Act s (s.withStore { s.store with
        record := none, results := s.store.results.set r.request.run (some x) })
  | opened {s : State} {q : ProvingRequest} {rest : List ProvingRequest} (enabled : s.store.proverEnabled = true)
      (free : s.store.record = none) (head : s.requests = q :: rest) : Act s (openRecord q rest s)
  | requested {s : State} (q : ProvingRequest) (first : s.hasRequest q.run = false) (noRecord : s.hasRecord q.run = false)
      (noResult : s.hasResult q.run = false) : Act s (s.withRequests (s.requests ++ [q]))
  | withdrawn {s : State} (r : Run) : Act s (s.withRequests (s.requests.filter fun q => decide (q.run ≠ r)))
  | decided {s : State} (r : Run) (x : ProvingRecord) (d : Decision) : Act s (decideResult r x d s)
  | enabled {s : State} : Act s (s.withStore { s.store with proverEnabled := true })
  | disabled {s : State} (free : s.store.record = none) : Act s (s.withStore { s.store with proverEnabled := false })
  -- batches and tickets
  | scheduled {s : State} (e : BatchEntry) (room : s.store.queue.length < 8) (notActive : s.activeId e.id = false)
      (notQueued : s.queuedId e.id = false) (holding : (s.gradeEntry e.grade).isSome = true) :
      Act s (s.withStore { s.store with queue := s.store.queue ++ [e] })
  | deleted {s : State} (id : Nat) (notReserved : s.reservedHead ≠ some id) :
      Act s (s.withStore { s.store with queue := s.store.queue.filter fun e => decide (e.id ≠ id) })
  | startAsked {s : State} (noBatch : s.store.active = none) (head : s.store.queue ≠ []) : Act s (s.withChange .start)
  | endAsked {s : State} (batch : s.store.active ≠ none) (free : s.store.held = none) : Act s (s.withChange .ends)
  | cutoverAsked {s : State} (batch : s.store.active ≠ none) (head : s.store.queue ≠ []) (free : s.store.held = none) :
      Act s (s.withChange .cutover)
  | batchMoved {s : State} {b b' : ActiveBatch} (active : s.store.active = some b) (same : b'.entry = b.entry) :
      Act s (s.setActive (some b'))
  | closed {s : State} (cause : CloseCause) (room : s.change = .ends ∨ s.change = .cutover ∨ s.store.held = none) :
      Act s (closeBatch cause (s.withChange .none))
  | begun {s : State} (noBatch : s.change = .start ∨ s.store.active = none) : Act s (startBatch (s.withChange .none))
  | ticketReleased {s : State} : Act s (releaseOldest s)
  -- totals, settings, curves and the audit trail
  | snapped {s : State} (x : Option Snapshot) : Act s (s.withStore { s.store with snapshot := x })
  | boundaryTimed {s : State} (x : Nat) : Act s (s.withStore { s.store with lastBoundary := x })
  | substituted {s : State} (x : Vector Int 16) : Act s (s.withStore { s.store with substitutes := x })
  | serviceSet {s : State} (r : Run) (x : RunTotals) (same : x.residues = (s.store.runs.get r).residues) :
      Act s (s.setRunTotals r x)
  | credited {s : State} (figs : PerRun LastPeriod) (r : Run) : Act s (creditRun figs s r)
  | gradeSet {s : State} (i : Fin 16) (e : GradeEntry) (c : Code) :
      Act s (s.withStore { s.store with grades := s.store.grades.set i (some e), gradesCode := c })
  | curveOffered {s : State} (r : Run) (c : List CurvePoint) (form : CurveInv s → curveForm c = true) :
      Act s (s.withStore { s.store with pendingCurves := s.store.pendingCurves.set r (some c) })
  | curveApplied {s : State} (r : Run) : Act s (applyCurve s r)
  | coded {s : State} (b : BlockId) (c : Code) : Act s (setStoredCode b c s)
  | stationCommitted {s : State} (x : StationBlock)
      (ok : offending (stationConditions s.store.points.next.setups s.store.grades x) = none) :
      Act s (s.withStore { s.store with station := { s.store.station with pending := some x } })
  | proverCommitted {s : State} (x : ProverBlock)
      (ok : offending (proverConditions s.store.points.next.setups x) = none) :
      Act s (s.withStore { s.store with prover := { s.store.prover with pending := some x } })
  | pointsCommitted {s : State} (x : PointsBlock) (ok : offending (pointsConditions s.requiredKinds x) = none) :
      Act s (s.withStore { s.store with points := { s.store.points with pending := some x } })
  | runCommitted {s : State} (r : Run) (x : RunBlock)
      (ok : offending (runConditions s.store.points.next.setups x) = none) :
      Act s (s.withStore { s.store with
        runBlocks := s.store.runBlocks.set r { s.store.runBlocks.get r with pending := some x } })
  | audited {s : State} (scope : Option Run) (d : AuditData) (free : s.auditFree = true) : Act s (addAudit scope d s)
  | acknowledged {s : State} (d : AuditData) (lost : s.retentionLost = true) :
      Act s (judge (.station .retentionLost) false (addAudit none d s))
  | takenDown {s : State} (n : Nat) : Act s (s.withStore { s.store with audit := takeDown n s.store.audit })

/-- A change of a period boundary: one of a block at work, of the totalizer's period, or a block applied (R162). -/
inductive Move : State → State → Prop where
  | act {s t : State} (act : Act s t) : Move s t
  | period {s : State} (x : Totalizer) : Move s (s.withTotalizer x)
  | stationApplied {s : State} {x : StationBlock} (work : ConfigWork) (pending : s.store.station.pending = some x) :
      Move s (applyClasses s.stationBlock s.integrities
        ((s.withStore { s.store with
          station := { current := x, pending := none, code := stationBlockCode x } }).withWork work))
  | proverApplied {s : State} {x : ProverBlock} (pending : s.store.prover.pending = some x) :
      Move s (s.withStore { s.store with prover := { current := x, pending := none, code := proverBlockCode x } })
  | pointsApplied {s : State} {x : PointsBlock} (pending : s.store.points.pending = some x) :
      Move s (s.withStore { s.store with points := { current := x, pending := none, code := pointsBlockCode x } })
  | runApplied {s : State} {x : RunBlock} (r : Run) (pending : (s.store.runBlocks.get r).pending = some x) :
      Move s (s.withStore { s.store with
        runBlocks := s.store.runBlocks.set r { current := x, pending := none, code := runBlockCode x } })

/-- A stage of a command: a change of a block at work, a boundary, or a change of the part as a whole. -/
inductive Stage : State → State → Prop where
  | act {s t : State} (act : Act s t) : Stage s t
  | boundary {s : State} (closing : Bool) (pe : Nat) (order : BoundaryOrder) : Stage s (boundary closing pe order s)
  | time {s : State} (x : Stamp) : Stage s (s.withCounter x)
  | lines {s : State} (x : Lines) : Stage s (s.withLines x)
  | supply {s : State} (x : Supply) (same : x.power = s.supply.power) : Stage s (s.withSupply x)
  | link {s : State} (x : Link) (keeps : LinkOk s.link → LinkOk x) : Stage s (s.withLink x)
  | warm {s : State} : Stage s (freshState s.clock (warmStore s.clock s.store) s)
  | cold {s : State} : Stage s (freshState 0 (factoryStore 0) s)
  | halted {s : State} : Stage s (halt s)
  | unpowered {s : State} : Stage s (powerFails s)
  | backupLost {s : State} (clock : Nat) :
      Stage s ((s.withStore { s.store with formatMark := false, codeAgrees := false }).withClock clock)

/-- Changes of one kind, one after another. -/
inductive Path (R : State → State → Prop) (s : State) : State → Prop where
  | refl : Path R s s
  | tail {t u : State} (before : Path R s t) (last : R t u) : Path R s u

section Path

variable {R Q : State → State → Prop} {s t u : State}

theorem Path.single (one : R s t) : Path R s t := Path.refl.tail one

theorem Path.trans (first : Path R s t) (second : Path R t u) : Path R s u := by
  induction second with
  | refl => exact first
  | tail _ last ih => exact ih.tail last

theorem Path.mono (weaker : ∀ s t, R s t → Q s t) (chain : Path R s t) : Path Q s t := by
  induction chain with
  | refl => exact .refl
  | tail _ last ih => exact ih.tail (weaker _ _ last)

end Path

abbrev Acts : State → State → Prop := Path Act
abbrev Moves : State → State → Prop := Path Move
abbrev Stages : State → State → Prop := Path Stage

theorem Act.acts {s t : State} (act : Act s t) : Acts s t := .single act

theorem Acts.moves {s t : State} (acts : Acts s t) : Moves s t := Path.mono (fun _ _ => Move.act) acts

theorem Acts.stages {s t : State} (acts : Acts s t) : Stages s t := Path.mono (fun _ _ => Stage.act) acts

theorem Acts.trans {s t u : State} (h : Acts s t) (g : Acts t u) : Acts s u := Path.trans h g

theorem Moves.trans {s t u : State} (h : Moves s t) (g : Moves t u) : Moves s u := Path.trans h g

theorem Stages.trans {s t u : State} (h : Stages s t) (g : Stages t u) : Stages s u := Path.trans h g

theorem Move.moves {s t : State} (move : Move s t) : Moves s t := .single move

theorem Stage.stages {s t : State} (stage : Stage s t) : Stages s t := .single stage

/-- What every change keeps, changes one after another keep. -/
theorem keeps_of_chain {R : State → State → Prop} {inv : State → Prop} (keeps : ∀ s t, R s t → inv s → inv t)
    {s t : State} (chain : Path R s t) (holds : inv s) : inv t := by
  induction chain with
  | refl => exact holds
  | tail _ last ih => exact keeps _ _ last ih

/-- A fold of changes. -/
theorem chain_foldl {R : State → State → Prop} {α : Type} (f : State → α → State)
    (one : ∀ s x, Path R s (f s x)) (l : List α) (s : State) :
    Path R s (l.foldl f s) := by
  induction l generalizing s with
  | nil => exact .refl
  | cons x rest ih => exact (one s x).trans (ih (f s x))

end Sys2Proof.Proofs
end

section
/-! Each operation of the model as a chain of the changes of Act, Move and Stage, up to the commands themselves. -/

namespace Sys2Proof.Proofs

open Sys2Proof Sys2Proof.Machine Sys2Proof.Safety Sys2Proof.Stated Sys2Proof.Laws

/-! ### Judgements -/

/-- A judgement of any condition but RETENTION_LOST. -/
theorem acts_judge {i : ConditionId} (other : i ≠ .station .retentionLost) (on : Bool) (s : State) :
    Acts s (judge i on s) :=
  (Act.judged i on fun h => absurd h other).acts

theorem acts_judgeRun (k : RunKind) (r : Run) (on : Bool) (s : State) : Acts s (judge (.run k r) on s) :=
  acts_judge (i := .run k r) nofun on s

theorem acts_judgeOff (i : ConditionId) (s : State) : Acts s (judge i false s) :=
  (Act.judged i false fun _ h => nomatch h).acts

theorem checkCondition_ne (b : BlockId) : checkCondition b ≠ .station .retentionLost := by
  cases b <;> nofun

theorem acts_setMark (b : BlockId) (x : Bool) (s : State) : Acts s (setMark b x s) := by
  cases b <;> exact (Act.worked _).acts

theorem acts_clearMark (b : BlockId) (s : State) : Acts s (clearMark b s) := by
  unfold clearMark
  split
  · refine (acts_setMark b false s).trans ?_
    cases b with
    | run r => exact acts_judgeOff _ _
    | station | prover | points | grades =>
      simp only
      split
      · exact .refl
      · exact acts_judgeOff _ _
  · exact .refl

theorem acts_verifyBlock (b : BlockId) (s : State) : Acts s (verifyBlock b s) := by
  unfold verifyBlock raiseMark
  split
  · exact (acts_setMark b true s).trans (acts_judge (checkCondition_ne b) _ _)
  · exact .refl

/-! ### The scanner -/

theorem acts_nextConversion (s : State) : Acts s (nextConversion s) := by
  unfold nextConversion startConversion
  repeat' split
  all_goals first | exact .refl | exact (Act.scanned _).acts

theorem acts_judgeDeviation (p : Fin 16) (on : Bool) (s : State) : Acts s (judgeDeviation p on s) := by
  refine chain_foldl _ (fun t r => ?_) _ _
  split
  · exact acts_judgeRun _ _ _ _
  · exact .refl

theorem acts_statusChanged (p : Fin 16) (old : PointStatus) (s : State) : Acts s (statusChanged p old s) := by
  unfold statusChanged
  simp only
  split
  · exact .refl
  · split
    · exact acts_judgeDeviation _ _ _
    · split
      · exact acts_judgeDeviation _ _ _
      · exact .refl

theorem acts_setPoint (p : Fin 16) (x : PointState) (s : State) : Acts s (s.setPoint p x) := (Act.scanned _).acts

theorem acts_storeReading (p : Fin 16) (u : PointSetup) (v : Int) (s : State) : Acts s (storeReading p u v s) := by
  unfold storeReading
  simp only
  generalize (if inValidRange u v = true then PointStatus.good else .range) = st
  split
  · exact (acts_setPoint _ _ _).trans (acts_statusChanged _ _ _)
  · split
    · exact (acts_setPoint _ _ _).trans (acts_statusChanged _ _ _)
    · split
      · exact (acts_setPoint _ _ _).trans (acts_statusChanged _ _ _)
      · exact (acts_setPoint _ _ _).trans ((acts_setPoint _ _ _).trans ((acts_setPoint _ _ _).trans
          ((acts_statusChanged _ _ _).trans (acts_statusChanged _ _ _))))

theorem acts_goStale (p : Fin 16) (s : State) : Acts s (goStale p s) := by
  unfold goStale
  split
  · exact .refl
  · split
    · exact .refl
    · exact (acts_setPoint _ _ _).trans (acts_statusChanged _ _ _)

theorem acts_scannerTakesPoints (s : State) : Acts s (scannerTakesPoints s) :=
  (Act.scanned _).acts.trans (acts_nextConversion _)

/-! ### The prover -/

theorem acts_endRecord (st : RecordState) (cause : EndCause) (s : State) : Acts s (endRecord st cause s) := by
  unfold endRecord
  split
  · exact .refl
  · exact (Act.left (by assumption)).acts

theorem acts_abortRecord (cause : EndCause) (s : State) : Acts s (abortRecord cause s) := acts_endRecord _ _ _

/-- Grants the head of the queue and those after it, while records are aborted at their grant. -/
theorem acts_grantFrom (l : List ProvingRequest) (s : State) (enabled : s.store.proverEnabled = true)
    (free : s.store.record = none) (queue : s.requests = l) : Acts s (grantFrom l s) := by
  induction l generalizing s with
  | nil => exact .refl
  | cons q rest ih =>
    have opened : Acts s (openRecord q rest s) := (Act.opened enabled free queue).acts
    unfold grantFrom
    simp only
    split
    · exact opened.trans ((acts_abortRecord _ _).trans (ih _ enabled rfl rfl))
    · split
      · exact opened.trans ((acts_abortRecord _ _).trans (ih _ enabled rfl rfl))
      · exact opened

theorem acts_grant (s : State) : Acts s (grant s) := by
  unfold grant
  split
  next free =>
    rw [Bool.and_eq_true, Option.isNone_iff_eq_none] at free
    exact acts_grantFrom _ _ free.1 free.2 rfl
  · exact .refl

theorem acts_settle (before s : State) : Acts s (settle before s) := by
  unfold settle
  split
  · exact acts_grant s
  · exact .refl

/-- A record replaced by one of the same run and grade that can hold the prover. -/
theorem acts_setRecord {s : State} {r x : ProvingRecord} (held : s.store.record = some r)
    (run : x.request.run = r.request.run) (grade : x.grade = r.grade) (keeps : RecordOk r → RecordOk x) :
    Acts s (s.setRecord (some x)) :=
  (Act.recorded held run grade keeps).acts

theorem recordOk_markRound (f : RoundMarks → RoundMarks) (r : ProvingRecord) (ok : RecordOk r) :
    RecordOk (markRound f r) := by
  unfold markRound
  split
  · exact ok
  next c current =>
    refine ⟨ok.1, fun running => ?_⟩
    obtain ⟨c', current', figures⟩ := ok.2 running
    rw [current] at current'
    obtain rfl := Option.some.inj current'
    exact ⟨_, rfl, figures⟩

theorem acts_markRound {s : State} {r : ProvingRecord} (held : s.store.record = some r) (f : RoundMarks → RoundMarks) :
    Acts s (s.setRecord (some (markRound f r))) := by
  refine acts_setRecord held ?_ ?_ (recordOk_markRound f r)
  all_goals unfold markRound; split <;> rfl

/-- A record that ends as it is stored leaves the prover with the entry it was given. -/
theorem acts_endReplaced {s : State} {r : ProvingRecord} (held : s.store.record = some r) (x : ProvingRecord)
    (st : RecordState) (cause : EndCause) : Acts s (endRecord st cause (s.setRecord (some x))) :=
  (Act.left (x := { x with state := st, cause := some cause, ended := some s.clock, current := none }) held).acts

theorem acts_judgeResult {s : State} {r : ProvingRecord} (held : s.store.record = some r) {x : ProvingRecord}
    (request : x.request = r.request) (res : ProvingResult) : Acts s (judgeResult x res s) := by
  unfold judgeResult
  split
  · exact acts_endReplaced held _ _ _
  next inRange =>
    simp only [request]
    exact (Act.completed held rfl (by simp only; omega)).acts

theorem recordOk_armed (x : ProvingRecord) (t : Stamp) :
    RecordOk { x with state := .armed, timerStart := t, current := none } :=
  ⟨nofun, fun h => by simp at h⟩

theorem acts_afterRound {s : State} {r : ProvingRecord} (held : s.store.record = some r) {x : ProvingRecord}
    (request : x.request = r.request) (grade : x.grade = r.grade) : Acts s (afterRound x s) := by
  unfold afterRound
  simp only
  split
  · exact acts_judgeResult held request _
  · split
    · exact acts_endReplaced held _ _ _
    · exact acts_setRecord held (congrArg _ request) grade fun _ => recordOk_armed _ _

theorem acts_tryComplete {s : State} {r : ProvingRecord} (held : s.store.record = some r) {x : ProvingRecord}
    (request : x.request = r.request) (grade : x.grade = r.grade) (keeps : RecordOk r → RecordOk x) :
    Acts s (tryComplete x s) := by
  have stored : Acts s (s.setRecord (some x)) := acts_setRecord held (congrArg _ request) grade keeps
  unfold tryComplete
  split
  · exact stored
  · split
    · exact stored
    · split
      · split
        · exact acts_afterRound held request grade
        · exact stored
      · exact stored

/-- A round whose pass in progress has the same figures may stand in its place. -/
theorem recordOk_current {r : ProvingRecord} {c c' : RoundState} (current : r.current = some c)
    (figures : (currentPass c').figures = (currentPass c).figures) (ok : RecordOk r) :
    RecordOk { r with current := some c' } := by
  refine ⟨ok.1, fun running => ⟨c', rfl, fun pass => ?_⟩⟩
  obtain ⟨c'', current', noFigures⟩ := ok.2 running
  rw [current] at current'
  obtain rfl := Option.some.inj current'
  rw [figures]
  exact noFigures pass

theorem storeAnswer_figures (ends : Bool) (a : ChainAnswer) (p : PassState) :
    (storeAnswer ends a p).figures = p.figures := by
  unfold storeAnswer
  split <;> rfl

theorem acts_takeAnswer (tag : ChainTag) (a : ChainAnswer) (s : State) : Acts s (takeAnswer tag a s) := by
  unfold takeAnswer
  split
  · exact .refl
  next r held =>
    split
    · exact .refl
    next c current =>
      split
      · simp only
        refine acts_tryComplete held rfl rfl fun ok => recordOk_current current ?_ ok
        split
        · unfold currentPass
          cases second : c.second with
          | none => simp only [storeAnswer_figures]
          | some p => rfl
        · unfold currentPass
          cases second : c.second with
          | none => simp only [Option.map_none]
          | some p => simp only [Option.map_some, storeAnswer_figures]
      · exact .refl

theorem acts_requestChain (c : Chain) (s : State) : Acts s (requestChain c s).1 := by
  unfold requestChain
  split
  · dsimp only
    refine .trans ?_ (acts_nextConversion _)
    exact (Act.scanned _).acts
  · split <;> exact (Act.scanned _).acts

theorem acts_chainFor (tag : ChainTag) (s : State) : Acts s (chainFor tag s) := by
  unfold chainFor
  split
  · exact .refl
  · simp only
    split
    · exact acts_requestChain _ _
    · exact (acts_requestChain _ _).trans (acts_takeAnswer _ _ _)

theorem recordOk_pass {r : ProvingRecord} {c : RoundState} (t : Stamp) (noFigures : (currentPass c).figures = none) :
    RecordOk { r with state := .pass, timerStart := t, current := some c } :=
  ⟨nofun, fun _ => ⟨c, rfl, fun _ => noFigures⟩⟩

theorem acts_beginRound {s : State} {r : ProvingRecord} (held : s.store.record = some r) (d : Detector) (t : Stamp) :
    Acts s (beginRound r d t s) := by
  unfold beginRound
  refine .trans ?_ (acts_chainFor _ _)
  exact acts_setRecord held rfl rfl fun _ => recordOk_pass _ rfl

theorem acts_passActivation {s : State} {r : ProvingRecord} (held : s.store.record = some r) (c : RoundState)
    (d : Detector) (t : Stamp) : Acts s (passActivation r c d t s) := by
  unfold passActivation
  simp only
  split
  · exact acts_abortRecord _ _
  · refine .trans ?_ (acts_chainFor _ _)
    exact acts_setRecord held rfl rfl fun _ => ⟨nofun, fun _ => ⟨_, rfl, nofun⟩⟩

theorem acts_turnActivation {s : State} {r : ProvingRecord} (held : s.store.record = some r) (c : RoundState)
    (d : Detector) (t : Stamp) : Acts s (turnActivation r c d t s) := by
  unfold turnActivation
  split
  · exact acts_abortRecord _ _
  · refine .trans ?_ (acts_chainFor _ _)
    exact acts_setRecord held rfl rfl fun _ => recordOk_pass _ rfl

theorem acts_takeActivation (d : Detector) (t : Stamp) (s : State) : Acts s (takeActivation d t s) := by
  unfold takeActivation
  split
  · exact .refl
  next r held =>
    split
    · exact acts_beginRound held _ _
    · exact acts_passActivation held _ _ _
    · exact acts_abortRecord _ _
    · exact acts_turnActivation held _ _ _
    · exact .refl

theorem currentPass_setCurrentPass (c : RoundState) (p : PassState) : currentPass (setCurrentPass c p) = p := by
  unfold setCurrentPass currentPass
  cases c.second <;> rfl

theorem acts_passPulse {s : State} {r : ProvingRecord} (held : s.store.record = some r) {c : RoundState}
    (current : r.current = some c) (t : Stamp) : Acts s (passPulse r c t s) := by
  refine acts_setRecord held rfl rfl (recordOk_current current ?_)
  rw [currentPass_setCurrentPass]
  split <;> rfl

/-- A pulse of the tail gives the pass its figures; the record is then in TURN or still in TAIL. -/
theorem acts_tailPulse {s : State} {r : ProvingRecord} (held : s.store.record = some r) (tail : r.state = .tail)
    (c : RoundState) (t : Stamp) : Acts s (tailPulse r c t s) := by
  unfold tailPulse
  simp only
  split
  · split
    · exact acts_setRecord held rfl rfl fun _ => ⟨nofun, fun _ => ⟨_, rfl, nofun⟩⟩
    · exact acts_tryComplete held rfl rfl fun ok => ⟨ok.1, fun _ => ⟨_, rfl, fun pass => nomatch tail.symm.trans pass⟩⟩
  · exact .refl

theorem acts_takePulse (run : Run) (forward : Bool) (t : Stamp) (s : State) : Acts s (takePulse run forward t s) := by
  unfold takePulse
  split
  · exact .refl
  next r held =>
    split
    · split
      next c pass current => exact acts_passPulse held current _
      next c tail current => exact acts_tailPulse held tail _ _
      · exact .refl
    · exact .refl

theorem acts_checkStability (s : State) : Acts s (checkStability s) := by
  unfold checkStability
  dsimp only
  split
  · exact .refl
  next r held =>
    have marked : Acts s (s.setRecord (some (markRound (fun m => { m with flowUnstable := true }) r))) :=
      acts_markRound held _
    repeat' split
    all_goals first | exact .refl | exact marked

theorem acts_countingChanged (run : Run) (s : State) : Acts s (countingChanged run s) := by
  unfold countingChanged
  split
  · exact .refl
  next r held =>
    split
    · exact acts_markRound held _
    · exact .refl

theorem acts_recordTimeout (timer : RecordTimer) (cause : EndCause) (s : State) :
    Acts s (recordTimeout timer cause s) := by
  unfold recordTimeout
  split
  · exact .refl
  · split
    · exact acts_abortRecord _ _
    · exact .refl

/-! ### Pulses -/

theorem acts_setRunPulse {s : State} {r : Run} {p : RunPulse} (keeps : TalliesOk (s.runPulse r) → TalliesOk p) :
    Acts s (s.setRunPulse r p) := (Act.pulsed r p keeps).acts

theorem acts_setLost (r : Run) (c : Channel) (on : Bool) (s : State) : Acts s (setLost r c on s) := by
  unfold setLost
  dsimp only
  refine .trans ?_ (acts_judgeRun _ _ _ _)
  exact acts_setRunPulse fun ok => by cases c <;> exact ok

theorem acts_judgeSilence (m : Nat) (r : Run) (c : Channel) (s : State) : Acts s (judgeSilence m r c s) := by
  unfold judgeSilence
  dsimp only
  split
  · exact acts_setLost _ _ _ _
  · exact .refl

theorem acts_restore (r : Run) (c : Channel) (s : State) : Acts s (restore r c s) := by
  unfold restore
  split
  · exact acts_setLost _ _ _ _
  · exact .refl

theorem acts_judgeMatching (k : WindowKind) (m : Nat) (r : Run) (s : State) : Acts s (judgeMatching k m r s) := by
  unfold judgeMatching
  split
  · split
    · exact ((acts_restore _ _ _).trans (acts_restore _ _ _)).trans (acts_judgeOff _ _)
    · exact .refl
  · split
    · exact acts_judgeRun _ _ _ _
    · exact .refl
  · exact .refl
  · exact .refl

theorem tallyUp_le {n : Nat} (le : n ≤ 15) : tallyUp n ≤ 15 := by
  unfold tallyUp countUp
  split <;> omega

theorem talliesOk_updateTallies (k : WindowKind) (p : RunPulse) (ok : TalliesOk p) : TalliesOk (updateTallies k p) := by
  obtain ⟨silenceA, silenceB, mismatch, matched, noiseA, noiseB⟩ := ok
  have zero : 0 ≤ 15 := Nat.zero_le 15
  cases k with
  | aSilent => exact ⟨tallyUp_le silenceA, zero, zero, zero, noiseA, noiseB⟩
  | bSilent => exact ⟨zero, tallyUp_le silenceB, zero, zero, noiseA, noiseB⟩
  | mismatch => exact ⟨zero, zero, tallyUp_le mismatch, zero, noiseA, noiseB⟩
  | match_ => exact ⟨zero, zero, zero, tallyUp_le matched, noiseA, noiseB⟩

theorem acts_evaluateTest (fault : Bool) (r : Run) (s : State) : Acts s (evaluateTest fault r s) := by
  unfold evaluateTest
  dsimp only
  split
  · refine .trans ?_ (acts_judgeRun _ _ _ _)
    exact acts_setRunPulse fun ok => ok
  · exact .refl

theorem acts_openWindow (r : Run) (s : State) : Acts s (openWindow r s) := by
  refine acts_setRunPulse fun ok => ?_
  obtain ⟨silenceA, silenceB, mismatch, matched, _, _⟩ := ok
  exact ⟨silenceA, silenceB, mismatch, matched, Nat.zero_le _, Nat.zero_le _⟩

theorem acts_closeWindow (fault : Bool) (r : Run) (s : State) : Acts s (closeWindow fault r s) := by
  unfold closeWindow judgeNoise
  dsimp only
  refine .trans (.trans (.trans ?_ (acts_judgeRun _ _ _ _)) (acts_evaluateTest _ _ _)) (acts_openWindow _ _)
  refine .trans (.trans (.trans ?_ (acts_judgeSilence _ _ _ _)) (acts_judgeSilence _ _ _ _)) (acts_judgeMatching _ _ _ _)
  exact acts_setRunPulse (talliesOk_updateTallies _ _)

theorem acts_deliverPulse (r : Run) (c : Channel) (forward : Bool) (s : State) : Acts s (deliverPulse r c forward s) := by
  unfold deliverPulse
  split
  · exact acts_takePulse _ _ _ _
  · exact .refl

theorem acts_closeIfFull (fault : Bool) (r : Run) (s : State) : Acts s (closeIfFull fault r s) := by
  unfold closeIfFull
  dsimp only
  split
  · exact acts_closeWindow _ _ _
  · exact .refl

theorem acts_acceptPulse (fault : Bool) (r : Run) (c : Channel) (s : State) : Acts s (acceptPulse fault r c s) := by
  unfold acceptPulse
  dsimp only
  refine .trans (.trans ?_ (acts_deliverPulse _ _ _ _)) (acts_closeIfFull _ _ _)
  exact acts_setRunPulse fun ok => by cases c <;> exact ok

theorem acts_qualificationExpires (fault : Bool) (r : Run) (c : Channel) (s : State) :
    Acts s (qualificationExpires fault r c s) := by
  unfold qualificationExpires
  split
  · exact acts_acceptPulse _ _ _ _
  · exact .refl

theorem acts_debounceExpires (d : Detector) (s : State) : Acts s (debounceExpires d s) := by
  unfold debounceExpires
  dsimp only
  split
  · exact (Act.detected _ _).acts.trans (acts_takeActivation _ _ _)
  · exact .refl

theorem acts_deadTimeExpires (d : Detector) (s : State) : Acts s (deadTimeExpires d s) := by
  unfold deadTimeExpires
  dsimp only
  split
  · exact (Act.detected _ _).acts
  · exact .refl

theorem acts_fixCounting (s : State) (r : Run) : Acts s (fixCounting s r) := by
  unfold fixCounting
  dsimp only
  split
  · exact .refl
  · refine .trans ?_ (acts_countingChanged _ _)
    exact acts_setRunPulse fun ok => ok

/-! ### Conversions, the hold timer and the external filter -/

theorem acts_chainStored (s : State) : Acts s (chainStored s) := by
  unfold chainStored
  split
  · exact .refl
  · split
    · exact (Act.scanned _).acts
    · exact (acts_takeAnswer _ _ _).trans (Act.scanned _).acts

theorem acts_completeConversion (fraction : Nat) (s : State) : Acts s (completeConversion fraction s) := by
  unfold completeConversion
  split
  · exact .refl
  next c _ =>
    split
    · exact .refl
    · dsimp only
      refine .trans ?_ (acts_nextConversion _)
      have stored := (Act.scanned (s := s) { s.scanner with converter := none }).acts.trans
        (acts_storeReading c.point c.setup (readingOf c.setup (min fraction 1000000)) _)
      split
      · exact stored.trans (acts_chainStored _)
      · split
        · exact stored.trans (Act.scanned _).acts
        · exact stored

theorem acts_holdExpires (s : State) : Acts s (holdExpires s) := by
  unfold holdExpires
  split
  · exact .refl
  · split
    · exact .refl
    · exact Act.holdEnded.acts

theorem acts_filterExpires (s : State) : Acts s (filterExpires s) := by
  unfold filterExpires
  split
  · exact .refl
  · split
    · exact .refl
    · exact (Act.lineSeen s.monitor.seen none).acts.trans
        (acts_judge (i := .station .externalTrip) nofun _ _)

end Sys2Proof.Proofs
end

section
/-! The request handlers, the period boundary, the starts and the link as chains of the small changes, and from them
every command: it goes on to a next state by a chain of stages. -/

namespace Sys2Proof.Proofs

open Sys2Proof Sys2Proof.Machine Sys2Proof.Safety Sys2Proof.Stated Sys2Proof.Laws

/-! ### The request handlers -/

/-- A handler makes changes of the blocks at work, and no others. -/
def Handles (f : State → State × Answer) : Prop := ∀ s, Acts s (f s).1

/-- A handler that changes no state. -/
theorem handles_of_same {f : State → State × Answer} (same : ∀ s, (f s).1 = s) : Handles f := fun s => by
  rw [same]
  exact .refl

theorem handles_refuse (st : Status) : Handles fun s => refuse s st := handles_of_same fun _ => rfl

theorem handles_reqPlsg (run part : Nat) : Handles (reqPlsg run part) :=
  handles_of_same fun s => by unfold reqPlsg; split <;> rfl

theorem handles_reqPrdg (point : Option Nat) (part : Nat) : Handles (reqPrdg point part) :=
  handles_of_same fun s => by
    unfold reqPrdg
    split
    · rfl
    · split <;> rfl

theorem handles_reqTotg (run : Option Nat) (part : Nat) : Handles (reqTotg run part) :=
  handles_of_same fun s => by
    unfold reqTotg
    split
    · rfl
    · split <;> rfl

theorem handles_reqSnpg (part : Nat) : Handles (reqSnpg part) :=
  handles_of_same fun s => by unfold reqSnpg; split <;> rfl

theorem handles_reqGget (grade : Option Nat) (part : Nat) : Handles (reqGget grade part) :=
  handles_of_same fun s => by
    unfold reqGget
    split
    · rfl
    · split <;> rfl

theorem handles_reqBget (part : Nat) : Handles (reqBget part) := handles_of_same fun _ => rfl

theorem handles_reqTget (ticket : Option Nat) (part : Nat) : Handles (reqTget ticket part) :=
  handles_of_same fun s => by
    unfold reqTget
    split
    · rfl
    · split
      · split <;> rfl
      · rfl

theorem handles_reqPget (number : Option Nat) (part : Nat) : Handles (reqPget number part) :=
  handles_of_same fun s => by
    unfold reqPget
    split
    · rfl
    · split <;> rfl

theorem handles_reqMfgt (run : Nat) (rate : Option Nat) (part : Nat) : Handles (reqMfgt run rate part) :=
  handles_of_same fun s => by
    unfold reqMfgt
    split
    · rfl
    · split <;> rfl

theorem handles_reqCndg (scope : Option Nat) (part : Nat) : Handles (reqCndg scope part) :=
  handles_of_same fun s => by
    unfold reqCndg
    split
    · rfl
    · split
      · rfl
      · split <;> rfl

theorem handles_reqCget (block copy part : Nat) : Handles (reqCget block copy part) :=
  handles_of_same fun s => by
    unfold reqCget
    split
    · rfl
    · split <;> rfl

theorem handles_reqAget (number : Option Nat) (part : Nat) : Handles (reqAget number part) :=
  handles_of_same fun s => by
    unfold reqAget
    split
    · rfl
    · split <;> rfl

theorem handles_reqStat (part : Nat) : Handles (reqStat part) := fun s => by
  unfold reqStat
  dsimp only
  split
  · exact Act.faultCleared.acts
  · exact .refl

theorem handles_reqRstr : Handles reqRstr := handles_of_same fun _ => rfl

theorem handles_reqFtst (run : Nat) : Handles (reqFtst run) := fun s => by
  unfold reqFtst
  split
  · exact .refl
  · split
    · exact .refl
    · exact acts_setRunPulse fun ok => ok

/-- An audit entry beside changes that touch neither the trail nor RETENTION_LOST. -/
theorem acts_addAudit {s t : State} (free : s.auditFree = true) (same : t.auditFree = s.auditFree) (scope : Option Run)
    (d : AuditData) : Acts t (addAudit scope d t) := (Act.audited scope d (same.trans free)).acts

theorem handles_reqSubs (point : Nat) (value : Int) : Handles (reqSubs point value) := fun s => by
  unfold reqSubs
  split
  · exact .refl
  · dsimp only
    split
    · exact .refl
    · split
      next free =>
        refine .trans ?_ (acts_addAudit free (by rfl) _ _)
        exact (Act.substituted _).acts
      · exact .refl

theorem handles_reqTset (time : Nat) : Handles (reqTset time) := fun s => by
  unfold reqTset
  split
  · exact .refl
  · split
    next free => exact ((acts_addAudit free (by rfl) _ _).trans (Act.clocked _).acts).trans (Act.secondBegun _).acts
    · exact .refl

theorem handles_reqSnap : Handles reqSnap := fun _ => (Act.snapped _).acts

theorem handles_reqService (target : Service) (run : Nat) : Handles (reqService target run) := fun s => by
  unfold reqService
  split
  · exact .refl
  · dsimp only
    split
    · exact .refl
    · split
      · exact .refl
      · split
        next free =>
          refine .trans ?_ (acts_addAudit free (by rfl) _ _)
          exact (Act.serviceSet _ _ (by rfl)).acts
        · exact .refl

theorem handles_reqGset (grade : Nat) (name : List Byte) (alpha f rho : Nat) :
    Handles (reqGset grade name alpha f rho) := fun s => by
  unfold reqGset setGrade
  dsimp only
  split
  · split
    · split
      · exact .refl
      · split
        next free =>
          refine .trans (.trans ?_ (acts_addAudit free (by rfl) _ _)) (acts_clearMark _ _)
          exact (Act.gradeSet ⟨grade - 1, by omega⟩ _ _).acts
        · exact .refl
    · exact .refl
  · exact .refl

theorem handles_reqBsch (id grade : Nat) (nomination : Option Nat) (destination : Option (List Byte)) :
    Handles (reqBsch id grade nomination destination) := fun s => by
  unfold reqBsch
  split
  next fields =>
    simp only [Bool.and_eq_true] at fields
    obtain ⟨⟨⟨_, holding⟩, _⟩, _⟩ := fields
    split
    · exact .refl
    next unused =>
      simp only [Bool.or_eq_true, not_or, Bool.not_eq_true] at unused
      split
      next room => exact (Act.scheduled _ room unused.1 unused.2 holding).acts
      · exact .refl
  · exact .refl

theorem handles_reqBdel (id : Nat) : Handles (reqBdel id) := fun s => by
  unfold reqBdel
  split
  · split
    · exact .refl
    · split
      · split
        · exact .refl
        next notReserved => exact (Act.deleted id notReserved).acts
      · exact .refl
  · exact .refl

theorem handles_reqBsta : Handles reqBsta := fun s => by
  unfold reqBsta
  split
  · exact .refl
  next free =>
    simp only [not_or, Bool.not_eq_true, Option.isSome_eq_false_iff, Option.isNone_iff_eq_none] at free
    split
    · exact .refl
    next queue => exact (Act.startAsked free.1 (by rw [queue]; nofun)).acts

theorem handles_reqBend : Handles reqBend := fun s => by
  unfold reqBend
  split
  · exact .refl
  next batch =>
    simp only [not_or, Option.isNone_iff_eq_none] at batch
    split
    · exact .refl
    next free =>
      simp only [Bool.not_eq_true, Option.isSome_eq_false_iff, Option.isNone_iff_eq_none] at free
      exact (Act.endAsked batch.1 free).acts

theorem handles_reqBcut : Handles reqBcut := fun s => by
  unfold reqBcut
  split
  · exact .refl
  next batch =>
    simp only [not_or, Option.isNone_iff_eq_none] at batch
    split
    · exact .refl
    next queue =>
      split
      · exact .refl
      next free =>
        simp only [Bool.not_eq_true, Option.isSome_eq_false_iff, Option.isNone_iff_eq_none] at free
        exact (Act.cutoverAsked batch.1 (by rw [queue]; nofun) free).acts

theorem handles_reqTrel (ticket : Nat) : Handles (reqTrel ticket) := fun s => by
  unfold reqTrel
  split
  · split
    · exact .refl
    · split
      · exact Act.ticketReleased.acts
      · split <;> exact .refl
  · exact .refl

theorem handles_reqPreq (run rounds attempts limit : Nat) : Handles (reqPreq run rounds attempts limit) := fun s => by
  unfold reqPreq
  split
  · exact .refl
  · split
    · split
      · exact .refl
      · split
        · exact .refl
        next unused =>
          simp only [Bool.or_eq_true, not_or, Bool.not_eq_true] at unused
          refine .trans ?_ (acts_grant _)
          exact (Act.requested _ unused.1.1 unused.1.2 unused.2).acts
    · exact .refl

theorem handles_reqPcan (run : Nat) : Handles (reqPcan run) := fun s => by
  unfold reqPcan
  split
  · exact .refl
  · split
    · exact (Act.withdrawn _).acts
    · split
      · exact (acts_abortRecord _ _).trans (acts_settle _ _)
      · split <;> exact .refl

theorem handles_reqPaln (run : Nat) : Handles (reqPaln run) := fun s => by
  unfold reqPaln
  split
  · exact .refl
  · split
    · exact .refl
    next held =>
      split
      · exact acts_setRecord held rfl rfl fun _ => ⟨nofun, fun h => by simp at h⟩
      · exact .refl

/-- A curve change is a new pending curve and its audit entry (R131, R133). -/
theorem acts_changeCurve {r : Run} {c : List CurvePoint} {old removed new : Option CurvePoint} {s : State}
    (free : s.auditFree = true) (form : CurveInv s → curveForm c = true) :
    Acts s (changeCurve r c old removed new s) := by
  unfold changeCurve
  refine .trans ?_ (acts_addAudit free (by rfl) _ _)
  exact (Act.curveOffered r c form).acts

theorem curveForm_workingCurve {s : State} (curves : CurveInv s) (r : Run) : curveForm (s.workingCurve r) = true := by
  obtain ⟨current, pending, _⟩ := curves r
  unfold State.workingCurve
  split
  next held => exact pending _ held
  · exact current

theorem acts_offerPoint {r : Run} {x : CurvePoint} {s : State} {p : State × Placement} (free : s.auditFree = true)
    (range : CurveInv s → 8000 ≤ x.mf ∧ x.mf ≤ 12000) (offered : offerPoint r x s = some p) : Acts s p.1 := by
  obtain ⟨pl, placed, rfl⟩ := Option.map_eq_some_iff.mp offered
  exact acts_changeCurve free fun curves =>
    curveForm_of_place (curveForm_workingCurve curves r) (range curves) placed

theorem handles_reqMfsp (run rate mf : Nat) : Handles (reqMfsp run rate mf) := fun s => by
  unfold reqMfsp
  split
  · exact .refl
  · split
    next fields =>
      split
      next free =>
        split
        · exact .refl
        next p offered => exact acts_offerPoint free (fun _ => ⟨fields.2.2.1, fields.2.2.2⟩) offered
      · exact .refl
    · exact .refl

theorem handles_reqMfdp (run rate : Nat) : Handles (reqMfdp run rate) := fun s => by
  unfold reqMfdp
  split
  · exact .refl
  next r _ =>
    dsimp only
    split
    · exact .refl
    · split
      next free => exact acts_changeCurve free fun curves => curveForm_filter (curveForm_workingCurve curves r) _
      · exact .refl

theorem handles_reqPacc (run : Nat) (confirm : Option Bool) : Handles (reqPacc run confirm) := fun s => by
  unfold reqPacc
  split
  · exact .refl
  next r _ =>
    split
    · exact .refl
    next x pending =>
      split
      · exact .refl
      next res result =>
        split
        · exact .refl
        · split
          next free =>
            split
            · exact .refl
            next p offered =>
              refine .trans (acts_offerPoint free (fun curves => ?_) offered) (Act.decided _ _ _).acts
              obtain ⟨_, _, range⟩ := curves r
              have inRange := range x res pending result
              simp only [resultPoint]
              omega
          · exact .refl

theorem handles_reqPrej (run : Nat) : Handles (reqPrej run) := fun s => by
  unfold reqPrej
  split
  · exact .refl
  · split
    · exact .refl
    · exact (Act.decided _ _ _).acts

theorem handles_reqPena : Handles reqPena := fun _ => Act.enabled.acts.trans (acts_grant _)

theorem handles_reqPdis : Handles reqPdis := fun s => by
  unfold reqPdis
  split
  · exact .refl
  next free =>
    simp only [Bool.not_eq_true, Option.isSome_eq_false_iff, Option.isNone_iff_eq_none] at free
    exact (Act.disabled free).acts

theorem handles_reqCndc (target : Option (Nat × Nat)) : Handles (reqCndc target) := fun s => by
  unfold reqCndc
  split
  · exact chain_foldl _ (fun _ i => (Act.latchCleared i).acts) _ _
  · split
    · exact .refl
    · split
      · exact .refl
      · exact (Act.latchCleared _).acts

theorem acts_stageGroups {b : BlockId} {groups : List FieldGroup} {s t : State}
    (staged : stageGroups b groups s = some t) : Acts s t := by
  unfold stageGroups at staged
  split at staged
  case h_4 => nomatch staged
  all_goals
    obtain ⟨x, _, rfl⟩ := Option.map_eq_some_iff.mp staged
    exact (Act.worked _).acts

theorem handles_reqCstg (block : Nat) (groups : List FieldGroup) : Handles (reqCstg block groups) := fun s => by
  unfold reqCstg
  split
  · exact .refl
  · split
    · exact .refl
    next staged => exact acts_stageGroups staged

/-- A commit changes neither the audit trail nor RETENTION_LOST. -/
theorem acts_commitBlock {b : BlockId} {c : Code} {s t : State} (made : commitBlock b s = .made c t) :
    Acts s t ∧ t.auditFree = s.auditFree := by
  unfold commitBlock at made
  dsimp only at made
  split at made
  · split at made
    · nomatch made
    · split at made
      · nomatch made
      next ok =>
        obtain ⟨rfl, rfl⟩ := Commit.made.inj made
        exact ⟨(Act.stationCommitted _ ok).acts, rfl⟩
  · split at made
    · nomatch made
    · split at made
      · nomatch made
      next ok =>
        obtain ⟨rfl, rfl⟩ := Commit.made.inj made
        exact ⟨(Act.proverCommitted _ ok).acts, rfl⟩
  · split at made
    · nomatch made
    · split at made
      · nomatch made
      next ok =>
        obtain ⟨rfl, rfl⟩ := Commit.made.inj made
        exact ⟨(Act.pointsCommitted _ ok).acts, rfl⟩
  · nomatch made
  · split at made
    · nomatch made
    · split at made
      · nomatch made
      next ok =>
        obtain ⟨rfl, rfl⟩ := Commit.made.inj made
        exact ⟨(Act.runCommitted _ _ ok).acts, rfl⟩

theorem handles_reqCcom (block : Nat) : Handles (reqCcom block) := fun s => by
  unfold reqCcom
  split
  · exact .refl
  · split
    · exact .refl
    · exact .refl
    next made =>
      obtain ⟨acts, sameRoom⟩ := acts_commitBlock made
      split
      next free => exact acts.trans (acts_addAudit free sameRoom _ _)
      · exact .refl

theorem handles_reqKtst (block : Nat) : Handles (reqKtst block) := fun s => by
  unfold reqKtst
  split
  · exact .refl
  · exact (Act.coded _ _).acts

theorem handles_reqAtak (number : Nat) : Handles (reqAtak number) := fun s => by
  unfold reqAtak
  split
  · exact .refl
  · exact (Act.takenDown number).acts

theorem handles_reqRack : Handles reqRack := fun s => by
  unfold reqRack
  split
  next lost => exact (Act.acknowledged _ lost).acts
  · exact .refl

/-! ### Requests as the link spells them -/

/-- A frame's request handles. -/
def ParsesToHandler (p : Parsed) : Prop := ∀ f, p = .request f → Handles f

theorem parsesToHandler_sized {n : Nat} {body : List Byte} {f : State → State × Answer} (handles : Handles f) :
    ParsesToHandler (sized n body f) := by
  intro g request
  unfold sized at request
  split at request
  · exact Parsed.request.inj request ▸ handles
  · nomatch request

theorem parsesToHandler_sizedOr {n m : Nat} {f g : State → State × Answer} {body : List Byte} (handles : Handles f)
    (handles' : Handles g) : ParsesToHandler (sizedOr n f m g body) := by
  intro e request
  unfold sizedOr at request
  split at request
  · exact Parsed.request.inj request ▸ handles
  · split at request
    · exact Parsed.request.inj request ▸ handles'
    · nomatch request

theorem parsesToHandler_parseBsch (body : List Byte) : ParsesToHandler (parseBsch body) :=
  parsesToHandler_sized fun s => by
    split
    · exact handles_reqBsch _ _ _ _ s
    · exact .refl

theorem parsesToHandler_parseMfgt (body : List Byte) : ParsesToHandler (parseMfgt body) :=
  parsesToHandler_sized fun s => by
    split
    · exact handles_reqMfgt _ _ _ s
    · exact .refl

theorem parsesToHandler_parseCstg (body : List Byte) : ParsesToHandler (parseCstg body) := by
  intro f request
  unfold parseCstg at request
  split at request
  · split at request
    · exact Parsed.request.inj request ▸ handles_reqCstg _ _
    · nomatch request
  · nomatch request

theorem parsesToHandler_parse (type : Nat) (body : List Byte) : ParsesToHandler (parse type body) := by
  unfold parse
  split
  · exact parsesToHandler_sized (handles_reqPlsg _ _)
  · exact parsesToHandler_sized (handles_reqFtst _)
  · exact parsesToHandler_sizedOr (handles_reqPrdg _ _) (handles_reqPrdg _ _)
  · exact parsesToHandler_sized (handles_reqSubs _ _)
  · exact parsesToHandler_sized (handles_reqTset _)
  · exact parsesToHandler_sizedOr (handles_reqTotg _ _) (handles_reqTotg _ _)
  · exact parsesToHandler_sized handles_reqSnap
  · exact parsesToHandler_sized (handles_reqSnpg _)
  · exact parsesToHandler_sized (handles_reqService _ _)
  · exact parsesToHandler_sized (handles_reqService _ _)
  · exact parsesToHandler_sized (handles_reqGset _ _ _ _ _)
  · exact parsesToHandler_sizedOr (handles_reqGget _ _) (handles_reqGget _ _)
  · exact parsesToHandler_parseBsch body
  · exact parsesToHandler_sized (handles_reqBdel _)
  · exact parsesToHandler_sized handles_reqBsta
  · exact parsesToHandler_sized handles_reqBend
  · exact parsesToHandler_sized handles_reqBcut
  · exact parsesToHandler_sized (handles_reqBget _)
  · exact parsesToHandler_sizedOr (handles_reqTget _ _) (handles_reqTget _ _)
  · exact parsesToHandler_sized (handles_reqTrel _)
  · exact parsesToHandler_sized (handles_reqPreq _ _ _ _)
  · exact parsesToHandler_sized (handles_reqPcan _)
  · exact parsesToHandler_sized (handles_reqPaln _)
  · exact parsesToHandler_sizedOr (handles_reqPget _ _) (handles_reqPget _ _)
  · exact parsesToHandler_sized (handles_reqPacc _ _)
  · exact parsesToHandler_sized (handles_reqPrej _)
  · exact parsesToHandler_sized handles_reqPena
  · exact parsesToHandler_sized handles_reqPdis
  · exact parsesToHandler_parseMfgt body
  · exact parsesToHandler_sized (handles_reqMfsp _ _ _)
  · exact parsesToHandler_sized (handles_reqMfdp _ _)
  · exact parsesToHandler_sizedOr (handles_reqCndg _ _) (handles_reqCndg _ _)
  · exact parsesToHandler_sizedOr (handles_reqCndc _) (handles_reqCndc _)
  · exact parsesToHandler_parseCstg body
  · exact parsesToHandler_sized (handles_reqCcom _)
  · exact parsesToHandler_sized (handles_reqCget _ _ _)
  · exact parsesToHandler_sized (handles_reqKtst _)
  · exact parsesToHandler_sizedOr (handles_reqAget _ _) (handles_reqAget _ _)
  · exact parsesToHandler_sized (handles_reqAtak _)
  · exact parsesToHandler_sized (handles_reqStat _)
  · exact parsesToHandler_sized handles_reqRstr
  · exact parsesToHandler_sized handles_reqRack
  · exact nofun

end Sys2Proof.Proofs
end

section
/-! The period boundary, the starts, the link and the commands as chains of the small changes. -/

namespace Sys2Proof.Proofs

open Sys2Proof Sys2Proof.Machine Sys2Proof.Safety Sys2Proof.Stated Sys2Proof.Laws

/-! ### What a block at work leaves alone -/

/-- t has the lines, the supply, the timing counter, the queue of commands, and the receiver, reply and station of s. -/
def SamePart (s t : State) : Prop :=
  t.lines = s.lines ∧ t.supply = s.supply ∧ t.counter = s.counter ∧ t.pending = s.pending ∧
    t.link.receiver = s.link.receiver ∧ t.link.reply = s.link.reply ∧ t.link.station = s.link.station

theorem SamePart.refl (s : State) : SamePart s s := ⟨rfl, rfl, rfl, rfl, rfl, rfl, rfl⟩

theorem SamePart.trans {s t u : State} (h : SamePart s t) (g : SamePart t u) : SamePart s u := by
  obtain ⟨lines, supply, counter, pending, receiver, reply, station⟩ := h
  obtain ⟨lines', supply', counter', pending', receiver', reply', station'⟩ := g
  exact ⟨lines'.trans lines, supply'.trans supply, counter'.trans counter, pending'.trans pending,
    receiver'.trans receiver, reply'.trans reply, station'.trans station⟩

theorem SamePart.supply {s t : State} (h : SamePart s t) : t.supply = s.supply := h.2.1
theorem SamePart.pending {s t : State} (h : SamePart s t) : t.pending = s.pending := h.2.2.2.1
theorem SamePart.receiver {s t : State} (h : SamePart s t) : t.link.receiver = s.link.receiver := h.2.2.2.2.1
theorem SamePart.reply {s t : State} (h : SamePart s t) : t.link.reply = s.link.reply := h.2.2.2.2.2.1
theorem SamePart.running {s t : State} (h : SamePart s t) : t.running = s.running := by
  unfold State.running
  rw [h.supply]

theorem SamePart.of_judged {s t : State} (h : Judged s t) : SamePart s t :=
  ⟨h.lines, h.supply, h.counter, h.pending, by rw [h.link], by rw [h.link], by rw [h.link]⟩

/-- A state whose store, and nothing else, was changed. -/
theorem SamePart.of_closeBatch (cause : CloseCause) (s : State) : SamePart s (closeBatch cause s) := by
  unfold closeBatch
  split
  · exact .refl s
  · dsimp only
    split <;> exact .refl s

theorem SamePart.of_startBatch (s : State) : SamePart s (startBatch s) := by
  unfold startBatch
  split <;> exact .refl s

theorem SamePart.of_releaseOldest (s : State) : SamePart s (releaseOldest s) := by
  unfold releaseOldest
  split
  · exact .refl s
  · split <;> exact .refl s

theorem SamePart.of_applyCurve (s : State) (r : Run) : SamePart s (applyCurve s r) := by
  unfold applyCurve
  split <;> exact .refl s

theorem SamePart.of_creditRun (figs : PerRun LastPeriod) (s : State) (r : Run) : SamePart s (creditRun figs s r) := by
  unfold creditRun
  dsimp only
  split <;> exact .refl s

theorem Act.samePart {s t : State} (act : Act s t) : SamePart s t := by
  cases act with
  | judged i on _ => exact .of_judged (judged_judge i on s)
  | lineRead _ => exact .of_judged (judged_readLine s)
  | holdEnded => exact .of_judged ((judged_withMonitor s _).trans (judged_releaseIfFree _))
  | acknowledged d _ => exact SamePart.trans (t := addAudit none d s) (.refl s) (.of_judged (judged_judge _ _ _))
  | closed cause _ => exact SamePart.of_closeBatch cause (s.withChange .none)
  | begun _ => exact SamePart.of_startBatch (s.withChange .none)
  | ticketReleased => exact .of_releaseOldest s
  | curveApplied r => exact .of_applyCurve s r
  | credited figs r => exact .of_creditRun figs s r
  | coded b c => cases b <;> exact .refl s
  | _ => exact .refl s

theorem Acts.samePart {s t : State} (acts : Acts s t) : SamePart s t := by
  induction acts with
  | refl => exact .refl s
  | tail _ last ih => exact ih.trans last.samePart

theorem Move.samePart {s t : State} (move : Move s t) : SamePart s t := by
  cases move with
  | act act => exact act.samePart
  | stationApplied work pending =>
    refine .trans ?_ (.of_judged (judged_applyClasses _ _ _))
    exact .refl s
  | _ => exact .refl s

theorem Moves.samePart {s t : State} (moves : Moves s t) : SamePart s t := by
  induction moves with
  | refl => exact .refl s
  | tail _ last ih => exact ih.trans last.samePart

/-! ### The period boundary -/

theorem acts_judgeRunPeriod (s : State) (r : Run) (f : LastPeriod) : Acts s (judgeRunPeriod s r f) :=
  chain_foldl _ (fun _ _ => acts_judgeRun _ _ _ _) _ _

theorem acts_judgePeriod (closing : Bool) (figs : PerRun LastPeriod) (s : State) :
    Acts s (judgePeriod closing figs s) := by
  unfold judgePeriod
  dsimp only
  have judged := (chain_foldl _ (fun t r => acts_judgeRunPeriod t r (figs.get r)) allRuns s).trans
    (acts_judge (i := .station .waterSubstituted) nofun (decide (figs.r1.wStatus ≠ .good)) _)
  split
  · exact judged.trans (acts_judgeOff _ _)
  · exact judged

theorem acts_credits (figs : PerRun LastPeriod) (s : State) : Acts s (allRuns.foldl (creditRun figs) s) :=
  chain_foldl _ (fun _ _ => (Act.credited figs _).acts) _ _

theorem moves_endPeriod (closing : Bool) (pe : Nat) (s : State) : Moves s (endPeriod closing pe s) := by
  unfold endPeriod
  dsimp only
  refine .trans (.trans ?_ (Act.boundaryTimed _).acts.moves) (Move.period _).moves
  exact ((acts_judgePeriod _ _ _).trans (acts_credits _ _)).moves

theorem acts_applyService (s : State) (r : Run) : Acts s (applyService s r) := by
  unfold applyService
  dsimp only
  split
  · exact .refl
  · exact (Act.serviceSet r _ (by rfl)).acts

theorem acts_compareNomination (s : State) : Acts s (compareNomination s) := by
  unfold compareNomination
  split
  · exact .refl
  next active => exact (Act.batchMoved (by exact active) (by rfl)).acts

theorem compareNomination_held (s : State) : (compareNomination s).store.held = s.store.held := by
  unfold compareNomination
  split <;> rfl

/-- With no change pending, taking the pending change away leaves the state as it is. -/
theorem withChange_none_of_none {s : State} (none_ : s.change = .none) : s.withChange .none = s := by
  cases s
  simp only at none_
  subst none_
  rfl

theorem closeBatch_active (cause : CloseCause) (s : State) : (closeBatch cause s).store.active = none := by
  unfold closeBatch
  split
  · assumption
  · dsimp only
    split <;> rfl

theorem closeBatch_change (cause : CloseCause) (s : State) : (closeBatch cause s).change = s.change := by
  unfold closeBatch
  split
  · rfl
  · dsimp only
    split <;> rfl

theorem acts_startBatch {s : State} (noBatch : s.store.active = none) (noChange : s.change = .none) :
    Acts s (startBatch s) := by
  have begun := (Act.begun (s := s) (.inr noBatch)).acts
  rwa [withChange_none_of_none noChange] at begun

theorem acts_closeBatch {s : State} (cause : CloseCause) (free : s.store.held = none) (noChange : s.change = .none) :
    Acts s (closeBatch cause s) := by
  have closed := (Act.closed (s := s) cause (.inr (.inr free))).acts
  rwa [withChange_none_of_none noChange] at closed

theorem acts_storeFull (on : Bool) (s : State) : Acts s (judge (.station .ticketStoreFull) on s) :=
  acts_judge (i := .station .ticketStoreFull) nofun on s

theorem acts_sequence (s : State) : Acts s (Machine.sequence s).1 := by
  unfold Machine.sequence
  dsimp only
  refine .trans (acts_compareNomination s) ?_
  split
  next change => exact (Act.begun (.inl change)).acts
  next change => exact .trans (Act.closed .hostEnd (.inl change)).acts (acts_storeFull _ _)
  next change =>
    refine .trans (.trans (Act.closed .hostCutover (.inr (.inl change))).acts (acts_storeFull false _)) ?_
    refine acts_startBatch ?_ ?_
    · rw [(judged_judge _ _ _).active, closeBatch_active]
    · rw [(judged_judge _ _ _).change, closeBatch_change]
      rfl
  next change =>
    split
    · exact .refl
    · split
      · split
        next free =>
          rw [Option.isNone_iff_eq_none] at free
          exact .trans (acts_closeBatch _ free change) (acts_storeFull _ _)
        · exact acts_storeFull _ _
      · exact .refl

theorem acts_boundaryAbort (want : EndCause) (causes : List EndCause) (s : State) :
    Acts s (boundaryAbort want causes s) := by
  unfold boundaryAbort
  split
  · exact acts_abortRecord _ _
  · exact .refl

theorem moves_applyStation (s : State) : Moves s (applyStation s) := by
  unfold applyStation
  split
  · exact .refl
  next pending => exact .trans (Move.stationApplied _ pending).moves (acts_clearMark _ _).moves

theorem moves_applyProver (s : State) : Moves s (applyProver s) := by
  unfold applyProver
  split
  · exact .refl
  next pending =>
    dsimp only
    refine .trans (.trans (Move.proverApplied pending).moves ?_) (acts_clearMark _ _).moves
    exact (Act.worked _).acts.moves

theorem moves_applyPoints (s : State) : Moves s (applyPoints s) := by
  unfold applyPoints
  split
  · exact .refl
  next pending =>
    dsimp only
    refine .trans (.trans (.trans (Move.pointsApplied pending).moves ?_) (acts_scannerTakesPoints _).moves)
      (acts_clearMark _ _).moves
    exact (Act.worked _).acts.moves

theorem moves_applyRun (s : State) (r : Run) : Moves s (applyRun s r) := by
  unfold applyRun
  split
  · exact .refl
  next pending =>
    dsimp only
    have applied := (Move.runApplied r pending).moves
    split
    · refine .trans (.trans applied ?_) (acts_clearMark _ _).moves
      exact (Act.worked _).acts.moves
    · refine .trans (.trans (.trans applied ?_) (acts_clearMark _ _).moves) (acts_judgeRun _ _ _ _).moves
      exact (Act.worked _).acts.moves

theorem moves_applyBlocks (s : State) : Moves s (applyBlocks s) :=
  (((moves_applyStation s).trans (moves_applyProver _)).trans (moves_applyPoints _)).trans
    (chain_foldl _ moves_applyRun _ _)

theorem moves_applyAndVerify (verifyFirst : Bool) (s : State) : Moves s (applyAndVerify verifyFirst s) := by
  unfold applyAndVerify
  dsimp only
  refine .trans ?_ (Act.worked _).acts.moves
  split
  · exact (acts_verifyBlock _ _).moves.trans (moves_applyBlocks _)
  · exact (moves_applyBlocks _).trans (acts_verifyBlock _ _).moves

theorem acts_applyCurves (s : State) : Acts s (allRuns.foldl applyCurve s) :=
  chain_foldl _ (fun _ _ => (Act.curveApplied _).acts) _ _

theorem moves_deferredItems (order : BoundaryOrder) (s : State) : Moves s (deferredItems order s) := by
  unfold deferredItems
  dsimp only
  have served : Moves s (allRuns.foldl applyService (allRuns.foldl applyCurve (Machine.sequence (checkStability s)).1)) :=
    ((((acts_checkStability s).trans (acts_sequence _)).trans (acts_applyCurves _)).trans
      (chain_foldl _ acts_applyService _ _)).moves
  split
  · split
    · exact (served.trans (moves_applyAndVerify _ _)).trans (acts_boundaryAbort _ _ _).moves
    · exact served.trans (moves_applyAndVerify _ _)
  · exact (served.trans (acts_boundaryAbort _ _ _).moves).trans (moves_applyAndVerify _ _)

theorem moves_beginPeriod (s : State) : Moves s (beginPeriod s) := by
  unfold beginPeriod
  dsimp only
  refine .trans ?_ (Move.period _).moves
  exact Acts.moves (chain_foldl _ acts_fixCounting _ _)

theorem moves_boundary (closing : Bool) (pe : Nat) (order : BoundaryOrder) (s : State) :
    Moves s (boundary closing pe order s) :=
  ((moves_endPeriod _ _ _).trans (moves_deferredItems _ _)).trans (moves_beginPeriod _)

/-! ### Starts and power -/

theorem acts_startingJudgement {k : StationKind} {s : State} (room : k = .retentionLost → s.store.audit = []) :
    Acts s (startingJudgement k s) := by
  unfold startingJudgement
  dsimp only
  have judged : Acts s (judge (.station k) true s) := (Act.judged _ _ fun k' _ => room (by injection k')).acts
  split
  · exact judged
  next permit => exact judged.trans (Act.lineRead (by simpa using permit)).acts

theorem stages_performStart (s : State) : Stages s (performStart s) := by
  unfold performStart
  split
  · dsimp only
    refine .trans (.trans (.trans Stage.warm.stages (acts_startingJudgement (k := .powerInterrupted) nofun).stages) ?_)
      (acts_nextConversion _).stages
    exact (Stage.supply _ (by rfl)).stages
  · exact .trans (.trans Stage.cold.stages (acts_startingJudgement fun _ => rfl).stages) (acts_nextConversion _).stages

theorem stages_takeWarning (order : BoundaryOrder) (s : State) : Stages s (takeWarning order s) := by
  unfold takeWarning
  dsimp only
  split
  · unfold closeAndHalt
    exact .trans (.trans (.trans (Stage.lines _).stages (acts_abortRecord _ _).stages) (Stage.boundary _ _ _).stages)
      Stage.halted.stages
  · exact (Stage.lines _).stages

theorem stages_dropWarning (s : State) : Stages s (dropWarning s) := by
  unfold dropWarning
  dsimp only
  split
  · exact .trans (Stage.lines _).stages (stages_performStart _)
  · exact (Stage.lines _).stages

theorem stages_powerReturns (s : State) : Stages s (powerReturns s) := by
  unfold powerReturns
  dsimp only
  split
  · exact .trans (Stage.lines _).stages (stages_performStart _)
  · exact (Stage.lines _).stages

theorem stages_backupFails (s : State) : Stages s (backupFails s) := by
  unfold backupFails
  split
  · exact .refl
  · exact (Stage.backupLost _).stages

theorem stages_resetFalls (s : State) : Stages s (resetFalls s) := by
  unfold resetFalls
  dsimp only
  split
  · exact .trans (Stage.lines _).stages (Stage.supply _ (by rfl)).stages
  · exact (Stage.lines _).stages

theorem stages_resetRises (s : State) : Stages s (resetRises s) := by
  unfold resetRises
  exact .trans (Stage.lines _).stages (Stage.supply _ (by rfl)).stages

theorem stages_resetQualifies (s : State) : Stages s (resetQualifies s) := by
  unfold resetQualifies
  split
  · exact (stages_performStart s).trans (Stage.supply _ (by rfl)).stages
  · exact .refl

theorem stages_secondPasses (s : State) : Stages s (secondPasses s) := by
  unfold secondPasses
  split
  · exact .refl
  · exact (Stage.supply _ (by rfl)).stages

theorem stages_ordinaryBoundary (order : BoundaryOrder) (s : State) : Stages s (ordinaryBoundary order s) := by
  unfold ordinaryBoundary
  split
  · exact .refl
  · dsimp only
    exact .trans (.trans (Stage.boundary _ _ _).stages (Stage.supply _ (by rfl)).stages) (acts_settle _ _).stages

theorem stages_clockCounts (s : State) : Stages s (clockCounts s) := by
  unfold clockCounts
  split
  · exact .refl
  · exact (Act.clocked _).acts.stages

/-! ### Lines -/

theorem stages_risingEdge (r : Run) (c : Channel) (s : State) : Stages s (risingEdge r c s) := by
  unfold risingEdge
  dsimp only
  split
  · exact .refl
  · split
    · refine .trans (Stage.lines _).stages (acts_setRunPulse fun ok => ?_).stages
      cases c <;> exact ok
    · exact (Stage.lines _).stages

theorem countUp_le {top n : Nat} (le : n ≤ top) : countUp top n ≤ top := by
  unfold countUp
  split <;> omega

theorem stages_fallEdge (r : Run) (c : Channel) (s : State) : Stages s (fallEdge r c s) := by
  unfold fallEdge
  dsimp only
  split
  · refine .trans (Stage.lines _).stages (acts_setRunPulse fun ok => ?_).stages
    obtain ⟨silenceA, silenceB, mismatch, matched, noiseA, noiseB⟩ := ok
    cases c with
    | a => exact ⟨silenceA, silenceB, mismatch, matched, countUp_le noiseA, noiseB⟩
    | b => exact ⟨silenceA, silenceB, mismatch, matched, noiseA, countUp_le noiseB⟩
  · exact (Stage.lines _).stages

theorem stages_activateDetector (d : Detector) (s : State) : Stages s (activateDetector d s) := by
  unfold activateDetector
  dsimp only
  split
  · exact .refl
  · split
    · exact .trans (Stage.lines _).stages (Act.detected _ _).acts.stages
    · exact (Stage.lines _).stages

theorem stages_releaseDetector (d : Detector) (s : State) : Stages s (releaseDetector d s) := by
  unfold releaseDetector
  dsimp only
  split
  · exact .trans (Stage.lines _).stages (Act.detected _ _).acts.stages
  · exact (Stage.lines _).stages

theorem stages_permitFalls (s : State) : Stages s (permitFalls s) := by
  unfold permitFalls
  dsimp only
  split
  · exact .trans (Stage.lines _).stages (Act.lineSeen _ _).acts.stages
  · exact (Stage.lines _).stages

theorem stages_permitRises (s : State) : Stages s (permitRises s) := by
  unfold permitRises
  dsimp only
  split
  · exact .trans (.trans (Stage.lines _).stages (Act.lineSeen _ _).acts.stages) (acts_judgeOff _ _).stages
  · exact (Stage.lines _).stages

/-! ### The link -/

theorem stages_recordFault (f : FrameFault) (s : State) : Stages s (recordFault f s) :=
  (Stage.link _ (by exact fun ok => ok)).stages

/-- A receiver that is on, while no reply is sent. -/
theorem linkOk_of_on {l : Link} (on : l.receiver ≠ .off) (silent : ∀ r, l.reply ≠ .sending r) : LinkOk l :=
  ⟨fun h => absurd h on, fun ⟨r, h⟩ => absurd h (silent r)⟩

theorem stages_abandonReply (s : State) : Stages s (abandonReply s).1 := by
  unfold abandonReply
  split
  next r queued =>
    dsimp only
    have abandoned : Stages s (recordFault .replyAbandoned (s.withLink { s.link with reply := .none })) := by
      refine .trans (Stage.link _ fun ok => ?_).stages (stages_recordFault _ _)
      refine linkOk_of_on (fun off => ?_) nofun
      obtain ⟨_, sending⟩ := ok.mp off
      nomatch queued.symm.trans sending
    split
    · exact abandoned.trans (stages_performStart _)
    · exact abandoned
  · exact .refl
  · exact .refl

theorem abandonReply_receiver {s : State} (taken : (abandonReply s).2 = false) :
    (abandonReply s).1.link.receiver = s.link.receiver := by
  revert taken
  unfold abandonReply
  split
  · dsimp only
    split
    · exact nofun
    · exact fun _ => rfl
  · exact fun _ => rfl
  · exact fun _ => rfl

/-- A receiver that is on goes on in another state. -/
theorem stages_setReceiver {s : State} {r : Receiver} (on : s.link.receiver ≠ .off) (on' : r ≠ .off) :
    Stages s (setReceiver r s) :=
  (Stage.link _ (by exact fun ok => linkOk_of_on on' fun x sending => on (ok.mpr ⟨x, sending⟩))).stages

theorem stages_frameEnds {s : State} (on : s.link.receiver ≠ .off) : Stages s (frameEnds s) :=
  (Stage.link _ (by exact fun ok => linkOk_of_on nofun fun x sending => on (ok.mpr ⟨x, sending⟩))).stages

theorem stages_queueReply {s : State} (on : s.link.receiver ≠ .off) (type : Nat) (tag : Tag) (a : Answer) :
    Stages s (queueReply type tag a s) :=
  (Stage.link _ (by exact fun _ => linkOk_of_on on nofun)).stages

theorem stages_takeRequest {f : State → State × Answer} (handles : Handles f) {s : State}
    (on : s.link.receiver ≠ .off) (type : Nat) (tag : Tag) : Stages s (takeRequest type tag f s) := by
  have acts : Acts s (f s).1 := handles s
  exact acts.stages.trans (stages_queueReply (by rw [acts.samePart.receiver]; exact on) _ _ _)

/-- A request frame goes on, whatever its handler does. -/
theorem requestFrame_stages {f : State → State × Answer} (handles : Handles f) (dt : Nat) (h : Header) (type : Nat)
    (b : Bool) (s : State) : ∃ t, requestFrame dt h type b f s = .next t ∧ Stages s t := by
  unfold requestFrame
  split
  · have later : Stages s (advance dt s) := by
      rw [advance_frame]
      exact (Stage.time _).stages
    dsimp only
    split
    · exact ⟨_, rfl, later⟩
    next passed =>
      have on : (advance dt s).link.receiver ≠ .off := fun off => passed (.inl off)
      have abandoned := later.trans (stages_abandonReply (advance dt s))
      have compared : (abandonReply (advance dt s)).2 = false →
          Stages s (frameEnds (abandonReply (advance dt s)).1) := fun taken =>
        abandoned.trans (stages_frameEnds (by rw [abandonReply_receiver taken]; exact on))
      split
      · split
        · exact ⟨_, rfl, abandoned⟩
        next taken =>
          rw [Bool.not_eq_true] at taken
          split
          · exact ⟨_, rfl, (compared taken).trans (handles _).stages⟩
          · exact ⟨_, rfl, compared taken⟩
      · split
        · split
          · exact ⟨_, rfl, abandoned⟩
          next taken =>
            rw [Bool.not_eq_true] at taken
            exact ⟨_, rfl, (compared taken).trans (stages_takeRequest handles (by nofun) _ _)⟩
        · exact ⟨_, rfl, later.trans (stages_frameEnds on)⟩
  · exact ⟨_, rfl, .refl⟩

theorem stages_takeBroadcast (type : Nat) (body : List Byte) (s : State) : Stages s (takeBroadcast type body s) := by
  unfold takeBroadcast
  split
  · split
    next request => exact (parsesToHandler_parse type body _ request s).stages
    · exact .refl
    · exact .refl
  · exact .refl

theorem stages_takeFrame {s : State} (on : s.link.receiver ≠ .off) (type : Nat) (tag : Tag) (body : List Byte) :
    Stages s (takeFrame type tag body s) := by
  unfold takeFrame
  split
  · exact stages_takeRequest (handles_refuse _) on _ _
  · exact stages_takeRequest (handles_refuse _) on _ _
  next request => exact stages_takeRequest (parsesToHandler_parse type body _ request) on _ _

theorem stages_completeFrame {s : State} (on : s.link.receiver ≠ .off) (station type : Nat) (tag : Tag)
    (body check : List Byte) : Stages s (completeFrame station type tag body check s) := by
  have ready : Stages s (s.withLink { s.link with receiver := .ready }) := stages_setReceiver on nofun
  unfold completeFrame
  dsimp only
  split
  · split
    · exact ready
    · split
      · exact ready.trans (stages_takeBroadcast _ _ _)
      · exact ready.trans (stages_takeFrame (by nofun) _ _ _)
  · exact ready.trans (stages_recordFault _ _)

theorem stages_stationCompare {s : State} (on : s.link.receiver ≠ .off) (c : Byte) : Stages s (stationCompare c s) := by
  unfold stationCompare
  split
  · dsimp only
    split
    · exact stages_abandonReply s
    next taken =>
      rw [Bool.not_eq_true] at taken
      exact (stages_abandonReply s).trans (stages_setReceiver (by rw [abandonReply_receiver taken]; exact on) nofun)
  · exact stages_setReceiver on nofun

theorem stages_lengthTaken {s : State} (on : s.link.receiver ≠ .off) (station : Byte) (header : List Byte) (len : Nat) :
    Stages s (lengthTaken station header len s) := by
  unfold lengthTaken
  split
  · split
    · exact stages_setReceiver on nofun
    · exact (stages_recordFault _ _).trans (stages_setReceiver on nofun)
  · exact stages_setReceiver on nofun

theorem stages_takeCharacter (c : Byte) (s : State) : Stages s (takeCharacter c s) := by
  unfold takeCharacter
  split
  next ready =>
    refine stages_setReceiver (by rw [ready]; nofun) ?_
    split <;> nofun
  next header => exact stages_stationCompare (by rw [header]; nofun) c
  next header =>
    have on : s.link.receiver ≠ .off := by rw [header]; nofun
    unfold headerCharacter
    split
    · exact stages_setReceiver on nofun
    · exact stages_lengthTaken on _ _ _
  next body =>
    have on : s.link.receiver ≠ .off := by rw [body]; nofun
    unfold bodyCharacter
    dsimp only
    split
    · exact stages_setReceiver on nofun
    · exact stages_completeFrame on _ _ _ _ _
  next skipping =>
    refine stages_setReceiver (by rw [skipping]; nofun) ?_
    split <;> nofun
  · exact .refl
  · exact .refl

theorem stages_receiveCharacter (c : Byte) (s : State) : Stages s (receiveCharacter c s) := by
  unfold receiveCharacter
  split
  · exact .refl
  · exact .trans (Stage.link _ (by exact fun ok => ok)).stages (stages_takeCharacter _ _)

theorem stages_breakOff (s : State) : Stages s (breakOff s) := by
  unfold breakOff
  split
  · exact .refl
  · exact .refl
  next header =>
    have on : s.link.receiver ≠ .off := by rw [header]; nofun
    split
    · exact .trans (stages_recordFault _ _) (stages_setReceiver on nofun)
    · exact stages_setReceiver on nofun
  next header => exact stages_setReceiver (by rw [header]; nofun) nofun
  next body =>
    have on : s.link.receiver ≠ .off := by rw [body]; nofun
    exact .trans (stages_recordFault _ _) (stages_setReceiver on nofun)
  next skipping => exact stages_setReceiver (by rw [skipping]; nofun) nofun
  next waiting => exact stages_setReceiver (by rw [waiting]; nofun) nofun

theorem stages_silenceExpires (s : State) : Stages s (silenceExpires s) := by
  unfold silenceExpires
  split
  · exact .refl
  · split
    · exact .refl
    · exact .trans (Stage.link _ (by exact fun ok => ok)).stages (stages_breakOff _)

theorem stages_startReply (s : State) : Stages s (startReply s) := by
  unfold startReply
  split
  · split
    · exact .refl
    · exact (Stage.link _ fun _ => ⟨fun _ => ⟨_, rfl⟩, fun _ => rfl⟩).stages
  · exact .refl
  · exact .refl

theorem stages_endReply (s : State) : Stages s (endReply s) := by
  unfold endReply
  split
  · have ended : Stages s (s.withLink { s.link with
        reply := .none, sent := [], receiver := .ready, silence := some s.counter }) :=
      (Stage.link _ (by exact fun _ => linkOk_of_on nofun nofun)).stages
    dsimp only
    split
    · exact ended.trans (stages_performStart _)
    · exact ended
  · exact .refl
  · exact .refl

theorem stages_deadlineExpires (s : State) : Stages s (deadlineExpires s) := by
  unfold deadlineExpires
  split
  · split
    · exact .refl
    · exact stages_abandonReply s
  · exact .refl
  · exact .refl

/-! ### The commands -/

/-- A command goes on to a next state by a chain of stages. -/
def GoesByStages (i : Instr) : Prop := ∀ s, ∃ t, exec i s = .next t ∧ Stages s t

theorem stages_advance (dt : Nat) (s : State) : Stages s (advance dt s) := by
  rw [advance_frame]
  exact (Stage.time _).stages

theorem goes_of_always {i : Instr} {dt : Nat} {f : State → State} (command : ∀ s, exec i s = .next (f (advance dt s)))
    (stages : ∀ s, Stages s (f s)) : GoesByStages i :=
  fun s => ⟨_, command s, (stages_advance dt s).trans (stages _)⟩

theorem goes_of_whileRunning {i : Instr} {dt : Nat} {f : State → State}
    (command : ∀ s, exec i s = .next (whileRunning dt f s)) (stages : ∀ s, Stages s (f s)) : GoesByStages i := fun s => by
  refine ⟨_, command s, ?_⟩
  unfold whileRunning
  split
  · exact (stages_advance dt s).trans (stages _)
  · exact .refl

/-- An event that settles the arbiter at its end (R101). -/
theorem goes_of_settled {i : Instr} {dt : Nat} {f : State → State}
    (command : ∀ s, exec i s = .next (whileRunning dt (fun s => settle s (f s)) s)) (acts : ∀ s, Acts s (f s)) :
    GoesByStages i :=
  goes_of_whileRunning command fun s => ((acts s).trans (acts_settle _ _)).stages

theorem goes_of_request {i : Instr} {dt : Nat} {h : Header} {type : Nat} {b : Bool} {f : State → State × Answer}
    (command : ∀ s, exec i s = requestFrame dt h type b f s) (handles : Handles f) : GoesByStages i := fun s => by
  rw [command]
  exact requestFrame_stages handles dt h type b s

theorem goesByStages (i : Instr) : GoesByStages i := by
  cases i with
  | plsg => exact goes_of_request (fun _ => rfl) (handles_reqPlsg _ _)
  | ftst => exact goes_of_request (fun _ => rfl) (handles_reqFtst _)
  | prdg => exact goes_of_request (fun _ => rfl) (handles_reqPrdg _ _)
  | subs => exact goes_of_request (fun _ => rfl) (handles_reqSubs _ _)
  | tset => exact goes_of_request (fun _ => rfl) (handles_reqTset _)
  | totg => exact goes_of_request (fun _ => rfl) (handles_reqTotg _ _)
  | snap => exact goes_of_request (fun _ => rfl) handles_reqSnap
  | snpg => exact goes_of_request (fun _ => rfl) (handles_reqSnpg _)
  | ropn => exact goes_of_request (fun _ => rfl) (handles_reqService _ _)
  | rcls => exact goes_of_request (fun _ => rfl) (handles_reqService _ _)
  | gset => exact goes_of_request (fun _ => rfl) (handles_reqGset _ _ _ _ _)
  | gget => exact goes_of_request (fun _ => rfl) (handles_reqGget _ _)
  | bsch => exact goes_of_request (fun _ => rfl) (handles_reqBsch _ _ _ _)
  | bdel => exact goes_of_request (fun _ => rfl) (handles_reqBdel _)
  | bsta => exact goes_of_request (fun _ => rfl) handles_reqBsta
  | bend => exact goes_of_request (fun _ => rfl) handles_reqBend
  | bcut => exact goes_of_request (fun _ => rfl) handles_reqBcut
  | bget => exact goes_of_request (fun _ => rfl) (handles_reqBget _)
  | tget => exact goes_of_request (fun _ => rfl) (handles_reqTget _ _)
  | trel => exact goes_of_request (fun _ => rfl) (handles_reqTrel _)
  | preq => exact goes_of_request (fun _ => rfl) (handles_reqPreq _ _ _ _)
  | pcan => exact goes_of_request (fun _ => rfl) (handles_reqPcan _)
  | paln => exact goes_of_request (fun _ => rfl) (handles_reqPaln _)
  | pget => exact goes_of_request (fun _ => rfl) (handles_reqPget _ _)
  | pacc => exact goes_of_request (fun _ => rfl) (handles_reqPacc _ _)
  | prej => exact goes_of_request (fun _ => rfl) (handles_reqPrej _)
  | pena => exact goes_of_request (fun _ => rfl) handles_reqPena
  | pdis => exact goes_of_request (fun _ => rfl) handles_reqPdis
  | mfgt => exact goes_of_request (fun _ => rfl) (handles_reqMfgt _ _ _)
  | mfsp => exact goes_of_request (fun _ => rfl) (handles_reqMfsp _ _ _)
  | mfdp => exact goes_of_request (fun _ => rfl) (handles_reqMfdp _ _)
  | cndg => exact goes_of_request (fun _ => rfl) (handles_reqCndg _ _)
  | cndc => exact goes_of_request (fun _ => rfl) (handles_reqCndc _)
  | cstg => exact goes_of_request (fun _ => rfl) (handles_reqCstg _ _)
  | ccom => exact goes_of_request (fun _ => rfl) (handles_reqCcom _)
  | cget => exact goes_of_request (fun _ => rfl) (handles_reqCget _ _ _)
  | ktst => exact goes_of_request (fun _ => rfl) (handles_reqKtst _)
  | aget => exact goes_of_request (fun _ => rfl) (handles_reqAget _ _)
  | atak => exact goes_of_request (fun _ => rfl) (handles_reqAtak _)
  | stat => exact goes_of_request (fun _ => rfl) (handles_reqStat _)
  | rstr => exact goes_of_request (fun _ => rfl) handles_reqRstr
  | rack => exact goes_of_request (fun _ => rfl) handles_reqRack
  | meterChannelRisingEdge => exact goes_of_always (fun _ => rfl) (stages_risingEdge _ _)
  | meterChannelFall => exact goes_of_always (fun _ => rfl) (stages_fallEdge _ _)
  | qualificationTimeExpiry => exact goes_of_settled (fun _ => rfl) (acts_qualificationExpires _ _ _)
  | detectorActivation => exact goes_of_always (fun _ => rfl) (stages_activateDetector _)
  | detectorRelease => exact goes_of_always (fun _ => rfl) (stages_releaseDetector _)
  | debounceExpiry => exact goes_of_settled (fun _ => rfl) (acts_debounceExpires _)
  | deadTimeExpiry => exact goes_of_whileRunning (fun _ => rfl) fun s => (acts_deadTimeExpires _ s).stages
  | conversionCompletion => exact goes_of_settled (fun _ => rfl) (acts_completeConversion _)
  | staleTimerExpiry => exact goes_of_settled (fun _ => rfl) (acts_goStale _)
  | periodBoundary => exact goes_of_whileRunning (fun _ => rfl) (stages_ordinaryBoundary _)
  | alignTimeoutExpiry => exact goes_of_settled (fun _ => rfl) (acts_recordTimeout _ _)
  | launchTimeoutExpiry => exact goes_of_settled (fun _ => rfl) (acts_recordTimeout _ _)
  | passTimeoutExpiry => exact goes_of_settled (fun _ => rfl) (acts_recordTimeout _ _)
  | holdTimerExpiry => exact goes_of_settled (fun _ => rfl) acts_holdExpires
  | permitLineFall => exact goes_of_always (fun _ => rfl) stages_permitFalls
  | permitLineRise => exact goes_of_always (fun _ => rfl) stages_permitRises
  | externalFilterExpiry => exact goes_of_settled (fun _ => rfl) acts_filterExpires
  | characterReceived => exact goes_of_whileRunning (fun _ => rfl) (stages_receiveCharacter _)
  | silenceTimerExpiry => exact goes_of_whileRunning (fun _ => rfl) stages_silenceExpires
  | replyStart => exact goes_of_whileRunning (fun _ => rfl) stages_startReply
  | replyDeadlineExpiry => exact goes_of_whileRunning (fun _ => rfl) stages_deadlineExpires
  | replyEnd => exact goes_of_whileRunning (fun _ => rfl) stages_endReply
  | powerFailWarning => exact goes_of_always (fun _ => rfl) (stages_takeWarning _)
  | warningDeassertion => exact goes_of_always (fun _ => rfl) stages_dropWarning
  | mainPowerReturn => exact goes_of_always (fun _ => rfl) stages_powerReturns
  | mainPowerFailure => exact goes_of_always (fun _ => rfl) fun _ => Stage.unpowered.stages
  | backupSupplyFailure => exact goes_of_always (fun _ => rfl) stages_backupFails
  | resetLineFall => exact goes_of_always (fun _ => rfl) stages_resetFalls
  | resetLineRise => exact goes_of_always (fun _ => rfl) stages_resetRises
  | resetQualificationExpiry => exact goes_of_whileRunning (fun _ => rfl) stages_resetQualifies
  | stationClockSecond => exact goes_of_always (fun _ => rfl) stages_clockCounts
  | secondsSinceStartAdvance => exact goes_of_whileRunning (fun _ => rfl) stages_secondPasses

/-! ### Runs and invariants -/

theorem boundary_pending (closing : Bool) (pe : Nat) (order : BoundaryOrder) (s : State) :
    (boundary closing pe order s).pending = s.pending := (moves_boundary closing pe order s).samePart.pending

theorem Stages.pending {s t : State} (stages : Stages s t) : t.pending = s.pending := by
  induction stages with
  | refl => rfl
  | tail _ last ih =>
    refine .trans ?_ ih
    cases last with
    | act act => exact act.samePart.pending
    | boundary => exact boundary_pending _ _ _ _
    | _ => rfl

/-- An invariant that no command of the queue matters to, and that every stage keeps, is kept by every step. -/
theorem kept_of_stages {inv : State → Prop} (queue : ∀ s x, inv s → inv (s.withPending x))
    (keeps : ∀ s t, Stage s t → inv s → inv t) : Kept inv := by
  intro s t holds stepped
  unfold step at stepped
  split at stepped
  · exact Host.Outcome.next.inj stepped ▸ holds
  next c rest _ =>
    obtain ⟨t', goes, stages⟩ := goesByStages c (s.withPending rest)
    rw [goes] at stepped
    exact Host.Outcome.next.inj stepped ▸ keeps_of_chain keeps stages (queue s rest holds)

/-- Settles O2: a command goes by stages, none of which touches the queue, and idling is a step too. -/
theorem everyCommandGoesOn : Obligations.EveryCommandGoesOn := by
  have goesOn : ∀ (i : Instr) (s : State), ∃ t, Gives i s t ∧ t.pending = s.pending := fun i s => by
    obtain ⟨t, goes, stages⟩ := goesByStages i s
    exact ⟨t, goes, stages.pending⟩
  refine ⟨goesOn, fun s t _ => ?_⟩
  unfold step
  split
  · exact ⟨_, rfl⟩
  next c rest _ =>
    obtain ⟨u, goes, _⟩ := goesOn c (t.withPending rest)
    exact ⟨u, goes⟩

end Sys2Proof.Proofs
end

section
/-! What a judgement does: to the records, to the permit line, and to what it hands on. The integrity states are read off
the records and the classes (R145), so that whatever keeps both keeps them. -/

namespace Sys2Proof.Proofs

open Sys2Proof Sys2Proof.Machine Sys2Proof.Safety Sys2Proof.Stated Sys2Proof.Laws

/-! ### Records and classes -/

theorem mem_runConditionIds {i : ConditionId} {r : Run} : i ∈ runConditionIds r ↔ ∃ k, i = .run k r := by
  have all : ∀ k : RunKind, k ∈ allRunKinds := fun k => by cases k <;> decide
  unfold runConditionIds
  constructor
  · rintro mem
    obtain ⟨k, _, rfl⟩ := List.mem_map.mp mem
    exact ⟨k, rfl⟩
  · rintro ⟨k, rfl⟩
    exact List.mem_map.mpr ⟨k, all k, rfl⟩

theorem mem_stationConditionIds {i : ConditionId} : i ∈ stationConditionIds ↔ ∃ k, i = .station k := by
  have all : ∀ k : StationKind, k ∈ allStationKinds := fun k => by cases k <;> decide
  unfold stationConditionIds
  constructor
  · rintro mem
    obtain ⟨k, _, rfl⟩ := List.mem_map.mp mem
    exact ⟨k, rfl⟩
  · rintro ⟨k, rfl⟩
    exact List.mem_map.mpr ⟨k, all k, rfl⟩

theorem mem_allRuns (r : Run) : r ∈ allRuns := by cases r <;> decide

theorem mem_allConditionIds (i : ConditionId) : i ∈ allConditionIds := by
  unfold allConditionIds
  rw [List.mem_append, List.mem_flatten]
  cases i with
  | run k r => exact .inl ⟨_, List.mem_map.mpr ⟨r, mem_allRuns r, rfl⟩, mem_runConditionIds.mpr ⟨k, rfl⟩⟩
  | station k => exact .inr (mem_stationConditionIds.mpr ⟨k, rfl⟩)

theorem anyActive_iff {t : ConditionTable} {b : StationBlock} {c : ConditionClass} {ids : List ConditionId} :
    anyActive t b c ids = true ↔ ∃ i ∈ ids, (t.get i).active = true ∧ conditionClass b i = c := by
  simp [anyActive]

/-- The records that count for a run: its own and the station's (R145). -/
def Counts (r : Run) (i : ConditionId) : Prop := (∃ k, i = .run k r) ∨ ∃ k, i = .station k

/-- A record that counts for a run is active with a class. -/
def Found (s : State) (r : Run) (c : ConditionClass) : Prop :=
  ∃ i, Counts r i ∧ s.active i = true ∧ conditionClass s.stationBlock i = c

theorem anyActive_iff_found (s : State) (r : Run) (c : ConditionClass) :
    anyActive s.monitor.table s.stationBlock c (runConditionIds r ++ stationConditionIds) = true ↔ Found s r c := by
  simp only [anyActive_iff, List.mem_append, mem_runConditionIds, mem_stationConditionIds]
  rfl

/-- A run's integrity state by the classes of the active records that count for it. -/
theorem integrity_eq (s : State) (r : Run) [Decidable (Found s r .trip)] [Decidable (Found s r .flag)] :
    s.integrity r = if Found s r .trip then .failed else if Found s r .flag then .degraded else .sound := by
  unfold State.integrity integrityOf
  simp only [anyActive_iff_found]

theorem tripActive_iff (s : State) :
    s.tripActive = true ↔ ∃ i, s.active i = true ∧ conditionClass s.stationBlock i = .trip := by
  unfold State.tripActive
  rw [anyActive_iff]
  exact ⟨fun ⟨i, _, h⟩ => ⟨i, h⟩, fun ⟨i, h⟩ => ⟨i, mem_allConditionIds i, h⟩⟩

/-- Settles O43: the two tests of the state are the stated ones. -/
theorem integrityStates : Obligations.IntegrityStates := by
  classical
  intro s r
  show (s.integrity r = .failed ↔ Found s r .trip) ∧ (s.integrity r = .degraded ↔ ¬Found s r .trip ∧ Found s r .flag) ∧
    (s.integrity r = .sound ↔ ¬Found s r .trip ∧ ¬Found s r .flag)
  rw [integrity_eq]
  by_cases trip : Found s r .trip
  · simp [trip]
  · by_cases flag : Found s r .flag <;> simp [trip, flag]

/-- States with the same records and the same STATION block have the same integrity states. -/
theorem integrity_congr {s t : State} (table : t.monitor.table = s.monitor.table)
    (block : t.stationBlock = s.stationBlock) (r : Run) : t.integrity r = s.integrity r := by
  unfold State.integrity
  rw [table, block]

theorem tripActive_congr {s t : State} (table : t.monitor.table = s.monitor.table)
    (block : t.stationBlock = s.stationBlock) : t.tripActive = s.tripActive := by
  unfold State.tripActive
  rw [table, block]

/-! ### One judgement against its record -/

theorem setCondition_of_agrees {i : ConditionId} {on : Bool} {s : State} (agrees : s.active i = on) :
    setCondition i on s = s := if_pos agrees

/-- The monitor after a judgement against the record: its table alone (R142). -/
theorem setCondition_monitor {i : ConditionId} {on : Bool} {s : State} (differs : s.active i ≠ on) :
    (setCondition i on s).monitor = { s.monitor with
      table := s.monitor.table.set i
        (if on then activated s.clock (s.monitor.table.get i) else deactivated s.clock (s.monitor.table.get i)) } := by
  unfold setCondition
  dsimp only
  rw [if_neg (show ¬(s.monitor.table.get i).active = on from differs), handChanges_monitor]
  rfl

theorem setCondition_withdrawn (i : ConditionId) (on : Bool) (s : State) :
    (setCondition i on s).monitor.withdrawn = s.monitor.withdrawn := by
  by_cases agrees : s.active i = on
  · rw [setCondition_of_agrees agrees]
  · rw [setCondition_monitor agrees]

theorem setCondition_hold (i : ConditionId) (on : Bool) (s : State) :
    (setCondition i on s).monitor.hold = s.monitor.hold := by
  by_cases agrees : s.active i = on
  · rw [setCondition_of_agrees agrees]
  · rw [setCondition_monitor agrees]

theorem setCondition_filter (i : ConditionId) (on : Bool) (s : State) :
    (setCondition i on s).monitor.filter = s.monitor.filter := by
  by_cases agrees : s.active i = on
  · rw [setCondition_of_agrees agrees]
  · rw [setCondition_monitor agrees]

theorem setCondition_seen (i : ConditionId) (on : Bool) (s : State) :
    (setCondition i on s).monitor.seen = s.monitor.seen := by
  by_cases agrees : s.active i = on
  · rw [setCondition_of_agrees agrees]
  · rw [setCondition_monitor agrees]

theorem setCondition_active_same (i : ConditionId) (on : Bool) (s : State) : (setCondition i on s).active i = on := by
  by_cases agrees : s.active i = on
  · rw [setCondition_of_agrees agrees, agrees]
  · unfold State.active
    rw [setCondition_monitor agrees, ConditionTable.get_set_same]
    cases on <;> rfl

theorem setCondition_get_other {i j : ConditionId} (other : j ≠ i) (on : Bool) (s : State) :
    (setCondition i on s).monitor.table.get j = s.monitor.table.get j := by
  by_cases agrees : s.active i = on
  · rw [setCondition_of_agrees agrees]
  · rw [setCondition_monitor agrees, ConditionTable.get_set_other _ _ _ _ other]

theorem setCondition_active_other {i j : ConditionId} (other : j ≠ i) (on : Bool) (s : State) :
    (setCondition i on s).active j = s.active j := congrArg _ (setCondition_get_other other on s)

/-- A judgement off activates nothing. -/
theorem active_of_setCondition_off {i j : ConditionId} {s : State} (active : (setCondition i false s).active j = true) :
    s.active j = true := by
  by_cases other : j = i
  · subst other
    rw [setCondition_active_same] at active
    nomatch active
  · rwa [setCondition_active_other other] at active

/-! ### The permit line -/

theorem readLine_withdrawn (s : State) : (readLine s).monitor.withdrawn = s.monitor.withdrawn := by
  unfold readLine
  dsimp only
  split
  · rw [setCondition_withdrawn]
    rfl
  · rfl

theorem readLine_hold (s : State) : (readLine s).monitor.hold = s.monitor.hold := by
  unfold readLine
  dsimp only
  split
  · rw [setCondition_hold]
    rfl
  · rfl

theorem readLine_get_other {j : ConditionId} (other : j ≠ .station .externalTrip) (s : State) :
    (readLine s).monitor.table.get j = s.monitor.table.get j := by
  unfold readLine
  dsimp only
  split
  · rw [setCondition_get_other other]
    rfl
  · rfl

theorem withMonitor_active (s : State) (m : Monitor) (j : ConditionId) :
    (s.withMonitor m).active j = (m.table.get j).active := rfl

theorem active_of_readLine {j : ConditionId} {s : State} (active : (readLine s).active j = true) :
    s.active j = true := by
  unfold readLine at active
  dsimp only at active
  split at active
  · have was := active_of_setCondition_off active
    rwa [withMonitor_active] at was
  · rwa [withMonitor_active] at active

/-- A part that may release has no TRIP-class condition active and no hold timer running (R149). -/
def MayRelease (s : State) : Prop := s.monitor.withdrawn = true ∧ s.monitor.hold = none ∧ s.tripActive = false

theorem releaseIfFree_of_mayRelease {s : State} (may : MayRelease s) : releaseIfFree s = release s := by
  obtain ⟨withdrawn, hold, trip⟩ := may
  unfold releaseIfFree
  rw [if_pos (by rw [withdrawn, hold, trip]; rfl)]

theorem releaseIfFree_of_not_mayRelease {s : State} (mayNot : ¬MayRelease s) : releaseIfFree s = s := by
  unfold releaseIfFree
  rw [if_neg]
  intro may
  simp only [Bool.and_eq_true, Option.isNone_iff_eq_none, Bool.not_eq_true'] at may
  exact mayNot ⟨may.1.1, may.1.2, may.2⟩

theorem releaseIfFree_hold (s : State) : (releaseIfFree s).monitor.hold = s.monitor.hold := by
  by_cases may : MayRelease s
  · rw [releaseIfFree_of_mayRelease may, release, readLine_hold]
    rfl
  · rw [releaseIfFree_of_not_mayRelease may]

theorem releaseIfFree_get_other {j : ConditionId} (other : j ≠ .station .externalTrip) (s : State) :
    (releaseIfFree s).monitor.table.get j = s.monitor.table.get j := by
  by_cases may : MayRelease s
  · rw [releaseIfFree_of_mayRelease may, release, readLine_get_other other]
    rfl
  · rw [releaseIfFree_of_not_mayRelease may]

theorem active_of_releaseIfFree {j : ConditionId} {s : State} (active : (releaseIfFree s).active j = true) :
    s.active j = true := by
  by_cases may : MayRelease s
  · rw [releaseIfFree_of_mayRelease may, release] at active
    have was := active_of_readLine active
    rwa [withMonitor_active] at was
  · rwa [releaseIfFree_of_not_mayRelease may] at active

/-! ### A judgement, by its direction -/

theorem judge_on {i : ConditionId} {s : State} (inactive : s.active i = false) :
    judge i true s = if conditionClass s.stationBlock i = .trip then withdraw (setCondition i true s)
      else setCondition i true s := by
  unfold judge
  rw [if_neg (by rw [inactive]; nofun)]
  rfl

theorem judge_off {i : ConditionId} {s : State} (active : s.active i = true) :
    judge i false s = releaseIfFree (setCondition i false s) := by
  unfold judge
  rw [if_neg (by rw [active]; nofun)]
  rfl

/-- A judged record is as it was judged (R142). -/
theorem judge_active_same (i : ConditionId) (on : Bool) (s : State) : (judge i on s).active i = on := by
  by_cases agrees : s.active i = on
  · rw [judge_of_agrees i on s agrees, agrees]
  cases on with
  | true =>
    rw [judge_on (by simpa using agrees)]
    split
    · exact setCondition_active_same i true s
    · exact setCondition_active_same i true s
  | false =>
    rw [judge_off (by simpa using agrees), ← Bool.not_eq_true]
    intro active
    have still := active_of_releaseIfFree active
    rw [setCondition_active_same] at still
    nomatch still

/-- A judgement reaches no other record but EXTERNAL_TRIP (R142, R153). -/
theorem judge_get_other {i j : ConditionId} (other : j ≠ i) (notTrip : j ≠ .station .externalTrip) (on : Bool)
    (s : State) : (judge i on s).monitor.table.get j = s.monitor.table.get j := by
  by_cases agrees : s.active i = on
  · rw [judge_of_agrees i on s agrees]
  cases on with
  | true =>
    rw [judge_on (by simpa using agrees)]
    split <;> exact setCondition_get_other other true s
  | false =>
    rw [judge_off (by simpa using agrees), releaseIfFree_get_other notTrip, setCondition_get_other other]

theorem judge_active_other {i j : ConditionId} (other : j ≠ i) (notTrip : j ≠ .station .externalTrip) (on : Bool)
    (s : State) : (judge i on s).active j = s.active j := congrArg _ (judge_get_other other notTrip on s)

/-- A judgement off activates nothing. -/
theorem active_of_judge_off {i j : ConditionId} {s : State} (active : (judge i false s).active j = true) :
    s.active j = true := by
  by_cases was : s.active i = true
  · rw [judge_off was] at active
    exact active_of_setCondition_off (active_of_releaseIfFree active)
  · rwa [judge_of_agrees i false s (by simpa using was)] at active

/-- EXTERNAL_TRIP is activated by its own judgement alone. -/
theorem judge_on_active_other {i j : ConditionId} (other : j ≠ i) (s : State) :
    (judge i true s).active j = s.active j := by
  by_cases was : s.active i = true
  · rw [judge_of_agrees i true s was]
  · rw [judge_on (by simpa using was)]
    split <;> exact setCondition_active_other other true s

end Sys2Proof.Proofs
end

section
/-! What the changes of integrity state do to the marks of the period in progress and to the record holding the prover
(R55, R112), run by run and then for all four; and from it what a judgement hands on. -/

namespace Sys2Proof.Proofs

open Sys2Proof Sys2Proof.Machine Sys2Proof.Safety Sys2Proof.Stated Sys2Proof.Laws

/-! ### One run -/

theorem marked_eq_markRound (x : ProvingRecord) : marked false true x = markRound (fun m => { m with runDegraded := true }) x := by
  obtain ⟨number, request, grade, k, vb, gamma, g, chain, granted, state, timerStart, cause, ended, attempts, accepted,
    rounds, current, result, decision, decided⟩ := x
  cases current <;> simp [marked, markRound]

theorem endRecord_of_record {s : State} {x : ProvingRecord} (held : s.store.record = some x) (st : RecordState)
    (cause : EndCause) : endRecord st cause s = filed st cause x s := by
  unfold endRecord
  rw [held]
  rfl

theorem abortRecord_of_record {s : State} {x : ProvingRecord} (held : s.store.record = some x) (cause : EndCause) :
    abortRecord cause s = filed .aborted cause x s := endRecord_of_record held _ _

theorem abortRecord_of_none {s : State} (free : s.store.record = none) (cause : EndCause) : abortRecord cause s = s := by
  unfold abortRecord endRecord
  rw [free]

theorem abortRecord_monitor (cause : EndCause) (s : State) : (abortRecord cause s).monitor = s.monitor := by
  unfold abortRecord endRecord
  split <;> rfl

theorem abortRecord_totalizer (cause : EndCause) (s : State) : (abortRecord cause s).totalizer = s.totalizer := by
  unfold abortRecord endRecord
  split <;> rfl

theorem proverFollows_monitor (r : Run) (new : Integrity) (s : State) :
    (proverFollows r new s).monitor = s.monitor := by
  unfold proverFollows
  split
  · rfl
  · split
    · split
      · exact abortRecord_monitor _ _
      · rfl
      · rfl
    · rfl

theorem proverFollows_totalizer (r : Run) (new : Integrity) (s : State) :
    (proverFollows r new s).totalizer = s.totalizer := by
  unfold proverFollows
  split
  · rfl
  · split
    · split
      · exact abortRecord_totalizer _ _
      · rfl
      · rfl
    · rfl

theorem proverFollows_of_none {s : State} (free : s.store.record = none) (r : Run) (new : Integrity) :
    proverFollows r new s = s := by
  unfold proverFollows
  rw [free]

theorem proverFollows_of_other {s : State} {x : ProvingRecord} (held : s.store.record = some x) {r : Run}
    (other : x.request.run ≠ r) (new : Integrity) : proverFollows r new s = s := by
  unfold proverFollows
  rw [held]
  exact if_neg other

theorem proverFollows_of_record {s : State} {x : ProvingRecord} (held : s.store.record = some x) (new : Integrity) :
    proverFollows x.request.run new s = match new with
      | .failed => filed .aborted .runFailed x s
      | .degraded => s.setRecord (some (marked false true x))
      | .sound => s := by
  unfold proverFollows
  rw [held]
  dsimp only
  rw [if_pos rfl]
  cases new with
  | failed => exact abortRecord_of_record held _
  | degraded => rw [marked_eq_markRound]
  | sound => rfl

/-- A run whose integrity state has changed and is not SOUND is marked; the rest of its handling is the prover's. -/
theorem handRun_eq (old : PerRun Integrity) (s : State) (r : Run) :
    handRun old s r = if s.integrity r = old.get r then s
      else if s.integrity r = .sound then proverFollows r .sound s
      else proverFollows r (s.integrity r) (markUnsound r s) := by
  unfold handRun
  dsimp only
  split
  · rfl
  · split
    next sound => rw [sound]
    · rfl

theorem handRun_monitor (old : PerRun Integrity) (s : State) (r : Run) : (handRun old s r).monitor = s.monitor := by
  rw [handRun_eq]
  split
  · rfl
  · split
    · exact proverFollows_monitor _ _ _
    · exact proverFollows_monitor _ _ _

theorem handRun_integrity (old : PerRun Integrity) (s : State) (r q : Run) :
    (handRun old s r).integrity q = s.integrity q :=
  integrity_congr (congrArg _ (handRun_monitor old s r)) (judged_handRun old s r).stationBlock q

theorem handRun_unsound (old : PerRun Integrity) (s : State) (r q : Run) :
    (handRun old s r).totalizer.unsound.get q = (s.totalizer.unsound.get q ||
      decide (q = r ∧ s.integrity q ≠ old.get q ∧ s.integrity q ≠ .sound)) := by
  rw [handRun_eq]
  split
  next same => by_cases own : q = r <;> simp_all
  next changed =>
    split
    next sound =>
      rw [proverFollows_totalizer]
      by_cases own : q = r <;> simp_all
    next unsound =>
      rw [proverFollows_totalizer]
      by_cases own : q = r
      · subst own
        simp [markUnsound, changed, unsound]
      · simp [markUnsound, PerRun.get_set_other _ _ _ _ own, own]

/-- The store after a run of the record x has come from an integrity state to another. -/
def followedStore (old new : Integrity) (x : ProvingRecord) (s : State) : Store :=
  if new = old ∨ new = .sound then s.store
  else if new = .failed then (filed .aborted .runFailed x s).store
  else { s.store with record := some (marked false true x) }

theorem handRun_store_of_record (old : PerRun Integrity) {s : State} {x : ProvingRecord}
    (held : s.store.record = some x) :
    (handRun old s x.request.run).store =
      followedStore (old.get x.request.run) (s.integrity x.request.run) x s := by
  rw [handRun_eq]
  unfold followedStore
  split
  next same => rw [if_pos (.inl same)]
  next changed =>
    split
    next sound =>
      rw [if_pos (.inr sound), proverFollows_of_record held]
    next unsound =>
      rw [if_neg (by simp [changed, unsound]), proverFollows_of_record (s := markUnsound _ s) held]
      cases state : s.integrity x.request.run with
      | failed => rfl
      | degraded => rfl
      | sound => exact absurd state unsound

theorem handRun_store_of_none (old : PerRun Integrity) {s : State} (free : s.store.record = none) (r : Run) :
    (handRun old s r).store = s.store := by
  rw [handRun_eq, proverFollows_of_none free, proverFollows_of_none (s := markUnsound r s) free]
  split
  · rfl
  · split <;> rfl

theorem handRun_store_of_other (old : PerRun Integrity) {s : State} {x : ProvingRecord}
    (held : s.store.record = some x) {r : Run} (other : x.request.run ≠ r) : (handRun old s r).store = s.store := by
  rw [handRun_eq, proverFollows_of_other held other, proverFollows_of_other (s := markUnsound r s) held other]
  split
  · rfl
  · split <;> rfl

/-- After a run has been handed on, the record is still of the same run, if there is one. -/
theorem followedStore_record {old new : Integrity} {x y : ProvingRecord} {s : State} (held : s.store.record = some x)
    (after : (followedStore old new x s).record = some y) : y.request.run = x.request.run := by
  unfold followedStore at after
  split at after
  · rw [held] at after
    rw [Option.some.inj after]
  · split at after
    · nomatch after
    · rw [← Option.some.inj after]
      rfl

/-! ### All four runs -/

theorem foldl_handRun_integrity (old : PerRun Integrity) (l : List Run) (s : State) (q : Run) :
    (l.foldl (handRun old) s).integrity q = s.integrity q := by
  induction l generalizing s with
  | nil => rfl
  | cons r rest ih => rw [List.foldl_cons, ih, handRun_integrity]

theorem foldl_handRun_unsound (old : PerRun Integrity) (l : List Run) (s : State) (q : Run) :
    (l.foldl (handRun old) s).totalizer.unsound.get q = (s.totalizer.unsound.get q ||
      decide (q ∈ l ∧ s.integrity q ≠ old.get q ∧ s.integrity q ≠ .sound)) := by
  induction l generalizing s with
  | nil => simp
  | cons r rest ih =>
    rw [List.foldl_cons, ih, handRun_integrity, handRun_unsound, Bool.or_assoc, ← Bool.decide_or]
    congr 1
    exact decide_eq_decide.mpr (by rw [List.mem_cons, or_and_right])

theorem foldl_handRun_store_of_none (old : PerRun Integrity) (l : List Run) {s : State}
    (free : s.store.record = none) : (l.foldl (handRun old) s).store = s.store := by
  induction l generalizing s with
  | nil => rfl
  | cons r rest ih =>
    have same := handRun_store_of_none old free r
    rw [List.foldl_cons, ih (by rw [same]; exact free), same]

theorem foldl_handRun_store_of_other (old : PerRun Integrity) (l : List Run) {s : State} {x : ProvingRecord}
    (held : s.store.record = some x) (other : x.request.run ∉ l) : (l.foldl (handRun old) s).store = s.store := by
  induction l generalizing s with
  | nil => rfl
  | cons r rest ih =>
    rw [List.mem_cons, not_or] at other
    have same := handRun_store_of_other old held other.1
    rw [List.foldl_cons, ih (by rw [same]; exact held) other.2, same]

/-- The store that one run's handling leaves depends on the store, the clock and the integrity states alone. -/
theorem followedStore_congr {s t : State} (store : t.store = s.store) (clock : t.clock = s.clock) (old new : Integrity)
    (x : ProvingRecord) : followedStore old new x t = followedStore old new x s := by
  unfold followedStore filed
  simp only [State.withStore_store, store, clock]

theorem foldl_handRun_store_of_record (old : PerRun Integrity) (l : List Run) (distinct : l.Nodup) {s : State}
    {x : ProvingRecord} (held : s.store.record = some x) (own : x.request.run ∈ l) :
    (l.foldl (handRun old) s).store = followedStore (old.get x.request.run) (s.integrity x.request.run) x s := by
  induction l generalizing s with
  | nil => nomatch own
  | cons r rest ih =>
    obtain ⟨notAgain, distinctRest⟩ := List.nodup_cons.mp distinct
    rw [List.foldl_cons]
    by_cases here : x.request.run = r
    · subst here
      have store := handRun_store_of_record old held
      rw [← store]
      rcases record : (handRun old s x.request.run).store.record with _ | y
      · exact foldl_handRun_store_of_none old rest record
      · have run : y.request.run = x.request.run := followedStore_record held (store ▸ record)
        exact foldl_handRun_store_of_other old rest record (run ▸ notAgain)
    · have same := handRun_store_of_other old held here
      rw [ih distinctRest (by rw [same]; exact held) ((List.mem_cons.mp own).resolve_left here), handRun_integrity]
      exact followedStore_congr same (judged_handRun old s r).clock _ _ x

theorem handChanges_integrity (old : PerRun Integrity) (s : State) (q : Run) :
    (handChanges old s).integrity q = s.integrity q := foldl_handRun_integrity old allRuns s q

theorem handChanges_unsound (old : PerRun Integrity) (s : State) (q : Run) :
    (handChanges old s).totalizer.unsound.get q = (s.totalizer.unsound.get q ||
      decide (s.integrity q ≠ old.get q ∧ s.integrity q ≠ .sound)) := by
  unfold handChanges
  rw [foldl_handRun_unsound]
  simp only [mem_allRuns, true_and]

theorem handChanges_store_of_none (old : PerRun Integrity) {s : State} (free : s.store.record = none) :
    (handChanges old s).store = s.store := foldl_handRun_store_of_none old allRuns free

theorem handChanges_store_of_record (old : PerRun Integrity) {s : State} {x : ProvingRecord}
    (held : s.store.record = some x) :
    (handChanges old s).store = followedStore (old.get x.request.run) (s.integrity x.request.run) x s :=
  foldl_handRun_store_of_record old allRuns (by decide) held (mem_allRuns _)

/-! ### A judgement -/

theorem Followed.refl (s : State) : Followed s s := by
  refine ⟨fun r => by simp, ?_⟩
  split
  · rfl
  · simp

theorem followed_setCondition (i : ConditionId) (on : Bool) (s : State) : Followed s (setCondition i on s) := by
  by_cases agrees : s.active i = on
  · rw [setCondition_of_agrees agrees]
    exact Followed.refl s
  unfold setCondition
  dsimp only
  rw [if_neg (show ¬(s.monitor.table.get i).active = on from agrees)]
  generalize judgedState : (s.withMonitor _) = u
  have store : u.store = s.store := by rw [← judgedState]; rfl
  have clock : u.clock = s.clock := by rw [← judgedState]; rfl
  have totalizer : u.totalizer = s.totalizer := by rw [← judgedState]; rfl
  refine ⟨fun r => ?_, ?_⟩
  · rw [handChanges_unsound, handChanges_integrity, totalizer]
    simp only [State.integrities, PerRun.get_tab]
  · split
    next free => rw [handChanges_store_of_none _ (store ▸ free), store]
    next x held =>
      rw [handChanges_store_of_record _ (store ▸ held), handChanges_integrity, followedStore_congr store clock]
      simp only [State.integrities, PerRun.get_tab]
      unfold followedStore
      split
      · rfl
      · split <;> rfl

end Sys2Proof.Proofs
end

section
/-! The invariants that judgements cannot touch: link, pulse tallies, residues, curves, tickets and batches. Each is kept by
every change of a block at work, by every change of a boundary, and by the changes of the part as a whole. -/

namespace Sys2Proof.Proofs

open Sys2Proof Sys2Proof.Machine Sys2Proof.Safety Sys2Proof.Stated Sys2Proof.Laws

/-! ### From the changes to every step -/

/-- An invariant that the changes keep is kept by a boundary. -/
theorem keeps_boundary {inv : State → Prop} (keeps : ∀ s t, Move s t → inv s → inv t) (closing : Bool) (pe : Nat)
    (order : BoundaryOrder) {s : State} (holds : inv s) : inv (boundary closing pe order s) :=
  keeps_of_chain keeps (moves_boundary closing pe order s) holds

theorem judged_holdEnded (s : State) : Judged s (releaseIfFree (s.withMonitor { s.monitor with hold := none })) :=
  (judged_withMonitor s _).trans (judged_releaseIfFree _)

theorem judged_applyClasses (oldBlock : StationBlock) (old : PerRun Integrity) (s : State) :
    Judged s (applyClasses oldBlock old s) := by
  unfold applyClasses
  dsimp only
  split
  · exact (judged_handChanges old s).trans (judged_withdraw _)
  · exact (judged_handChanges old s).trans (judged_releaseIfFree _)

/-! ### What the composite changes reach -/

theorem closeBatch_frame (cause : CloseCause) (s : State) :
    closeBatch cause s = s.withStore { s.store with
      active := (closeBatch cause s).store.active, ticketCounter := (closeBatch cause s).store.ticketCounter,
      slots := (closeBatch cause s).store.slots, held := (closeBatch cause s).store.held } := by
  unfold closeBatch
  split
  · rfl
  · dsimp only
    split <;> rfl

theorem startBatch_frame (s : State) :
    startBatch s = s.withStore { s.store with
      queue := (startBatch s).store.queue, active := (startBatch s).store.active } := by
  unfold startBatch
  split <;> rfl

theorem releaseOldest_frame (s : State) :
    releaseOldest s = s.withStore { s.store with
      slots := (releaseOldest s).store.slots, held := (releaseOldest s).store.held } := by
  unfold releaseOldest
  split
  · rfl
  · split <;> rfl

theorem applyCurve_frame (s : State) (r : Run) :
    applyCurve s r = s.withStore { s.store with
      curves := (applyCurve s r).store.curves, pendingCurves := (applyCurve s r).store.pendingCurves } := by
  unfold applyCurve
  split <;> rfl

/-- What a commit, a stored code or a block applied reaches: the blocks and their codes. -/
def BlocksMoved (s t : State) : Prop :=
  t = s.withStore { s.store with
    station := t.store.station, prover := t.store.prover, points := t.store.points, runBlocks := t.store.runBlocks,
    gradesCode := t.store.gradesCode }

theorem setStoredCode_frame (b : BlockId) (c : Code) (s : State) : BlocksMoved s (setStoredCode b c s) := by
  cases b <;> rfl

theorem creditRun_frame (figs : PerRun LastPeriod) (s : State) (r : Run) :
    creditRun figs s r = (((s.withStore { s.store with
      runs := s.store.runs.set r ((creditRun figs s r).store.runs.get r),
      active := (creditRun figs s r).store.active }).withPulse
        { s.pulse with runs := s.pulse.runs.set r (zeroCounts (s.runPulse r)) }).withTotalizer
      { s.totalizer with last := s.totalizer.last.set r (some (figs.get r)) }) := by
  unfold creditRun
  dsimp only
  split <;> cases r <;> rfl

theorem setDetector_frame (d : Detector) (x : DetectorState) (s : State) :
    s.setDetector d x = s.withPulse { s.pulse with
      d1 := (s.setDetector d x).pulse.d1, d2 := (s.setDetector d x).pulse.d2 } := by
  cases d <;> rfl

/-! ### The link -/

theorem linkInv_of_samePart {s t : State} (same : SamePart s t) (holds : LinkInv s) : LinkInv t := by
  unfold LinkInv at *
  rwa [same.running, same.receiver, same.reply]

theorem linkInv_kept : Kept LinkInv := by
  refine kept_of_stages (fun _ _ holds => holds) fun s t stage holds => ?_
  cases stage with
  | act act => exact linkInv_of_samePart act.samePart holds
  | boundary closing pe order => exact linkInv_of_samePart (moves_boundary closing pe order s).samePart holds
  | time | lines | backupLost => exact holds
  | supply x same =>
    intro running
    exact holds (by unfold State.running at *; rwa [← same])
  | link x keeps => exact fun running => keeps (holds running)
  | warm | cold => exact fun _ => ⟨nofun, nofun⟩
  | halted | unpowered => exact nofun

/-! ### The pulse tallies -/

theorem pulseInv_iff (s : State) : PulseInv s ↔ ∀ r, TalliesOk (s.runPulse r) := Iff.rfl

theorem pulseInv_setRunPulse {s : State} (holds : PulseInv s) {r : Run} {p : RunPulse} (ok : TalliesOk p) :
    PulseInv (s.setRunPulse r p) := fun q => by
  by_cases own : q = r
  · subst own
    simpa [State.setRunPulse, State.runPulse, TalliesOk] using ok
  · simpa [State.setRunPulse, State.runPulse, PerRun.get_set_other _ _ _ _ own] using holds q

theorem pulseInv_of_judged {s t : State} (judged : Judged s t) (holds : PulseInv s) : PulseInv t := fun r => by
  unfold State.runPulse
  rw [judged.pulse]
  exact holds r

theorem Act.pulseInv {s t : State} (act : Act s t) (holds : PulseInv s) : PulseInv t := by
  cases act with
  | judged i on => exact pulseInv_of_judged (judged_judge i on s) holds
  | lineRead => exact pulseInv_of_judged (judged_readLine s) holds
  | holdEnded => exact pulseInv_of_judged (judged_holdEnded s) holds
  | acknowledged d => exact pulseInv_of_judged (s := addAudit none d s) (judged_judge _ _ _) holds
  | pulsed r p keeps => exact pulseInv_setRunPulse holds (keeps (holds r))
  | detected d x => rw [setDetector_frame]; exact holds
  | credited figs r => rw [creditRun_frame]; exact pulseInv_setRunPulse holds (holds r)
  | closed cause => rw [closeBatch_frame]; exact holds
  | begun => rw [startBatch_frame]; exact holds
  | ticketReleased => rw [releaseOldest_frame]; exact holds
  | curveApplied r => rw [applyCurve_frame]; exact holds
  | coded b c => rw [setStoredCode_frame b c s]; exact holds
  | _ => exact holds

theorem Move.pulseInv {s t : State} (move : Move s t) (holds : PulseInv s) : PulseInv t := by
  cases move with
  | act act => exact act.pulseInv holds
  | stationApplied work pending => exact pulseInv_of_judged (judged_applyClasses _ _ _) holds
  | _ => exact holds

theorem pulseInv_kept : Kept PulseInv := by
  refine kept_of_stages (fun _ _ holds => holds) fun s t stage holds => ?_
  cases stage with
  | act act => exact act.pulseInv holds
  | boundary => exact keeps_boundary (fun _ _ => Move.pulseInv) _ _ _ holds
  | warm | cold =>
    intro r
    simp [State.runPulse, freshState, freshPulse, freshRunPulse, freshChannel]
  | halted =>
    intro r
    have was := holds r
    simpa [State.runPulse, halt, haltPulse, abandonChannel] using was
  | _ => exact holds

/-- Settles O60. -/
theorem linkAndTalliesKept : Obligations.LinkAndTalliesKept := ⟨linkInv_kept, pulseInv_kept⟩

/-! ### Residues -/

/-- A run's residues, each at least zero and less than one unit (R53). -/
def FractionsOk (x : Residues) : Prop := fraction x.iv ∧ fraction x.gsv ∧ fraction x.nsv ∧ fraction x.mass

theorem residueInv_set {s : State} (holds : ResidueInv s) {r : Run} {x : RunTotals} (ok : FractionsOk x.residues) :
    ResidueInv (s.setRunTotals r x) := fun q => by
  show FractionsOk ((s.store.runs.set r x).get q).residues
  by_cases own : q = r
  · subst own
    simpa using ok
  · rw [PerRun.get_set_other _ _ _ _ own]
    exact holds q

theorem residueInv_of_judged {s t : State} (judged : Judged s t) (holds : ResidueInv s) : ResidueInv t := fun r => by
  rw [judged.runs]
  exact holds r

theorem creditRun_residues (figs : PerRun LastPeriod) (s : State) (r : Run) :
    ((creditRun figs s r).store.runs.get r).residues =
      (splitResidues (s.store.runs.get r).residues (figs.get r)).2 := by
  unfold creditRun
  dsimp only
  split <;> cases r <;> rfl

/-- A split leaves what is less than a unit (R53). -/
theorem fractionsOk_splitResidues (x : Residues) (f : LastPeriod) : FractionsOk (splitResidues x f).2 := by
  have rest : ∀ q : Rat, fraction (q - (q.floor : Rat)) := fun q => by
    have below := Rat.floor_le q
    have above := Rat.lt_floor_add_one q
    rw [Rat.intCast_add, Rat.intCast_one] at above
    exact ⟨(Rat.le_iff_sub_nonneg _ _).mp below, Rat.sub_lt_iff.mpr (by rw [Rat.add_comm]; exact above)⟩
  exact ⟨rest _, rest _, rest _, rest _⟩

/-- A warm start reaches the record, the history and the active batch of the store (R83, R125). -/
theorem warmStore_frame (now : Nat) (st : Store) :
    warmStore now st = { st with
      record := none, history := (warmStore now st).history, active := st.active.map (chargeOutage now st.lastBoundary) } := by
  unfold warmStore fileRecord
  cases held : st.record with
  | none => dsimp only; rw [← held]
  | some r => rfl

theorem Act.residueInv {s t : State} (act : Act s t) (holds : ResidueInv s) : ResidueInv t := by
  cases act with
  | judged i on => exact residueInv_of_judged (judged_judge i on s) holds
  | lineRead => exact residueInv_of_judged (judged_readLine s) holds
  | holdEnded => exact residueInv_of_judged (judged_holdEnded s) holds
  | acknowledged d => exact residueInv_of_judged (s := addAudit none d s) (judged_judge _ _ _) holds
  | serviceSet r x same => exact residueInv_set holds (by rw [same]; exact holds r)
  | credited figs r =>
    rw [creditRun_frame]
    exact residueInv_set holds (by rw [creditRun_residues]; exact fractionsOk_splitResidues _ _)
  | detected d x => rw [setDetector_frame]; exact holds
  | closed cause => rw [closeBatch_frame]; exact holds
  | begun => rw [startBatch_frame]; exact holds
  | ticketReleased => rw [releaseOldest_frame]; exact holds
  | curveApplied r => rw [applyCurve_frame]; exact holds
  | coded b c => rw [setStoredCode_frame b c s]; exact holds
  | _ => exact holds

theorem Move.residueInv {s t : State} (move : Move s t) (holds : ResidueInv s) : ResidueInv t := by
  cases move with
  | act act => exact act.residueInv holds
  | stationApplied work pending => exact residueInv_of_judged (judged_applyClasses _ _ _) holds
  | _ => exact holds

theorem fraction_zero : fraction 0 := ⟨Rat.le_refl, by decide⟩

/-- Settles O59. -/
theorem residuesKept : Obligations.ResiduesKept := by
  refine kept_of_stages (fun _ _ holds => holds) fun s t stage holds => ?_
  cases stage with
  | act act => exact act.residueInv holds
  | boundary => exact keeps_boundary (fun _ _ => Move.residueInv) _ _ _ holds
  | warm => rw [warmStore_frame]; exact holds
  | cold =>
    intro r
    cases r <;> exact ⟨fraction_zero, fraction_zero, fraction_zero, fraction_zero⟩
  | _ => exact holds

/-! ### Curves and results -/

/-- What the invariant asks of one run's curves and result. -/
def CurvesOk (s : State) (r : Run) : Prop :=
  curveForm (s.store.curves.get r) = true ∧
  (∀ c, s.store.pendingCurves.get r = some c → curveForm c = true) ∧
  (∀ x res, s.store.results.get r = some x → x.result = some res → 8000 ≤ res.mf ∧ res.mf ≤ 12000)

theorem curveInv_of_judged {s t : State} (judged : Judged s t) (holds : CurveInv s) : CurveInv t := fun r => by
  rw [judged.curves, judged.pendingCurves, judged.results]
  exact holds r

/-- A change that reaches one run's curves and result alone. -/
theorem curveInv_of_one {s t : State} (r : Run) (holds : CurveInv s) (own : CurvesOk t r)
    (others : ∀ q, q ≠ r → t.store.curves.get q = s.store.curves.get q ∧
      t.store.pendingCurves.get q = s.store.pendingCurves.get q ∧ t.store.results.get q = s.store.results.get q) :
    CurveInv t := fun q => by
  by_cases same : q = r
  · exact same ▸ own
  · obtain ⟨curves, pendings, results⟩ := others q same
    rw [curves, pendings, results]
    exact holds q

theorem curveInv_setResult {s : State} (holds : CurveInv s) {r : Run} {st : Store} {x : Option ProvingRecord}
    (curves : st.curves = s.store.curves) (pendings : st.pendingCurves = s.store.pendingCurves)
    (results : st.results = s.store.results.set r x)
    (range : ∀ y res, x = some y → y.result = some res → 8000 ≤ res.mf ∧ res.mf ≤ 12000) :
    CurveInv (s.withStore st) := by
  obtain ⟨form, pendingForm, -⟩ := holds r
  refine curveInv_of_one r holds ⟨?_, ?_, ?_⟩ fun q other => ⟨?_, ?_, ?_⟩
  · simpa [curves] using form
  · simpa [pendings] using pendingForm
  · simpa [results] using range
  · simp [curves]
  · simp [pendings]
  · simp [results, PerRun.get_set_other _ _ _ _ other]

theorem curveInv_offered {s : State} (holds : CurveInv s) (r : Run) {c : List CurvePoint} (form : curveForm c = true) :
    CurveInv (s.withStore { s.store with pendingCurves := s.store.pendingCurves.set r (some c) }) := by
  obtain ⟨current, -, range⟩ := holds r
  refine curveInv_of_one r holds ⟨current, ?_, range⟩ fun q other => ⟨rfl, ?_, rfl⟩
  · simpa using form
  · simp [PerRun.get_set_other _ _ _ _ other]

theorem curveInv_applyCurve {s : State} (holds : CurveInv s) (r : Run) : CurveInv (applyCurve s r) := by
  obtain ⟨current, pendingForm, range⟩ := holds r
  unfold applyCurve
  split
  · exact holds
  next c pending =>
    refine curveInv_of_one r holds ⟨?_, ?_, range⟩ fun q other => ⟨?_, ?_, rfl⟩
    · simpa using pendingForm c pending
    · simp
    · simp [PerRun.get_set_other _ _ _ _ other]
    · simp [PerRun.get_set_other _ _ _ _ other]

theorem curveInv_decideResult {s : State} (holds : CurveInv s) (r : Run) (x : ProvingRecord) (d : Decision) :
    CurveInv (decideResult r x d s) := by
  have range : ∀ (y : ProvingRecord) (res : ProvingResult), (none : Option ProvingRecord) = some y →
        y.result = some res → 8000 ≤ res.mf ∧ res.mf ≤ 12000 := by intro y res no; cases no
  unfold decideResult
  refine curveInv_setResult (r := r) (x := none) holds ?_ ?_ ?_ range
  · rfl
  · rfl
  · rfl

theorem Act.curveInv {s t : State} (act : Act s t) (holds : CurveInv s) : CurveInv t := by
  cases act with
  | judged i on => exact curveInv_of_judged (judged_judge i on s) holds
  | lineRead => exact curveInv_of_judged (judged_readLine s) holds
  | holdEnded => exact curveInv_of_judged (judged_holdEnded s) holds
  | acknowledged d => exact curveInv_of_judged (s := addAudit none d s) (judged_judge _ _ _) holds
  | completed held result range =>
    refine curveInv_setResult holds rfl rfl rfl fun y res some_ own => ?_
    cases some_
    rw [result] at own
    exact Option.some.inj own ▸ range
  | decided r x d => exact curveInv_decideResult holds r x d
  | curveOffered r c form => exact curveInv_offered holds r (form holds)
  | curveApplied r => exact curveInv_applyCurve holds r
  | detected d x => rw [setDetector_frame]; exact holds
  | credited figs r => rw [creditRun_frame]; exact holds
  | closed cause => rw [closeBatch_frame]; exact holds
  | begun => rw [startBatch_frame]; exact holds
  | ticketReleased => rw [releaseOldest_frame]; exact holds
  | coded b c => rw [setStoredCode_frame b c s]; exact holds
  | _ => exact holds

theorem Move.curveInv {s t : State} (move : Move s t) (holds : CurveInv s) : CurveInv t := by
  cases move with
  | act act => exact act.curveInv holds
  | stationApplied work pending => exact curveInv_of_judged (judged_applyClasses _ _ _) holds
  | _ => exact holds

/-- Settles O55. -/
theorem curvesKept : Obligations.CurvesKept := by
  refine kept_of_stages (fun _ _ holds => holds) fun s t stage holds => ?_
  cases stage with
  | act act => exact act.curveInv holds
  | boundary => exact keeps_boundary (fun _ _ => Move.curveInv) _ _ _ holds
  | warm => rw [warmStore_frame]; exact holds
  | cold =>
    intro r
    have empty : curveForm [] = true := by decide
    simp [freshState, factoryStore, empty]
  | _ => exact holds

/-! ### Tickets -/

/-- Tickets numbered consecutively up to a counter (R85, R86). -/
def Numbered (l : List Ticket) (next : Nat) : Prop :=
  ∀ (i : Nat) (t : Ticket), l[i]? = some t → t.number + (l.length - i) = next

theorem numbered_append {l : List Ticket} {next : Nat} (numbered : Numbered l next) {t : Ticket} (own : t.number = next) :
    Numbered (l ++ [t]) (next + 1) := fun i x found => by
  rcases Nat.lt_trichotomy i l.length with inside | last | beyond
  · have was := numbered i x (by rwa [List.getElem?_append_left inside] at found)
    simp only [List.length_append, List.length_singleton]
    omega
  · subst last
    simp only [List.getElem?_concat_length, Option.some.injEq] at found
    simp only [List.length_append, List.length_singleton, ← found, own]
    omega
  · have length := (List.getElem?_eq_some_iff.mp found).1
    simp only [List.length_append, List.length_singleton] at length
    omega

theorem numbered_tail {t : Ticket} {l : List Ticket} {next : Nat} (numbered : Numbered (t :: l) next) :
    Numbered l next := fun i x found => by
  have was := numbered (i + 1) x (by simpa using found)
  simpa using was

theorem ticketInv_of_judged {s t : State} (judged : Judged s t) (holds : TicketInv s) : TicketInv t := by
  unfold TicketInv tickets at *
  rwa [judged.slots, judged.held, judged.ticketCounter, judged.change]

theorem ticketInv_closeBatch {s : State} (holds : TicketInv s) (free : s.store.held = none) (cause : CloseCause) :
    TicketInv (closeBatch cause (s.withChange .none)) := by
  obtain ⟨room, full, numbered, -⟩ := holds
  unfold closeBatch
  split
  · exact ⟨room, full, numbered, nofun⟩
  next b _ =>
    have all : Numbered (s.store.slots ++ [formTicket s.store.ticketCounter s.clock cause
        (fun r => (s.store.runs.get r).cumulative) b]) (s.store.ticketCounter + 1) := by
      refine numbered_append ?_ rfl
      simpa [Numbered, tickets, free] using numbered
    dsimp only
    split
    next below =>
      refine ⟨?_, ?_, ?_, nofun⟩
      · show (s.store.slots ++ [_]).length ≤ 12
        rw [List.length_append]
        exact Nat.succ_le_of_lt below
      · simp [free]
      · simpa [Numbered, tickets, free] using all
    next notBelow =>
      have notLess : ¬s.store.slots.length < 12 := notBelow
      exact ⟨room, fun _ => show s.store.slots.length = 12 by omega, all, nofun⟩

theorem ticketInv_releaseOldest {s : State} (holds : TicketInv s) : TicketInv (releaseOldest s) := by
  obtain ⟨room, full, numbered, free⟩ := holds
  unfold releaseOldest
  split
  · exact ⟨room, full, numbered, free⟩
  next oldest rest slots =>
    have later : Numbered (rest ++ s.store.held.toList) s.store.ticketCounter := by
      refine numbered_tail (t := oldest) ?_
      simpa [Numbered, tickets, slots] using numbered
    rw [slots] at room
    split
    next h held =>
      refine ⟨by simpa using room, nofun, ?_, fun _ => rfl⟩
      simpa [Numbered, tickets, held] using later
    next none_ =>
      refine ⟨?_, ?_, ?_, fun _ => none_⟩
      · exact Nat.le_trans (Nat.le_succ _) room
      · simp [none_]
      · simpa [Numbered, tickets] using later

theorem Act.ticketInv {s t : State} (act : Act s t) (holds : TicketInv s) : TicketInv t := by
  obtain ⟨room, full, numbered, reserved⟩ := holds
  have holds : TicketInv s := ⟨room, full, numbered, reserved⟩
  cases act with
  | judged i on => exact ticketInv_of_judged (judged_judge i on s) holds
  | lineRead => exact ticketInv_of_judged (judged_readLine s) holds
  | holdEnded => exact ticketInv_of_judged (judged_holdEnded s) holds
  | acknowledged d => exact ticketInv_of_judged (s := addAudit none d s) (judged_judge _ _ _) holds
  | startAsked => exact ⟨room, full, numbered, nofun⟩
  | endAsked batch free => exact ⟨room, full, numbered, fun _ => free⟩
  | cutoverAsked batch head free => exact ⟨room, full, numbered, fun _ => free⟩
  | closed cause mayClose =>
    have free : s.store.held = none := by
      rcases mayClose with ends | cutover | free
      · exact reserved (.inl ends)
      · exact reserved (.inr cutover)
      · exact free
    exact ticketInv_closeBatch holds free cause
  | begun => rw [startBatch_frame]; exact ⟨room, full, numbered, nofun⟩
  | ticketReleased => exact ticketInv_releaseOldest holds
  | detected d x => rw [setDetector_frame]; exact holds
  | credited figs r => rw [creditRun_frame]; exact holds
  | curveApplied r => rw [applyCurve_frame]; exact holds
  | coded b c => rw [setStoredCode_frame b c s]; exact holds
  | _ => exact holds

theorem Move.ticketInv {s t : State} (move : Move s t) (holds : TicketInv s) : TicketInv t := by
  cases move with
  | act act => exact act.ticketInv holds
  | stationApplied work pending => exact ticketInv_of_judged (judged_applyClasses _ _ _) holds
  | _ => exact holds

/-- Settles O53. -/
theorem ticketStoreKept : Obligations.TicketStoreKept := by
  refine kept_of_stages (fun _ _ holds => holds) fun s t stage holds => ?_
  cases stage with
  | act act => exact act.ticketInv holds
  | boundary => exact keeps_boundary (fun _ _ => Move.ticketInv) _ _ _ holds
  | warm =>
    obtain ⟨room, full, numbered, -⟩ := holds
    rw [warmStore_frame]
    exact ⟨room, full, numbered, nofun⟩
  | cold => exact ⟨Nat.zero_le _, nofun, by simp [tickets, freshState, factoryStore], nofun⟩
  | _ => exact holds

end Sys2Proof.Proofs
end

section
/-! The invariants of the batch queue and of the audit trail. -/

namespace Sys2Proof.Proofs

open Sys2Proof Sys2Proof.Machine Sys2Proof.Safety Sys2Proof.Stated Sys2Proof.Laws

/-! ### Batches -/

theorem batchInv_of_judged {s t : State} (judged : Judged s t) (holds : BatchInv s) : BatchInv t := by
  unfold BatchInv batchIds at *
  rwa [judged.queue, judged.active, judged.change]

/-- A change of the queue, the active batch and the pending change with the ids kept apart. -/
theorem batchInv_of_same {s t : State} (queue : t.store.queue = s.store.queue)
    (active : t.store.active.map (·.entry) = s.store.active.map (·.entry)) (change : t.change = s.change)
    (holds : BatchInv s) : BatchInv t := by
  have ids : batchIds t = batchIds s := by
    have entries := congrArg (fun o => (Option.toList o).map (·.id)) active
    simp only [Option.toList_map, List.map_map] at entries
    unfold batchIds
    rw [queue]
    exact congrArg (· ++ _) entries
  have none_ : t.store.active = none ↔ s.store.active = none := by
    rw [← Option.map_eq_none_iff (f := (·.entry)), active, Option.map_eq_none_iff]
  unfold BatchInv
  rw [ids, queue, change]
  simp only [ne_eq, none_]
  exact holds

theorem batchIds_of_none {s : State} (noBatch : s.store.active = none) :
    batchIds s = s.store.queue.map (·.id) := by
  unfold batchIds
  rw [noBatch]
  rfl

/-- An id of the active batch or of the queue. -/
theorem mem_batchIds {s : State} {id : Nat} :
    id ∈ batchIds s ↔ s.activeId id = true ∨ s.queuedId id = true := by
  unfold batchIds State.activeId State.queuedId
  cases s.store.active with
  | none => simp
  | some b => simp [eq_comm (a := id) (b := b.entry.id)]

theorem batchInv_scheduled {s : State} (holds : BatchInv s) {e : BatchEntry} (room : s.store.queue.length < 8)
    (notActive : s.activeId e.id = false) (notQueued : s.queuedId e.id = false) :
    BatchInv (s.withStore { s.store with queue := s.store.queue ++ [e] }) := by
  obtain ⟨-, distinct, -, free, batch⟩ := holds
  refine ⟨?_, ?_, fun _ => ?_, free, batch⟩
  · show (s.store.queue ++ [e]).length ≤ 8
    rw [List.length_append]
    exact Nat.succ_le_of_lt room
  · have new : e.id ∉ batchIds s := by simp [mem_batchIds, notActive, notQueued]
    have ids : batchIds (s.withStore { s.store with queue := s.store.queue ++ [e] }) = batchIds s ++ [e.id] := by
      simp [batchIds]
    rw [ids, List.nodup_append]
    refine ⟨distinct, List.pairwise_singleton _ _, fun id mem id' own same => new ?_⟩
    rw [← List.mem_singleton.mp own, ← same]
    exact mem
  · simp

theorem batchInv_deleted {s : State} (holds : BatchInv s) {id : Nat} (notReserved : s.reservedHead ≠ some id) :
    BatchInv (s.withStore { s.store with queue := s.store.queue.filter fun e => decide (e.id ≠ id) }) := by
  obtain ⟨room, distinct, head, free, batch⟩ := holds
  refine ⟨Nat.le_trans (List.length_filter_le _ _) room, ?_, fun reserves => ?_, free, batch⟩
  · exact distinct.sublist ((List.Sublist.refl _).append (List.filter_sublist.map _))
  · obtain ⟨e, rest, queue⟩ := List.exists_cons_of_ne_nil (head reserves)
    have stays : e.id ≠ id := fun own => notReserved (by
      unfold State.reservedHead
      rw [if_pos (show s.change = .start ∨ s.change = .cutover from reserves), queue, ← own]
      rfl)
    simp [queue, stays]

theorem batchInv_closeBatch {s : State} (holds : BatchInv s) (cause : CloseCause) :
    BatchInv (closeBatch cause (s.withChange .none)) := by
  obtain ⟨room, distinct, -, -, -⟩ := holds
  have noBatch := closeBatch_active cause (s.withChange .none)
  have queue : (closeBatch cause (s.withChange .none)).store.queue = s.store.queue := by rw [closeBatch_frame]; rfl
  have change : (closeBatch cause (s.withChange .none)).change = .none := by rw [closeBatch_change]; rfl
  refine ⟨by rwa [queue], ?_, ?_, ?_, ?_⟩
  · rw [batchIds_of_none noBatch, queue]
    exact distinct.sublist (List.sublist_append_right _ _)
  all_goals rw [change]; nofun

theorem batchInv_startBatch {s : State} (holds : BatchInv s) (noBatch : s.change = .start ∨ s.store.active = none) :
    BatchInv (startBatch (s.withChange .none)) := by
  obtain ⟨room, distinct, -, start, -⟩ := holds
  have noBatch : s.store.active = none := noBatch.elim start id
  rw [batchIds_of_none noBatch] at distinct
  unfold startBatch
  split
  next queue => exact ⟨room, by rwa [batchIds_of_none (by exact noBatch)], nofun, nofun, nofun⟩
  next e rest queue =>
    have queue : s.store.queue = e :: rest := queue
    rw [queue] at room distinct
    exact ⟨Nat.le_trans (Nat.le_succ _) room, distinct, nofun, nofun, nofun⟩

theorem Act.batchInv {s t : State} (act : Act s t) (holds : BatchInv s) : BatchInv t := by
  have parts := holds
  obtain ⟨room, distinct, head, free, batch⟩ := parts
  cases act with
  | judged i on => exact batchInv_of_judged (judged_judge i on s) holds
  | lineRead => exact batchInv_of_judged (judged_readLine s) holds
  | holdEnded => exact batchInv_of_judged (judged_holdEnded s) holds
  | acknowledged d => exact batchInv_of_judged (s := addAudit none d s) (judged_judge _ _ _) holds
  | scheduled e room notActive notQueued => exact batchInv_scheduled holds room notActive notQueued
  | deleted id notReserved => exact batchInv_deleted holds notReserved
  | startAsked noBatch head => exact ⟨room, distinct, fun _ => head, fun _ => noBatch, nofun⟩
  | endAsked batch => exact ⟨room, distinct, nofun, nofun, fun _ => batch⟩
  | cutoverAsked batch head => exact ⟨room, distinct, fun _ => head, nofun, fun _ => batch⟩
  | batchMoved active same =>
    refine batchInv_of_same (s := s) (by rfl) ?_ (by rfl) holds
    rw [active]
    exact congrArg some same
  | closed cause => exact batchInv_closeBatch holds cause
  | begun noBatch => exact batchInv_startBatch holds noBatch
  | credited figs r =>
    refine batchInv_of_same (s := s) (by rw [creditRun_frame]; rfl) ?_ (by rw [creditRun_frame]; rfl) holds
    unfold creditRun
    dsimp only
    split
    next active => rw [active]; rfl
    next none_ => rfl
  | ticketReleased => rw [releaseOldest_frame]; exact holds
  | curveApplied r => rw [applyCurve_frame]; exact holds
  | coded b c => rw [setStoredCode_frame b c s]; exact holds
  | detected d x => rw [setDetector_frame]; exact holds
  | _ => exact holds

theorem Move.batchInv {s t : State} (move : Move s t) (holds : BatchInv s) : BatchInv t := by
  cases move with
  | act act => exact act.batchInv holds
  | stationApplied work pending => exact batchInv_of_judged (judged_applyClasses _ _ _) holds
  | _ => exact holds

/-- Settles O54. -/
theorem batchQueueKept : Obligations.BatchQueueKept := by
  refine kept_of_stages (fun _ _ holds => holds) fun s t stage holds => ?_
  cases stage with
  | act act => exact act.batchInv holds
  | boundary => exact keeps_boundary (fun _ _ => Move.batchInv) _ _ _ holds
  | warm =>
    have asked : BatchInv (s.withChange .none) := by
      obtain ⟨room, distinct, -⟩ := holds
      exact ⟨room, distinct, nofun, nofun, nofun⟩
    refine batchInv_of_same (s := s.withChange .none) ?_ ?_ (by rfl) asked
    · rw [warmStore_frame]
      rfl
    · rw [warmStore_frame]
      exact (Option.map_map _ _ _).trans (by rfl)
  | cold => exact ⟨Nat.zero_le _, List.nodup_nil, nofun, nofun, nofun⟩
  | _ => exact holds

/-! ### The audit trail -/

/-- Entries numbered consecutively up to a counter, modulo 2³² (R167). -/
def AuditNumbered (l : List AuditEntry) (next : BitVec 32) : Prop :=
  ∀ (i : Nat) (e : AuditEntry), l[i]? = some e → e.seq = next - BitVec.ofNat 32 (l.length - i)

theorem auditNumbered_append {l : List AuditEntry} {next : BitVec 32} (numbered : AuditNumbered l next) {e : AuditEntry}
    (own : e.seq = next) : AuditNumbered (l ++ [e]) (next + 1) := fun i x found => by
  have shift : ∀ n : Nat, next + 1 - BitVec.ofNat 32 (n + 1) = next - BitVec.ofNat 32 n := fun n => by
    rw [BitVec.ofNat_add]
    bv_omega
  rw [List.length_append, List.length_singleton]
  rcases Nat.lt_trichotomy i l.length with inside | last | beyond
  · have was := numbered i x (by rwa [List.getElem?_append_left inside] at found)
    rw [Nat.succ_sub (Nat.le_of_lt inside), shift, was]
  · subst last
    simp only [List.getElem?_concat_length, Option.some.injEq] at found
    rw [Nat.add_sub_cancel_left, ← found, own]
    exact (shift 0).symm ▸ (BitVec.sub_zero next).symm
  · have length := (List.getElem?_eq_some_iff.mp found).1
    simp only [List.length_append, List.length_singleton] at length
    omega

theorem auditNumbered_tail {e : AuditEntry} {l : List AuditEntry} {next : BitVec 32}
    (numbered : AuditNumbered (e :: l) next) : AuditNumbered l next := fun i x found => by
  have was := numbered (i + 1) x (by simpa using found)
  simpa using was

/-- Entries taken down leave the later ones, with their numbers (R170). -/
theorem takeDown_keeps (n : Nat) (l : List AuditEntry) (next : BitVec 32) (numbered : AuditNumbered l next) :
    (takeDown n l).length ≤ l.length ∧ AuditNumbered (takeDown n l) next := by
  induction l with
  | nil => exact ⟨Nat.le_refl _, numbered⟩
  | cons e rest ih =>
    have later := auditNumbered_tail numbered
    unfold takeDown
    split
    · exact ⟨Nat.le_succ _, later⟩
    · obtain ⟨length, kept⟩ := ih later
      exact ⟨Nat.le_trans length (Nat.le_succ _), kept⟩

/-- The trail and its counter kept, with RETENTION_LOST not newly active. -/
theorem auditInv_of_same {s t : State} (audit : t.store.audit = s.store.audit)
    (counter : t.store.auditCounter = s.store.auditCounter)
    (lost : t.retentionLost = true → s.retentionLost = true ∨ s.store.audit = []) (holds : AuditInv s) : AuditInv t := by
  obtain ⟨room, kept, numbered⟩ := holds
  unfold AuditInv
  rw [audit, counter]
  refine ⟨room, fun active => ?_, numbered⟩
  rcases lost active with was | empty
  · exact kept was
  · simp [empty]

theorem auditInv_of_active {s t : State} (judged : Judged s t)
    (lost : t.retentionLost = true → s.retentionLost = true ∨ s.store.audit = []) (holds : AuditInv s) : AuditInv t :=
  auditInv_of_same judged.audit judged.auditCounter lost holds

theorem auditInv_judge {s : State} (holds : AuditInv s) (i : ConditionId) (on : Bool)
    (room : i = .station .retentionLost → on = true → s.store.audit = []) : AuditInv (judge i on s) := by
  refine auditInv_of_active (judged_judge i on s) (fun active => ?_) holds
  cases on with
  | false => exact .inl (active_of_judge_off active)
  | true =>
    by_cases own : i = .station .retentionLost
    · exact .inr (room own rfl)
    · unfold State.retentionLost at active
      rw [judge_on_active_other (Ne.symm own)] at active
      exact .inl active

theorem auditFree_iff (s : State) :
    s.auditFree = true ↔ s.store.audit.length < if s.retentionLost = true then 47 else 48 := by
  unfold State.auditFree
  rw [decide_eq_true_iff]
  rfl

theorem auditInv_addAudit {s : State} (holds : AuditInv s) (free : s.auditFree = true) (scope : Option Run)
    (d : AuditData) : AuditInv (addAudit scope d s) := by
  obtain ⟨-, -, numbered⟩ := holds
  rw [auditFree_iff] at free
  have length : (addAudit scope d s).store.audit.length = s.store.audit.length + 1 := List.length_append
  refine ⟨?_, fun lost => ?_, auditNumbered_append numbered rfl⟩
  · rw [length]
    split at free <;> omega
  · rw [if_pos (show s.retentionLost = true from lost)] at free
    rw [length]
    omega

/-- The retention acknowledgement takes the place kept for it, and ends the condition that kept it (R172). -/
theorem auditInv_acknowledged {s : State} (holds : AuditInv s) (d : AuditData) (lost : s.retentionLost = true) :
    AuditInv (judge (.station .retentionLost) false (addAudit none d s)) := by
  obtain ⟨-, kept, numbered⟩ := holds
  have judged := judged_judge (.station .retentionLost) false (addAudit none d s)
  have room := kept lost
  unfold AuditInv
  rw [judged.audit, judged.auditCounter]
  have length : (addAudit none d s).store.audit.length = s.store.audit.length + 1 := List.length_append
  refine ⟨by omega, fun still => ?_, auditNumbered_append numbered rfl⟩
  unfold State.retentionLost at still
  rw [judge_active_same] at still
  nomatch still

theorem active_of_withMonitor_table {s : State} {m : Monitor} (table : m.table = s.monitor.table) (i : ConditionId) :
    (s.withMonitor m).active i = s.active i := by
  rw [withMonitor_active, table]
  rfl

theorem auditInv_clearLatch {s : State} (holds : AuditInv s) (i : ConditionId) : AuditInv (clearLatch i s) := by
  refine auditInv_of_same (s := s) (by rfl) (by rfl) (fun active => .inl ?_) holds
  unfold State.retentionLost at *
  by_cases own : i = .station .retentionLost
  · subst own
    unfold clearLatch at active
    rw [withMonitor_active, ConditionTable.get_set_same] at active
    exact active
  · unfold clearLatch at active
    rw [withMonitor_active, ConditionTable.get_set_other _ _ _ _ (Ne.symm own)] at active
    exact active

theorem Act.auditInv {s t : State} (act : Act s t) (holds : AuditInv s) : AuditInv t := by
  cases act with
  | judged i on room => exact auditInv_judge holds i on room
  | lineRead => exact auditInv_of_active (judged_readLine s) (fun active => .inl (active_of_readLine active)) holds
  | holdEnded =>
    refine auditInv_of_active (judged_holdEnded s) (fun active => .inl ?_) holds
    have was := active_of_releaseIfFree (s := s.withMonitor { s.monitor with hold := none }) active
    rwa [withMonitor_active] at was
  | acknowledged d lost => exact auditInv_acknowledged holds d lost
  | audited scope d free => exact auditInv_addAudit holds free scope d
  | takenDown n =>
    obtain ⟨room, kept, numbered⟩ := holds
    obtain ⟨length, later⟩ := takeDown_keeps n _ _ numbered
    exact ⟨Nat.le_trans length room, fun lost => Nat.le_trans length (kept lost), later⟩
  | latchCleared i => exact auditInv_clearLatch holds i
  | closed cause => rw [closeBatch_frame]; exact holds
  | begun => rw [startBatch_frame]; exact holds
  | ticketReleased => rw [releaseOldest_frame]; exact holds
  | curveApplied r => rw [applyCurve_frame]; exact holds
  | coded b c => rw [setStoredCode_frame b c s]; exact holds
  | detected d x => rw [setDetector_frame]; exact holds
  | credited figs r => rw [creditRun_frame]; exact holds
  | _ => exact holds

theorem handChanges_active (old : PerRun Integrity) (s : State) (i : ConditionId) :
    (handChanges old s).active i = s.active i := by
  unfold State.active
  rw [handChanges_monitor]

theorem active_of_applyClasses {oldBlock : StationBlock} {old : PerRun Integrity} {s : State} {i : ConditionId}
    (active : (applyClasses oldBlock old s).active i = true) : s.active i = true := by
  rw [← handChanges_active old s i]
  unfold applyClasses at active
  generalize handChanges old s = u at active ⊢
  dsimp only at active
  split at active
  · rwa [withdraw, withMonitor_active] at active
  · exact active_of_releaseIfFree active

theorem Move.auditInv {s t : State} (move : Move s t) (holds : AuditInv s) : AuditInv t := by
  cases move with
  | act act => exact act.auditInv holds
  | stationApplied work pending =>
    exact auditInv_of_active (judged_applyClasses _ _ _) (fun active => .inl (active_of_applyClasses active)) holds
  | _ => exact holds

theorem freshState_active (clock : Nat) (st : Store) (s : State) (i : ConditionId) :
    (freshState clock st s).active i = false := by
  cases i with
  | run k r => cases r <;> cases k <;> rfl
  | station k => cases k <;> rfl

theorem halt_active (s : State) (i : ConditionId) : (halt s).active i = false := by
  cases i with
  | run k r => cases r <;> cases k <;> rfl
  | station k => cases k <;> rfl

/-- Settles O52. -/
theorem auditTrailKept : Obligations.AuditTrailKept := by
  refine kept_of_stages (fun _ _ holds => holds) fun s t stage holds => ?_
  cases stage with
  | act act => exact act.auditInv holds
  | boundary => exact keeps_boundary (fun _ _ => Move.auditInv) _ _ _ holds
  | warm =>
    refine auditInv_of_same (s := s) (by rw [warmStore_frame]; rfl) (by rw [warmStore_frame]; rfl) (fun active => ?_) holds
    unfold State.retentionLost at active
    rw [freshState_active] at active
    nomatch active
  | cold => exact ⟨Nat.zero_le _, fun _ => Nat.zero_le _, nofun⟩
  | halted =>
    refine auditInv_of_same (s := s) (by rfl) (by rfl) (fun active => ?_) holds
    unfold State.retentionLost at active
    rw [halt_active] at active
    nomatch active
  | _ => exact holds

end Sys2Proof.Proofs
end

section
/-! The invariants of the permit line and of the marks of the period in progress. -/

namespace Sys2Proof.Proofs

open Sys2Proof Sys2Proof.Machine Sys2Proof.Safety Sys2Proof.Stated Sys2Proof.Laws

/-! ### What follows from the activity of the records -/

theorem tripActive_of_imp {s t : State} (block : t.stationBlock = s.stationBlock)
    (active : ∀ i, t.active i = true → s.active i = true) (trip : t.tripActive = true) : s.tripActive = true := by
  rw [tripActive_iff] at *
  obtain ⟨i, on, isTrip⟩ := trip
  exact ⟨i, active i on, block ▸ isTrip⟩

theorem tripActive_of_active {s t : State} (block : t.stationBlock = s.stationBlock)
    (active : ∀ i, t.active i = s.active i) : t.tripActive = s.tripActive :=
  Bool.eq_iff_iff.mpr ⟨tripActive_of_imp block fun i on => active i ▸ on,
    tripActive_of_imp block.symm fun i on => (active i).symm ▸ on⟩

theorem tripActive_of_inactive {s : State} (inactive : ∀ i, s.active i = false) : s.tripActive = false := by
  rw [← Bool.not_eq_true, tripActive_iff]
  rintro ⟨i, on, -⟩
  rw [inactive i] at on
  nomatch on

theorem integrity_of_active {s t : State} (block : t.stationBlock = s.stationBlock)
    (active : ∀ i, t.active i = s.active i) (r : Run) : t.integrity r = s.integrity r := by
  classical
  have found : ∀ c, Found t r c ↔ Found s r c := fun c => by
    unfold Found
    simp only [block, active]
  rw [integrity_eq, integrity_eq]
  simp only [found]

theorem integrity_of_inactive {s : State} (inactive : ∀ i, s.active i = false) (r : Run) : s.integrity r = .sound := by
  classical
  have none_ : ∀ c, ¬Found s r c := fun c ⟨i, _, on, _⟩ => by
    rw [inactive i] at on
    nomatch on
  rw [integrity_eq, if_neg (none_ _), if_neg (none_ _)]

theorem clearLatch_active (i j : ConditionId) (s : State) : (clearLatch i s).active j = s.active j := by
  unfold clearLatch
  rw [withMonitor_active]
  by_cases own : j = i
  · subst own
    rw [ConditionTable.get_set_same]
    rfl
  · rw [ConditionTable.get_set_other _ _ _ _ own]
    rfl

/-! ### The permit line -/

/-- The line is driven where a TRIP-class condition is active or the hold timer runs: the half of the invariant that a
judgement has kept when it comes to release the line. -/
def Withheld (s : State) : Prop := s.tripActive = true ∨ s.monitor.hold.isSome = true → s.monitor.withdrawn = true

theorem withheld_of_permitInv {s : State} (holds : PermitInv s) : Withheld s := fun reason => by
  rw [holds, Bool.or_eq_true]
  exact reason

theorem permitInv_withdraw (s : State) : PermitInv (withdraw s) := by
  show true = ((withdraw s).tripActive || true)
  rw [Bool.or_true]

/-- A part that is PERMIT with nothing to withhold keeps so as it reads the line (R153). -/
theorem permitInv_readLine {s : State} (permit : s.monitor.withdrawn = false) (hold : s.monitor.hold = none)
    (trip : s.tripActive = false) : PermitInv (readLine s) := by
  have still : (readLine s).tripActive = false := by
    rw [← Bool.not_eq_true] at *
    exact fun on => trip (tripActive_of_imp (judged_readLine s).stationBlock (fun i => active_of_readLine) on)
  unfold PermitInv
  rw [readLine_withdrawn, readLine_hold, still, permit, hold]
  rfl

theorem permitInv_releaseIfFree {s : State} (withheld : Withheld s) : PermitInv (releaseIfFree s) := by
  by_cases may : MayRelease s
  · rw [releaseIfFree_of_mayRelease may]
    obtain ⟨-, hold, trip⟩ := may
    exact permitInv_readLine (by rfl) hold (tripActive_congr (by rfl) (by rfl) ▸ trip)
  · rw [releaseIfFree_of_not_mayRelease may]
    unfold PermitInv
    rcases withdrawn : s.monitor.withdrawn with _ | _
    · have nothing : ¬(s.tripActive = true ∨ s.monitor.hold.isSome = true) := fun reason => by
        rw [withheld reason] at withdrawn
        nomatch withdrawn
      rw [← Bool.or_eq_true, Bool.not_eq_true] at nothing
      exact nothing.symm
    · rcases trip : s.tripActive with _ | _
      · rcases hold : s.monitor.hold with _ | h
        · exact absurd ⟨withdrawn, hold, trip⟩ may
        · rfl
      · rfl

/-- An activation of a class other than TRIP leaves the TRIP-class conditions as they are (R148). -/
theorem tripActive_setCondition_on {i : ConditionId} {s : State} (noTrip : conditionClass s.stationBlock i ≠ .trip)
    (inactive : s.active i = false) : (setCondition i true s).tripActive = s.tripActive := by
  have block := (judged_setCondition i true s).stationBlock
  rw [Bool.eq_iff_iff, tripActive_iff, tripActive_iff, block]
  refine exists_congr fun j => ?_
  by_cases own : j = i
  · subst own
    simp [noTrip]
  · rw [setCondition_active_other own]

theorem permitInv_judge {s : State} (holds : PermitInv s) (i : ConditionId) (on : Bool) : PermitInv (judge i on s) := by
  by_cases agrees : s.active i = on
  · rwa [judge_of_agrees i on s agrees]
  cases on with
  | true =>
    have inactive : s.active i = false := by simpa using agrees
    rw [judge_on inactive]
    split
    · exact permitInv_withdraw _
    next noTrip =>
      unfold PermitInv
      rw [setCondition_withdrawn, setCondition_hold, tripActive_setCondition_on noTrip inactive]
      exact holds
  | false =>
    rw [judge_off (by simpa using agrees)]
    refine permitInv_releaseIfFree fun reason => ?_
    rw [setCondition_hold] at reason
    rw [setCondition_withdrawn]
    exact withheld_of_permitInv holds (reason.imp_left
      (tripActive_of_imp (judged_setCondition i false s).stationBlock fun j => active_of_setCondition_off))

theorem permitInv_clearLatch {s : State} (holds : PermitInv s) (i : ConditionId) : PermitInv (clearLatch i s) := by
  unfold PermitInv
  rw [tripActive_of_active (s := s) (by rfl) (clearLatch_active i · s)]
  exact holds

theorem Act.permitInv {s t : State} (act : Act s t) (holds : PermitInv s) : PermitInv t := by
  cases act with
  | judged i on => exact permitInv_judge holds i on
  | lineRead permit =>
    have parts := holds
    unfold PermitInv at parts
    rw [permit, eq_comm, Bool.or_eq_false_iff, Option.isSome_eq_false_iff, Option.isNone_iff_eq_none] at parts
    obtain ⟨trip, hold⟩ := parts
    exact permitInv_readLine permit hold trip
  | holdEnded => exact permitInv_releaseIfFree fun reason => withheld_of_permitInv (s := s) holds (.inl (reason.resolve_right nofun))
  | acknowledged d => exact permitInv_judge (s := addAudit none d s) holds _ _
  | latchCleared i => exact permitInv_clearLatch holds i
  | closed cause => rw [closeBatch_frame]; exact holds
  | begun => rw [startBatch_frame]; exact holds
  | ticketReleased => rw [releaseOldest_frame]; exact holds
  | curveApplied r => rw [applyCurve_frame]; exact holds
  | coded b c => cases b <;> exact holds
  | detected d x => rw [setDetector_frame]; exact holds
  | credited figs r => rw [creditRun_frame]; exact holds
  | _ => exact holds

/-- A STATION block's application with nothing new of class TRIP among the active conditions has only old reasons to
withhold (R144). -/
theorem permitInv_applyClasses {s t : State} (holds : PermitInv s) (monitor : t.monitor = s.monitor)
    (old : PerRun Integrity) : PermitInv (applyClasses s.stationBlock old t) := by
  unfold applyClasses
  dsimp only
  split
  · exact permitInv_withdraw _
  next noNew =>
    refine permitInv_releaseIfFree fun reason => ?_
    rw [handChanges_monitor, monitor] at reason ⊢
    refine withheld_of_permitInv holds (reason.imp_left fun trip => ?_)
    obtain ⟨i, on, isTrip⟩ := (tripActive_iff _).mp trip
    have wasOn : s.active i = true := by
      unfold State.active at on ⊢
      rwa [handChanges_monitor, monitor] at on
    refine (tripActive_iff s).mpr ⟨i, wasOn, ?_⟩
    refine Classical.byContradiction fun wasNot => ?_
    refine noNew (List.any_eq_true.mpr ⟨i, mem_allConditionIds i, ?_⟩)
    simp [on, isTrip, wasNot]

theorem Move.permitInv {s t : State} (move : Move s t) (holds : PermitInv s) : PermitInv t := by
  cases move with
  | act act => exact act.permitInv holds
  | stationApplied work pending => exact permitInv_applyClasses holds (by rfl) _
  | _ => exact holds

theorem permitInv_of_inactive {s : State} (inactive : ∀ i, s.active i = false) (permit : s.monitor.withdrawn = false)
    (hold : s.monitor.hold = none) : PermitInv s := by
  unfold PermitInv
  rw [tripActive_of_inactive inactive, permit, hold]
  rfl

theorem permitInv_kept : Kept PermitInv := by
  refine kept_of_stages (fun _ _ holds => holds) fun s t stage holds => ?_
  cases stage with
  | act act => exact act.permitInv holds
  | boundary => exact keeps_boundary (fun _ _ => Move.permitInv) _ _ _ holds
  | warm => exact permitInv_of_inactive (freshState_active _ _ s) (by rfl) (by rfl)
  | cold => exact permitInv_of_inactive (freshState_active _ _ s) (by rfl) (by rfl)
  | halted => exact permitInv_of_inactive (halt_active s) (by rfl) (by rfl)
  | _ => exact holds

/-! ### The marks of the period in progress -/

/-- Handed changes mark every run that is not SOUND, where those that already were had been marked. -/
theorem marked_of_handChanges {s u : State} (flagged : ∀ r, s.integrity r ≠ .sound → u.totalizer.unsound.get r = true)
    (r : Run) (unsound : (handChanges s.integrities u).integrity r ≠ .sound) :
    (handChanges s.integrities u).totalizer.unsound.get r = true := by
  rw [handChanges_integrity] at unsound
  rw [handChanges_unsound, Bool.or_eq_true, decide_eq_true_iff]
  have old : s.integrities.get r = s.integrity r := PerRun.get_tab _ _
  by_cases same : u.integrity r = s.integrity r
  · exact .inl (flagged r (same ▸ unsound))
  · exact .inr ⟨by rwa [old], unsound⟩

/-- Every run that is not SOUND is marked (R55), whether or not the part is RUNNING. -/
def Flagged (s : State) : Prop := ∀ r : Run, s.integrity r ≠ .sound → s.totalizer.unsound.get r = true

theorem flagged_withMonitor {s : State} (flagged : Flagged s) {m : Monitor}
    (table : ∀ i, (m.table.get i).active = s.active i) : Flagged (s.withMonitor m) := fun r unsound => by
  rw [integrity_of_active (s := s) (by rfl) fun i => (withMonitor_active s m i).trans (table i)] at unsound
  exact flagged r unsound

theorem flagged_setCondition {s : State} (flagged : Flagged s) (i : ConditionId) (on : Bool) :
    Flagged (setCondition i on s) := by
  by_cases agrees : s.active i = on
  · rwa [setCondition_of_agrees agrees]
  · unfold setCondition
    dsimp only
    rw [if_neg (show ¬(s.monitor.table.get i).active = on from agrees)]
    generalize judgedState : s.withMonitor _ = u
    have totalizer : u.totalizer = s.totalizer := by rw [← judgedState]; rfl
    exact marked_of_handChanges (totalizer ▸ flagged)

theorem flagged_readLine {s : State} (flagged : Flagged s) : Flagged (readLine s) := by
  unfold readLine
  dsimp only
  split
  · refine flagged_setCondition ?_ _ _
    exact flagged_withMonitor flagged fun _ => rfl
  · exact flagged_withMonitor flagged fun _ => rfl

theorem flagged_releaseIfFree {s : State} (flagged : Flagged s) : Flagged (releaseIfFree s) := by
  unfold releaseIfFree
  split
  · exact flagged_readLine (flagged_withMonitor flagged fun _ => rfl)
  · exact flagged

theorem flagged_judge {s : State} (flagged : Flagged s) (i : ConditionId) (on : Bool) : Flagged (judge i on s) := by
  have set := flagged_setCondition flagged i on
  unfold judge
  dsimp only
  split
  · exact flagged
  · split
    · split
      · exact flagged_withMonitor set fun _ => rfl
      · exact set
    · exact flagged_releaseIfFree set

theorem Act.flagged {s t : State} (act : Act s t) (flagged : Flagged s) : Flagged t := by
  cases act with
  | judged i on => exact flagged_judge flagged i on
  | lineRead => exact flagged_readLine flagged
  | lineSeen => exact flagged_withMonitor flagged fun _ => rfl
  | holdEnded => exact flagged_releaseIfFree (flagged_withMonitor flagged fun _ => rfl)
  | acknowledged d => exact flagged_judge (s := addAudit none d s) flagged _ _
  | latchCleared i => exact flagged_withMonitor flagged (clearLatch_active i · s)
  | closed cause => rw [closeBatch_frame]; exact flagged
  | begun => rw [startBatch_frame]; exact flagged
  | ticketReleased => rw [releaseOldest_frame]; exact flagged
  | curveApplied r => rw [applyCurve_frame]; exact flagged
  | coded b c => cases b <;> exact flagged
  | detected d x => rw [setDetector_frame]; exact flagged
  | credited figs r => rw [creditRun_frame]; exact flagged
  | _ => exact flagged

/-- A boundary leaves every run that is not SOUND marked, for the period that begins (R55). -/
theorem flagged_boundary (closing : Bool) (pe : Nat) (order : BoundaryOrder) (s : State) :
    Flagged (boundary closing pe order s) := by
  unfold boundary beginPeriod
  generalize allRuns.foldl fixCounting _ = u
  intro r unsound
  have unsound : u.integrity r ≠ .sound := unsound
  simp [unsound]

theorem flagInv_kept : Kept FlagInv := by
  refine kept_of_stages (fun _ _ holds => holds) fun s t stage holds => ?_
  cases stage with
  | act act => exact fun running => act.flagged (holds (act.samePart.running ▸ running))
  | boundary => exact fun _ => flagged_boundary _ _ _ _
  | supply x same =>
    intro running
    exact holds (by unfold State.running at *; rwa [← same])
  | warm => exact fun _ r unsound => absurd (integrity_of_inactive (freshState_active _ _ s) r) unsound
  | cold => exact fun _ r unsound => absurd (integrity_of_inactive (freshState_active _ _ s) r) unsound
  | halted | unpowered => exact nofun
  | _ => exact holds

/-- Settles O56. -/
theorem permitAndFlagKept : Obligations.PermitAndFlagKept := ⟨permitInv_kept, flagInv_kept⟩

end Sys2Proof.Proofs
end

section
/-! The invariants of the prover and of the grades. What a judgement does to the record holding the prover is a chain of two
changes: the record leaves it aborted, or its round is marked (R112). -/

namespace Sys2Proof.Proofs

open Sys2Proof Sys2Proof.Machine Sys2Proof.Safety Sys2Proof.Stated Sys2Proof.Laws

/-! ### The changes a judgement is made of -/

/-- One change of a judgement. -/
inductive Touch : State → State → Prop where
  | monitor {s : State} (m : Monitor) : Touch s (s.withMonitor m)
  | period {s : State} (x : Totalizer) : Touch s (s.withTotalizer x)
  | aborted {s : State} {r x : ProvingRecord} (held : s.store.record = some r) :
      Touch s (s.withStore { s.store with record := none, history := pushHistory s.store.history x })
  | marked {s : State} {r : ProvingRecord} (held : s.store.record = some r) (f : RoundMarks → RoundMarks) :
      Touch s (s.setRecord (some (markRound f r)))

abbrev Touches : State → State → Prop := Path Touch

theorem Touches.trans {s t u : State} (h : Touches s t) (g : Touches t u) : Touches s u := Path.trans h g

theorem touches_withMonitor (s : State) (m : Monitor) : Touches s (s.withMonitor m) := .single (.monitor m)

theorem touches_abortRecord (cause : EndCause) (s : State) : Touches s (abortRecord cause s) := by
  unfold abortRecord endRecord
  split
  · exact .refl
  next held => exact .single (.aborted held)

theorem touches_proverFollows (r : Run) (new : Integrity) (s : State) : Touches s (proverFollows r new s) := by
  unfold proverFollows
  split
  · exact .refl
  next held =>
    split
    · split
      · exact touches_abortRecord _ _
      · exact .single (.marked held _)
      · exact .refl
    · exact .refl

theorem touches_handChanges (old : PerRun Integrity) (s : State) : Touches s (handChanges old s) :=
  chain_foldl _ (fun s r => by
    unfold handRun
    dsimp only
    split
    · exact .refl
    · split
      · exact touches_proverFollows _ _ _
      · exact .trans (.single (.period _)) (touches_proverFollows _ _ _)) _ _

theorem touches_setCondition (i : ConditionId) (on : Bool) (s : State) : Touches s (setCondition i on s) := by
  unfold setCondition
  dsimp only
  split
  · exact .refl
  · exact .trans (touches_withMonitor s _) (touches_handChanges _ _)

theorem touches_readLine (s : State) : Touches s (readLine s) := by
  unfold readLine
  dsimp only
  split
  · exact .trans (touches_withMonitor s _) (touches_setCondition _ _ _)
  · exact .trans (touches_withMonitor s _) (touches_withMonitor _ _)

theorem touches_releaseIfFree (s : State) : Touches s (releaseIfFree s) := by
  unfold releaseIfFree
  split
  · exact .trans (touches_withMonitor s _) (touches_readLine _)
  · exact .refl

theorem touches_judge (i : ConditionId) (on : Bool) (s : State) : Touches s (judge i on s) := by
  have set := touches_setCondition i on s
  unfold judge
  dsimp only
  split
  · exact .refl
  · split
    · split
      · exact set.trans (touches_withMonitor _ _)
      · exact set
    · exact set.trans (touches_releaseIfFree _)

theorem touches_applyClasses (oldBlock : StationBlock) (old : PerRun Integrity) (s : State) :
    Touches s (applyClasses oldBlock old s) := by
  unfold applyClasses
  dsimp only
  split
  · exact (touches_handChanges old s).trans (touches_withMonitor _ _)
  · exact (touches_handChanges old s).trans (touches_releaseIfFree _)

/-! ### The prover -/

/-- Whether a run is the one a record proves. -/
def proves (x : Option ProvingRecord) (r : Run) : Bool := x.any fun y => decide (y.request.run = r)

theorem provings_eq (s : State) (r : Run) :
    provings s r = (s.requests.filter fun q => decide (q.run = r)).length + (proves s.store.record r).toNat +
      (s.store.results.get r).isSome.toNat := by
  have held : (s.store.record.toList.filter fun x => decide (x.request.run = r)).length =
      (proves s.store.record r).toNat := by
    cases s.store.record with
    | none => rfl
    | some x =>
      by_cases own : x.request.run = r <;> simp [proves, own]
  have result : (s.store.results.get r).toList.length = (s.store.results.get r).isSome.toNat := by
    cases s.store.results.get r <;> rfl
  unfold provings
  rw [held, result]

/-- What the invariant asks of the record holding the prover and of the history. -/
def ProverOk (s : State) : Prop :=
  (s.store.proverEnabled = false → s.store.record = none) ∧ (∀ x, s.store.record = some x → RecordOk x) ∧
  s.store.history.length ≤ 4

theorem proverInv_iff (s : State) : ProverInv s ↔ (∀ r, provings s r ≤ 1) ∧ ProverOk s := by
  unfold ProverInv ProverOk RecordOk
  constructor
  · rintro ⟨one, enabled, timed, round, room⟩
    exact ⟨one, enabled, fun x held => ⟨timed x held, round x held⟩, room⟩
  · rintro ⟨one, enabled, ok, room⟩
    exact ⟨one, enabled, fun x held => (ok x held).1, fun x held => (ok x held).2, room⟩

theorem pushHistory_length (h : List ProvingRecord) (x : ProvingRecord) (room : h.length ≤ 4) :
    (pushHistory h x).length ≤ 4 := by
  unfold pushHistory
  rw [List.length_drop, List.length_append, List.length_singleton]
  show h.length + 1 - (h.length + 1 - 4) ≤ 4
  omega

/-- The record leaves the prover, with the rest of what a run has not grown. -/
theorem proverInv_left {s : State} (holds : ProverInv s) {st : Store} (free : st.record = none)
    (results : ∀ r, (st.results.get r).isSome = true → (s.store.results.get r).isSome = true ∨
      proves s.store.record r = true) (history : st.history.length ≤ 4) : ProverInv (s.withStore st) := by
  rw [proverInv_iff] at *
  obtain ⟨one, -, -, -⟩ := holds
  refine ⟨fun r => ?_, fun _ => free, fun x held => ?_, history⟩
  · have was := one r
    have grown := results r
    rw [provings_eq] at was ⊢
    have none_ : proves (s.withStore st).store.record r = false := by
      show proves st.record r = false
      rw [free]
      rfl
    rw [none_]
    show _ + _ + (st.results.get r).isSome.toNat ≤ 1
    cases now : (st.results.get r).isSome with
    | false =>
      simp only [State.withStore_requests, Bool.toNat_false]
      omega
    | true =>
      have before := grown now
      rcases before with before | before <;> rw [before] at was <;> simp only [State.withStore_requests, Bool.toNat_false,
        Bool.toNat_true] at * <;> omega
  · have held : st.record = some x := held
    rw [free] at held
    nomatch held

theorem proverInv_filed {s : State} (holds : ProverInv s) (x : ProvingRecord) :
    ProverInv (s.withStore { s.store with record := none, history := pushHistory s.store.history x }) := by
  obtain ⟨-, -, -, room⟩ := (proverInv_iff s).mp holds
  refine proverInv_left holds ?_ ?_ ?_
  · rfl
  · exact fun _ some_ => .inl some_
  · exact pushHistory_length _ _ room

theorem proverInv_completed {s : State} (holds : ProverInv s) {r : ProvingRecord} (held : s.store.record = some r)
    (x : ProvingRecord) : ProverInv (s.withStore { s.store with
      record := none, results := s.store.results.set r.request.run (some x) }) := by
  obtain ⟨-, -, -, room⟩ := (proverInv_iff s).mp holds
  refine proverInv_left holds ?_ (fun q some_ => ?_) ?_
  · rfl
  · by_cases own : q = r.request.run
    · subst own
      right
      rw [held]
      exact decide_eq_true rfl
    · rw [PerRun.get_set_other _ _ _ _ own] at some_
      exact .inl some_
  · exact room

theorem proverInv_recorded {s : State} (holds : ProverInv s) {r x : ProvingRecord} (held : s.store.record = some r)
    (run : x.request.run = r.request.run) (keeps : RecordOk r → RecordOk x) : ProverInv (s.setRecord (some x)) := by
  rw [proverInv_iff] at *
  obtain ⟨one, enabled, ok, room⟩ := holds
  refine ⟨fun q => ?_, fun off => ?_, fun y now => ?_, room⟩
  · have was := one q
    rw [provings_eq] at was ⊢
    have same : proves (s.setRecord (some x)).store.record q = proves s.store.record q := by
      rw [held]
      simp [proves, State.setRecord, run]
    rw [same]
    exact was
  · rw [enabled off] at held
    nomatch held
  · cases now
    exact keeps (ok r held)

theorem markRound_run (f : RoundMarks → RoundMarks) (r : ProvingRecord) : (markRound f r).request = r.request := by
  unfold markRound
  split <;> rfl

theorem markRound_grade (f : RoundMarks → RoundMarks) (r : ProvingRecord) : (markRound f r).grade = r.grade := by
  unfold markRound
  split <;> rfl

theorem Touch.proverInv {s t : State} (touch : Touch s t) (holds : ProverInv s) : ProverInv t := by
  cases touch with
  | monitor | period => exact holds
  | aborted held => exact proverInv_filed holds _
  | marked held f =>
    exact proverInv_recorded holds held (by rw [markRound_run]) (recordOk_markRound f _)

theorem Touches.proverInv {s t : State} (touches : Touches s t) (holds : ProverInv s) : ProverInv t :=
  keeps_of_chain (R := Touch) (fun _ _ => Touch.proverInv) touches holds

theorem not_hasResult_iff {s : State} {r : Run} : s.hasResult r = false ↔ s.store.results.get r = none := by
  unfold State.hasResult
  exact Option.isSome_eq_false_iff.trans Option.isNone_iff_eq_none

/-- A request or a record that comes where a run has neither, nor a result. -/
theorem proverInv_requested {s : State} (holds : ProverInv s) {q : ProvingRequest} (first : s.hasRequest q.run = false)
    (noRecord : s.hasRecord q.run = false) (noResult : s.hasResult q.run = false) :
    ProverInv (s.withRequests (s.requests ++ [q])) := by
  rw [proverInv_iff] at *
  obtain ⟨one, ok⟩ := holds
  refine ⟨fun r => ?_, ok⟩
  have was := one r
  rw [provings_eq] at was ⊢
  simp only [State.withRequests_requests, State.withRequests_store, List.filter_append, List.length_append]
  by_cases own : q.run = r
  · subst own
    have none_ : (s.requests.filter fun x => decide (x.run = q.run)) = [] := by
      unfold State.hasRequest at first
      rw [List.filter_eq_nil_iff]
      rw [List.any_eq_false] at first
      exact first
    have free : proves s.store.record q.run = false := by
      unfold State.hasRecord at noRecord
      unfold proves
      cases held : s.store.record with
      | none => rfl
      | some x =>
        rw [held] at noRecord
        exact noRecord
    simp [none_, free, not_hasResult_iff.mp noResult]
  · simpa [own] using was

theorem proverInv_opened {s : State} (holds : ProverInv s) {q : ProvingRequest} {rest : List ProvingRequest}
    (enabled : s.store.proverEnabled = true) (free : s.store.record = none) (head : s.requests = q :: rest) :
    ProverInv (openRecord q rest s) := by
  rw [proverInv_iff] at *
  obtain ⟨one, -, -, room⟩ := holds
  refine ⟨fun r => ?_, fun off => ?_, fun x held => ?_, room⟩
  · have was := one r
    rw [provings_eq] at was ⊢
    rw [head, free] at was
    show (rest.filter fun x => decide (x.run = r)).length + (decide (q.run = r)).toNat +
      (s.store.results.get r).isSome.toNat ≤ 1
    by_cases own : q.run = r
    · simp [own, proves] at was ⊢
      omega
    · simpa [own, proves] using was
  · have off : s.store.proverEnabled = false := off
    rw [enabled] at off
    nomatch off
  · cases held
    exact ⟨nofun, nofun⟩

theorem toNat_le_toNat {a b : Bool} (implies : a = true → b = true) : a.toNat ≤ b.toNat := by
  cases a with
  | false => exact Nat.zero_le _
  | true => exact Nat.le_of_eq (congrArg Bool.toNat (implies rfl).symm)

/-- Fewer requests, one result fewer, and a history entry more at most. -/
theorem proverInv_fewer {s t : State} (holds : ProverInv s)
    (requests : ∀ r, (t.requests.filter fun q => decide (q.run = r)).length ≤
      (s.requests.filter fun q => decide (q.run = r)).length)
    (record : t.store.record = s.store.record) (enabled : t.store.proverEnabled = s.store.proverEnabled)
    (results : ∀ r, (t.store.results.get r).isSome = true → (s.store.results.get r).isSome = true)
    (history : s.store.history.length ≤ 4 → t.store.history.length ≤ 4) : ProverInv t := by
  rw [proverInv_iff] at *
  obtain ⟨one, off, ok, room⟩ := holds
  unfold ProverOk
  rw [record, enabled]
  refine ⟨fun r => ?_, off, ok, history room⟩
  have was := one r
  rw [provings_eq] at was ⊢
  rw [record]
  have fewer := requests r
  have result : (t.store.results.get r).isSome.toNat ≤ (s.store.results.get r).isSome.toNat := toNat_le_toNat (results r)
  omega

theorem proverInv_decided {s : State} (holds : ProverInv s) (r : Run) (x : ProvingRecord) (d : Decision) :
    ProverInv (decideResult r x d s) := by
  refine proverInv_fewer holds (fun _ => Nat.le_refl _) (by rfl) (by rfl) (fun q some_ => ?_) (pushHistory_length _ _)
  have some_ : ((s.store.results.set r none).get q).isSome = true := some_
  by_cases own : q = r
  · subst own
    rw [PerRun.get_set_same] at some_
    nomatch some_
  · rwa [PerRun.get_set_other _ _ _ _ own] at some_

theorem Act.proverInv {s t : State} (act : Act s t) (holds : ProverInv s) : ProverInv t := by
  have parts := (proverInv_iff s).mp holds
  obtain ⟨one, enabled, ok, room⟩ := parts
  cases act with
  | judged i on => exact (touches_judge i on s).proverInv holds
  | lineRead => exact (touches_readLine s).proverInv holds
  | holdEnded => exact (touches_releaseIfFree _).proverInv (s := s.withMonitor { s.monitor with hold := none }) holds
  | acknowledged d => exact (touches_judge _ _ _).proverInv (s := addAudit none d s) holds
  | recorded held run grade keeps => exact proverInv_recorded holds held run keeps
  | left held => exact proverInv_filed holds _
  | completed held => exact proverInv_completed holds held _
  | opened enabled free head => exact proverInv_opened holds enabled free head
  | requested q first noRecord noResult => exact proverInv_requested holds first noRecord noResult
  | withdrawn r =>
    exact proverInv_fewer (s := s) holds (fun q => (List.filter_sublist.filter _).length_le) (by rfl) (by rfl)
      (fun _ some_ => some_) (by exact id)
  | decided r x d => exact proverInv_decided holds r x d
  | enabled => exact (proverInv_iff _).mpr ⟨one, nofun, ok, room⟩
  | disabled free => exact (proverInv_iff _).mpr ⟨one, fun _ => free, ok, room⟩
  | closed cause => rw [closeBatch_frame]; exact holds
  | begun => rw [startBatch_frame]; exact holds
  | ticketReleased => rw [releaseOldest_frame]; exact holds
  | curveApplied r => rw [applyCurve_frame]; exact holds
  | coded b c => rw [setStoredCode_frame b c s]; exact holds
  | detected d x => rw [setDetector_frame]; exact holds
  | credited figs r => rw [creditRun_frame]; exact holds
  | _ => exact holds

theorem Move.proverInv {s t : State} (move : Move s t) (holds : ProverInv s) : ProverInv t := by
  cases move with
  | act act => exact act.proverInv holds
  | stationApplied work pending => exact (touches_applyClasses _ _ _).proverInv holds
  | _ => exact holds

/-- A warm start files the record holding the prover (R125). -/
theorem warmStore_history (now : Nat) (st : Store) (room : st.history.length ≤ 4) :
    (warmStore now st).history.length ≤ 4 := by
  unfold warmStore fileRecord
  split
  · exact room
  · exact pushHistory_length _ _ room

/-- A start holds no request and no record (R99, R125). -/
theorem proverInv_of_start {s : State} (requests : s.requests = []) (record : s.store.record = none)
    (history : s.store.history.length ≤ 4) : ProverInv s := by
  rw [proverInv_iff]
  refine ⟨fun r => ?_, fun _ => record, fun x held => ?_, history⟩
  · rw [provings_eq, requests, record]
    show 0 + 0 + (s.store.results.get r).isSome.toNat ≤ 1
    exact Nat.zero_add _ ▸ Bool.toNat_le _
  · rw [record] at held
    nomatch held

/-- Settles O57. -/
theorem proverKept : Obligations.ProverKept := by
  refine kept_of_stages (fun _ _ holds => holds) fun s t stage holds => ?_
  cases stage with
  | act act => exact act.proverInv holds
  | boundary => exact keeps_boundary (fun _ _ => Move.proverInv) _ _ _ holds
  | warm =>
    obtain ⟨-, -, -, room⟩ := (proverInv_iff s).mp holds
    refine proverInv_of_start (by rfl) ?_ (warmStore_history s.clock s.store room)
    rw [warmStore_frame]
    rfl
  | cold => exact proverInv_of_start (by rfl) (by rfl) (Nat.zero_le _)
  | _ => exact holds

end Sys2Proof.Proofs
end

section
/-! The invariants of the grades and of the blocks. What a boundary does to the four kinds of block is said once: each takes
its pending copy, whatever comes before and after the applications (R162). -/

namespace Sys2Proof.Proofs

open Sys2Proof Sys2Proof.Machine Sys2Proof.Safety Sys2Proof.Stated Sys2Proof.Laws

/-! ### Grades -/

/-- What is asked of all that an option holds is nothing where it holds none. -/
theorem forall_of_eq_none {α : Type} {o : Option α} (none_ : o = none) {p : α → Prop} : ∀ x, o = some x → p x := by
  subst none_
  nofun

/-- A grade that is HOLDING. -/
def Holding (s : State) (g : Nat) : Prop := (s.gradeEntry g).isSome = true

theorem holding_iff (s : State) (g : Nat) : Holding s g ↔ gradeHolding s.store.grades g = true := by
  unfold Holding State.gradeEntry gradeHolding
  by_cases inside : g - 1 < 16
  · by_cases positive : 1 ≤ g <;> simp [inside, positive]
  · simp [inside]

theorem holding_congr {s t : State} (grades : t.store.grades = s.store.grades) (g : Nat) : Holding t g ↔ Holding s g := by
  rw [holding_iff, holding_iff, grades]

/-- A grade entry set leaves every HOLDING grade HOLDING (R67). -/
theorem holding_of_gradeSet {s : State} {i : Fin 16} {e : GradeEntry} {c : Code} {g : Nat} (holding : Holding s g) :
    Holding (s.withStore { s.store with grades := s.store.grades.set i (some e), gradesCode := c }) g := by
  rw [holding_iff] at *
  unfold gradeHolding at *
  split
  next inside =>
    rw [dif_pos inside, Bool.and_eq_true] at holding
    rw [Bool.and_eq_true]
    refine ⟨holding.1, ?_⟩
    show ((s.store.grades.set i (some e))[g - 1]).isSome = true
    by_cases own : i.val = g - 1
    · simp [own]
    · simpa [Vector.getElem_set_ne _ _ own] using holding.2
  next outside =>
    rw [dif_neg outside] at holding
    exact holding

theorem gradesInv_iff (s : State) : GradesInv s ↔
    Holding s s.stationBlock.defaultGrade ∧ Holding s s.store.station.next.defaultGrade ∧
    (∀ b, s.store.active = some b → Holding s b.entry.grade) ∧ (∀ e ∈ s.store.queue, Holding s e.grade) ∧
    ∀ x, s.store.record = some x → Holding s x.grade := Iff.rfl

theorem holding_gradeNow {s : State} (holds : GradesInv s) : Holding s s.gradeNow := by
  obtain ⟨default_, -, active, -, -⟩ := holds
  unfold State.gradeNow
  split
  next b held => exact active b held
  · exact default_

theorem gradesInv_recorded {s : State} (holds : GradesInv s) {x : ProvingRecord} (grade : Holding s x.grade) :
    GradesInv (s.setRecord (some x)) := by
  obtain ⟨default_, next, active, queue, -⟩ := holds
  exact ⟨default_, next, active, queue, fun y held => by cases held; exact grade⟩

theorem Touch.gradesInv {s t : State} (touch : Touch s t) (holds : GradesInv s) : GradesInv t := by
  have parts := holds
  obtain ⟨default_, next, active, queue, record⟩ := parts
  cases touch with
  | monitor | period => exact holds
  | aborted held => exact ⟨default_, next, active, queue, forall_of_eq_none rfl⟩
  | marked held f =>
    refine gradesInv_recorded holds ?_
    rw [markRound_grade]
    exact record _ held

theorem Touches.gradesInv {s t : State} (touches : Touches s t) (holds : GradesInv s) : GradesInv t :=
  keeps_of_chain (R := Touch) (fun _ _ => Touch.gradesInv) touches holds

theorem gradesInv_closeBatch {s : State} (holds : GradesInv s) (cause : CloseCause) : GradesInv (closeBatch cause s) := by
  have noBatch := closeBatch_active cause s
  obtain ⟨default_, next, -, queue, record⟩ := holds
  rw [closeBatch_frame, noBatch]
  exact ⟨default_, next, forall_of_eq_none rfl, queue, record⟩

theorem gradesInv_startBatch {s : State} (holds : GradesInv s) : GradesInv (startBatch s) := by
  have parts := holds
  obtain ⟨default_, next, -, queue, record⟩ := parts
  unfold startBatch
  split
  · exact holds
  next e rest head =>
    rw [head] at queue
    refine ⟨default_, next, fun b held => ?_, fun e' mem => queue e' (List.mem_cons_of_mem _ mem), record⟩
    cases held
    exact queue e List.mem_cons_self

theorem gradesInv_gradeSet {s : State} (holds : GradesInv s) (i : Fin 16) (e : GradeEntry) (c : Code) :
    GradesInv (s.withStore { s.store with grades := s.store.grades.set i (some e), gradesCode := c }) := by
  obtain ⟨default_, next, active, queue, record⟩ := holds
  exact ⟨holding_of_gradeSet default_, holding_of_gradeSet next, fun b held => holding_of_gradeSet (active b held),
    fun e' mem => holding_of_gradeSet (queue e' mem), fun x held => holding_of_gradeSet (record x held)⟩

/-- Conditions none of which offends hold (R160). -/
theorem all_of_offending_none {l : List Bool} (none_ : offending l = none) : ∀ b ∈ l, b = true := by
  induction l with
  | nil => nofun
  | cons b rest ih =>
    cases b with
    | false => nomatch none_
    | true =>
      have later : offending rest = none := by simpa [offending] using none_
      simpa using ih later

theorem holding_of_stationConditions {s : State} {setups : Vector PointSetup 16} {x : StationBlock}
    (ok : offending (stationConditions setups s.store.grades x) = none) : Holding s x.defaultGrade :=
  (holding_iff s _).mpr (all_of_offending_none ok _ (by simp [stationConditions]))

theorem entry_creditRun (figs : PerRun LastPeriod) (s : State) (r : Run) :
    (creditRun figs s r).store.active.map (·.entry) = s.store.active.map (·.entry) := by
  unfold creditRun
  dsimp only
  split
  next active => rw [active]; rfl
  next none_ => rfl

/-- What the invariant asks of the active batch is asked of its entry. -/
theorem gradesInv_entry {s : State} (holds : GradesInv s) {active : Option ActiveBatch}
    (same : active.map (·.entry) = s.store.active.map (·.entry)) :
    GradesInv (s.withStore { s.store with active := active }) := by
  obtain ⟨default_, next, was, queue, record⟩ := holds
  refine ⟨default_, next, fun b held => ?_, queue, record⟩
  have held : active = some b := held
  rw [held, eq_comm, Option.map_some, Option.map_eq_some_iff] at same
  obtain ⟨b', active', entry⟩ := same
  exact entry ▸ was b' active'

theorem Act.gradesInv {s t : State} (act : Act s t) (holds : GradesInv s) : GradesInv t := by
  have parts := holds
  obtain ⟨default_, next, active, queue, record⟩ := parts
  cases act with
  | judged i on => exact (touches_judge i on s).gradesInv holds
  | lineRead => exact (touches_readLine s).gradesInv holds
  | holdEnded => exact (touches_releaseIfFree _).gradesInv (s := s.withMonitor { s.monitor with hold := none }) holds
  | acknowledged d => exact (touches_judge _ _ _).gradesInv (s := addAudit none d s) holds
  | recorded held run grade => exact gradesInv_recorded holds (grade ▸ record _ held)
  | left held => exact ⟨default_, next, active, queue, forall_of_eq_none rfl⟩
  | completed held => exact ⟨default_, next, active, queue, forall_of_eq_none rfl⟩
  | opened =>
    have now := holding_gradeNow holds
    exact ⟨default_, next, active, queue, fun x held => by cases held; exact now⟩
  | scheduled e room notActive notQueued holding =>
    refine ⟨default_, next, active, fun e' mem => ?_, record⟩
    rcases List.mem_append.mp mem with old | new
    · exact queue e' old
    · rw [List.mem_singleton.mp new]
      exact holding
  | deleted id =>
    exact ⟨default_, next, active, fun e mem => queue e (List.mem_filter.mp mem |>.1), record⟩
  | batchMoved held same =>
    refine gradesInv_entry holds ?_
    rw [held, Option.map_some, Option.map_some, same]
  | closed cause => exact gradesInv_closeBatch (s := s.withChange .none) holds cause
  | begun => exact gradesInv_startBatch (s := s.withChange .none) holds
  | credited figs r =>
    have entry := entry_creditRun figs s r
    rw [creditRun_frame]
    exact gradesInv_entry holds entry
  | gradeSet i e c => exact gradesInv_gradeSet holds i e c
  | stationCommitted x ok => exact ⟨default_, holding_of_stationConditions ok, active, queue, record⟩
  | coded b c => cases b <;> exact holds
  | ticketReleased => rw [releaseOldest_frame]; exact holds
  | curveApplied r => rw [applyCurve_frame]; exact holds
  | detected d x => rw [setDetector_frame]; exact holds
  | _ => exact holds

theorem next_of_pending {α : Type} {x : Slot α} {y : α} (pending : x.pending = some y) : x.next = y := by
  unfold Slot.next
  rw [pending]
  rfl

theorem gradesInv_stationTaken {s : State} (holds : GradesInv s) {x : StationBlock} {c : Code}
    (pending : s.store.station.pending = some x) :
    GradesInv (s.withStore { s.store with station := { current := x, pending := none, code := c } }) := by
  obtain ⟨-, next, active, queue, record⟩ := holds
  rw [next_of_pending pending] at next
  exact ⟨next, next, active, queue, record⟩

theorem Move.gradesInv {s t : State} (move : Move s t) (holds : GradesInv s) : GradesInv t := by
  cases move with
  | act act => exact act.gradesInv holds
  | stationApplied work pending =>
    exact (touches_applyClasses _ _ _).gradesInv (gradesInv_stationTaken holds pending)
  | _ => exact holds

theorem gradesInv_of_start {st : Store} {l : State} (grades : l.store = st)
    (default_ : gradeHolding st.grades st.station.current.defaultGrade = true)
    (next : gradeHolding st.grades st.station.next.defaultGrade = true)
    (active : ∀ b, st.active = some b → gradeHolding st.grades b.entry.grade = true)
    (queue : ∀ e ∈ st.queue, gradeHolding st.grades e.grade = true) (record : st.record = none) : GradesInv l := by
  subst grades
  refine (gradesInv_iff l).mpr ⟨(holding_iff l _).mpr default_, (holding_iff l _).mpr next,
    fun b held => (holding_iff l _).mpr (active b held), fun e mem => (holding_iff l _).mpr (queue e mem), fun x held => ?_⟩
  rw [record] at held
  nomatch held

theorem gradesInv_kept : Kept GradesInv := by
  refine kept_of_stages (fun _ _ holds => holds) fun s t stage holds => ?_
  cases stage with
  | act act => exact act.gradesInv holds
  | boundary => exact keeps_boundary (fun _ _ => Move.gradesInv) _ _ _ holds
  | warm =>
    obtain ⟨default_, next, active, queue, -⟩ := holds
    rw [warmStore_frame]
    refine ⟨default_, next, fun b held => ?_, queue, forall_of_eq_none rfl⟩
    obtain ⟨b', was, rfl⟩ := Option.map_eq_some_iff.mp held
    exact active b' was
  | cold => exact gradesInv_of_start (st := factoryStore 0) rfl (by decide) (by decide) (forall_of_eq_none rfl) nofun rfl
  | _ => exact holds

end Sys2Proof.Proofs
end

section
/-! What a boundary does to the four kinds of block: each takes its pending copy, whatever comes before and after the
applications (R162). And from it the invariant of the kinds of points (R160). -/

namespace Sys2Proof.Proofs

open Sys2Proof Sys2Proof.Machine Sys2Proof.Safety Sys2Proof.Stated Sys2Proof.Laws

/-! ### What leaves the blocks alone -/

/-- The blocks, with their pending copies and codes, are the same. -/
def SameBlocks (s t : State) : Prop :=
  t.store.station = s.store.station ∧ t.store.prover = s.store.prover ∧ t.store.points = s.store.points ∧
  t.store.runBlocks = s.store.runBlocks

theorem SameBlocks.refl (s : State) : SameBlocks s s := ⟨rfl, rfl, rfl, rfl⟩

theorem SameBlocks.trans {s t u : State} (h : SameBlocks s t) (g : SameBlocks t u) : SameBlocks s u := by
  obtain ⟨station, prover, points, runs⟩ := h
  obtain ⟨station', prover', points', runs'⟩ := g
  exact ⟨station'.trans station, prover'.trans prover, points'.trans points, runs'.trans runs⟩

theorem SameBlocks.of_judged {s t : State} (h : Judged s t) : SameBlocks s t := by
  unfold SameBlocks
  rw [h.store]
  exact ⟨rfl, rfl, rfl, rfl⟩

theorem SameBlocks.foldl {α : Type} (f : State → α → State) (one : ∀ s x, SameBlocks s (f s x)) (l : List α) (s : State) :
    SameBlocks s (l.foldl f s) := by
  induction l generalizing s with
  | nil => exact .refl s
  | cons x rest ih => exact (one s x).trans (ih _)

theorem judged_judgePeriod (closing : Bool) (figs : PerRun LastPeriod) (s : State) :
    Judged s (judgePeriod closing figs s) := by
  have runs : Judged s (allRuns.foldl (fun s r => judgeRunPeriod s r (figs.get r)) s) :=
    judged_foldl _ (fun s r => judged_foldl _ (fun _ _ => judged_judge _ _ _) _ _) _ _
  have water := runs.trans (judged_judge (.station .waterSubstituted) (decide (figs.r1.wStatus ≠ .good)) _)
  unfold judgePeriod
  dsimp only
  split
  · exact water.trans (judged_judge _ _ _)
  · exact water

theorem sameBlocks_creditRun (figs : PerRun LastPeriod) (s : State) (r : Run) : SameBlocks s (creditRun figs s r) := by
  rw [creditRun_frame]
  exact .refl s

/-- The state once a period has been judged and credited in every run (R53, R54), before its end is recorded. -/
def creditedState (closing : Bool) (pe : Nat) (s : State) : State :=
  let figs := PerRun.tab (periodFigures closing pe s)
  let judged := judgePeriod closing figs s
  allRuns.foldl (creditRun (flagFigures figs judged)) judged

theorem endPeriod_eq (closing : Bool) (pe : Nat) (s : State) :
    endPeriod closing pe s = ((creditedState closing pe s).withStore
      { (creditedState closing pe s).store with lastBoundary := (creditedState closing pe s).clock }).withTotalizer
      { (creditedState closing pe s).totalizer with unsound := PerRun.tab fun _ => false } := rfl

theorem sameBlocks_endPeriod (closing : Bool) (pe : Nat) (s : State) : SameBlocks s (endPeriod closing pe s) := by
  have credited : SameBlocks s (creditedState closing pe s) :=
    .trans (.of_judged (judged_judgePeriod _ _ s)) (.foldl _ (sameBlocks_creditRun _) _ _)
  rw [endPeriod_eq]
  generalize creditedState closing pe s = u at credited
  exact credited.trans ⟨rfl, rfl, rfl, rfl⟩

theorem sameBlocks_setMark (b : BlockId) (x : Bool) (s : State) : SameBlocks s (setMark b x s) := by
  cases b <;> exact .refl s

theorem sameBlocks_clearMark (b : BlockId) (s : State) : SameBlocks s (clearMark b s) := by
  have set := sameBlocks_setMark b false s
  unfold clearMark
  split
  · dsimp only
    split
    · exact set.trans (.of_judged (judged_judge _ _ _))
    · split
      · exact set
      · exact set.trans (.of_judged (judged_judge _ _ _))
  · exact .refl s

theorem sameBlocks_verifyBlock (b : BlockId) (s : State) : SameBlocks s (verifyBlock b s) := by
  unfold verifyBlock
  split
  · exact (sameBlocks_setMark b true s).trans (.of_judged (judged_judge _ _ _))
  · exact .refl s

theorem checkStability_frame (s : State) : checkStability s = s.setRecord (checkStability s).store.record := by
  unfold checkStability
  dsimp only
  repeat' split
  all_goals rfl

theorem sameBlocks_checkStability (s : State) : SameBlocks s (checkStability s) := by
  rw [checkStability_frame]
  exact .refl s

theorem sameBlocks_closeBatch (cause : CloseCause) (s : State) : SameBlocks s (closeBatch cause s) := by
  rw [closeBatch_frame]
  exact .refl s

theorem sameBlocks_startBatch (s : State) : SameBlocks s (startBatch s) := by
  rw [startBatch_frame]
  exact .refl s

theorem sameBlocks_compareNomination (s : State) : SameBlocks s (compareNomination s) := by
  unfold compareNomination
  split <;> exact .refl s

theorem sameBlocks_sequence (s : State) : SameBlocks s (Machine.sequence s).1 := by
  have compared := sameBlocks_compareNomination s
  unfold Machine.sequence
  dsimp only
  generalize compareNomination s = u at compared
  have closed : ∀ cause, SameBlocks s (judge (.station .ticketStoreFull) false (closeBatch cause (u.withChange .none))) :=
    fun cause => (compared.trans (sameBlocks_closeBatch cause (u.withChange .none))).trans (.of_judged (judged_judge _ _ _))
  split
  · exact compared.trans (sameBlocks_startBatch (u.withChange .none))
  · exact closed _
  · exact (closed _).trans (sameBlocks_startBatch _)
  · split
    · exact compared
    · split
      · split
        · exact (compared.trans (sameBlocks_closeBatch _ _)).trans (.of_judged (judged_judge _ _ _))
        · exact compared.trans (.of_judged (judged_judge _ _ _))
      · exact compared

theorem sameBlocks_applyCurve (s : State) (r : Run) : SameBlocks s (applyCurve s r) := by
  rw [applyCurve_frame]
  exact .refl s

theorem sameBlocks_applyService (s : State) (r : Run) : SameBlocks s (applyService s r) := by
  unfold applyService
  dsimp only
  split <;> exact .refl s

theorem judged_boundaryAbort (want : EndCause) (causes : List EndCause) (s : State) :
    Judged s (boundaryAbort want causes s) := by
  unfold boundaryAbort
  split
  · exact judged_abortRecord _ _
  · exact .refl s

theorem sameBlocks_nextConversion (s : State) : SameBlocks s (nextConversion s) := by
  unfold nextConversion
  split
  · exact .refl s
  · split
    · split <;> exact .refl s
    · split <;> exact .refl s

theorem sameBlocks_fixCounting (s : State) (r : Run) : SameBlocks s (fixCounting s r) := by
  unfold fixCounting
  dsimp only
  split
  · exact .refl s
  · unfold countingChanged
    split
    · exact .refl s
    · split <;> exact .refl s

theorem sameBlocks_beginPeriod (s : State) : SameBlocks s (beginPeriod s) :=
  .foldl _ sameBlocks_fixCounting _ _

/-! ### The applications -/

/-- A block's slot once its pending copy is applied (R162). -/
def takenSlot {α : Type} (code : α → Code) (x : Slot α) : Slot α :=
  match x.pending with
  | none => x
  | some y => { current := y, pending := none, code := code y }

theorem takenSlot_of_none {α : Type} {code : α → Code} {x : Slot α} (none_ : x.pending = none) : takenSlot code x = x := by
  unfold takenSlot
  rw [none_]

theorem takenSlot_of_some {α : Type} {code : α → Code} {x : Slot α} {y : α} (some_ : x.pending = some y) :
    takenSlot code x = { current := y, pending := none, code := code y } := by
  unfold takenSlot
  rw [some_]

theorem takenSlot_pending {α : Type} (code : α → Code) (x : Slot α) : (takenSlot code x).pending = none := by
  unfold takenSlot
  split
  · assumption
  · rfl

theorem takenSlot_current {α : Type} (code : α → Code) (x : Slot α) : (takenSlot code x).current = x.next := by
  unfold takenSlot Slot.next
  split
  next none_ => rw [none_]; rfl
  next some_ => rw [some_]; rfl

theorem takenSlot_next {α : Type} (code : α → Code) (x : Slot α) : (takenSlot code x).next = x.next := by
  rw [← takenSlot_current code x]
  unfold Slot.next
  rw [takenSlot_pending]
  rfl

theorem takenSlot_code {α : Type} (code : α → Code) (x : Slot α) :
    (takenSlot code x).code = (x.pending.map code).getD x.code := by
  unfold takenSlot
  split
  next none_ => rw [none_]; rfl
  next some_ => rw [some_]; rfl

/-- Every block has taken its pending copy. -/
def BlocksTaken (s t : State) : Prop :=
  t.store.station = takenSlot stationBlockCode s.store.station ∧
  t.store.prover = takenSlot proverBlockCode s.store.prover ∧
  t.store.points = takenSlot pointsBlockCode s.store.points ∧
  ∀ r, t.store.runBlocks.get r = takenSlot runBlockCode (s.store.runBlocks.get r)

theorem BlocksTaken.of_same {s s' t' t : State} (before : SameBlocks s s') (taken : BlocksTaken s' t')
    (after : SameBlocks t' t) : BlocksTaken s t := by
  obtain ⟨station, prover, points, runs⟩ := before
  obtain ⟨station', prover', points', runs'⟩ := taken
  obtain ⟨station'', prover'', points'', runs''⟩ := after
  exact ⟨station''.trans (station ▸ station'), prover''.trans (prover ▸ prover'), points''.trans (points ▸ points'),
    fun r => by rw [runs'', runs', runs]⟩

theorem applyStation_blocks (s : State) :
    (applyStation s).store.station = takenSlot stationBlockCode s.store.station ∧
    (applyStation s).store.prover = s.store.prover ∧ (applyStation s).store.points = s.store.points ∧
    (applyStation s).store.runBlocks = s.store.runBlocks := by
  unfold applyStation
  split
  next none_ => exact ⟨(takenSlot_of_none none_).symm, rfl, rfl, rfl⟩
  next x some_ =>
    rw [takenSlot_of_some some_]
    dsimp only
    generalize taken : State.withWork _ _ = u
    obtain ⟨station, rest⟩ := (SameBlocks.of_judged (judged_applyClasses s.stationBlock s.integrities u)).trans
      (sameBlocks_clearMark .station _)
    rw [station, ← taken]
    rw [← taken] at rest
    exact ⟨rfl, rest⟩

theorem applyProver_blocks (s : State) :
    (applyProver s).store.station = s.store.station ∧
    (applyProver s).store.prover = takenSlot proverBlockCode s.store.prover ∧
    (applyProver s).store.points = s.store.points ∧ (applyProver s).store.runBlocks = s.store.runBlocks := by
  unfold applyProver
  split
  next none_ => exact ⟨rfl, (takenSlot_of_none none_).symm, rfl, rfl⟩
  next x some_ =>
    rw [takenSlot_of_some some_]
    exact sameBlocks_clearMark .prover _

theorem applyPoints_blocks (s : State) :
    (applyPoints s).store.station = s.store.station ∧ (applyPoints s).store.prover = s.store.prover ∧
    (applyPoints s).store.points = takenSlot pointsBlockCode s.store.points ∧
    (applyPoints s).store.runBlocks = s.store.runBlocks := by
  unfold applyPoints
  split
  next none_ => exact ⟨rfl, rfl, (takenSlot_of_none none_).symm, rfl⟩
  next x some_ =>
    rw [takenSlot_of_some some_]
    exact SameBlocks.trans (sameBlocks_nextConversion _) (sameBlocks_clearMark .points _)

theorem applyRun_blocks (s : State) (r : Run) :
    (applyRun s r).store.station = s.store.station ∧ (applyRun s r).store.prover = s.store.prover ∧
    (applyRun s r).store.points = s.store.points ∧
    (applyRun s r).store.runBlocks = s.store.runBlocks.set r (takenSlot runBlockCode (s.store.runBlocks.get r)) := by
  unfold applyRun
  split
  next none_ =>
    rw [takenSlot_of_none none_]
    exact ⟨rfl, rfl, rfl, by cases r <;> rfl⟩
  next x some_ =>
    rw [takenSlot_of_some some_]
    dsimp only
    split
    · exact sameBlocks_clearMark (.run r) _
    · exact SameBlocks.trans (sameBlocks_clearMark (.run r) _) (.of_judged (judged_judge _ _ _))

theorem applyRuns_blocks (s : State) :
    (allRuns.foldl applyRun s).store.station = s.store.station ∧
    (allRuns.foldl applyRun s).store.prover = s.store.prover ∧
    (allRuns.foldl applyRun s).store.points = s.store.points ∧
    ∀ r, (allRuns.foldl applyRun s).store.runBlocks.get r = takenSlot runBlockCode (s.store.runBlocks.get r) := by
  obtain ⟨station1, prover1, points1, runs1⟩ := applyRun_blocks s .r1
  obtain ⟨station2, prover2, points2, runs2⟩ := applyRun_blocks (applyRun s .r1) .r2
  obtain ⟨station3, prover3, points3, runs3⟩ := applyRun_blocks (applyRun (applyRun s .r1) .r2) .r3
  obtain ⟨station4, prover4, points4, runs4⟩ := applyRun_blocks (applyRun (applyRun (applyRun s .r1) .r2) .r3) .r4
  refine ⟨?_, ?_, ?_, fun r => ?_⟩
  · exact station4.trans (station3.trans (station2.trans station1))
  · exact prover4.trans (prover3.trans (prover2.trans prover1))
  · exact points4.trans (points3.trans (points2.trans points1))
  · show (applyRun (applyRun (applyRun (applyRun s .r1) .r2) .r3) .r4).store.runBlocks.get r = _
    rw [runs4, runs3, runs2, runs1]
    cases r <;> rfl

theorem applyBlocks_taken (s : State) : BlocksTaken s (applyBlocks s) := by
  obtain ⟨station, prover, points, runs⟩ := applyStation_blocks s
  obtain ⟨station1, prover1, points1, runs1⟩ := applyProver_blocks (applyStation s)
  obtain ⟨station2, prover2, points2, runs2⟩ := applyPoints_blocks (applyProver (applyStation s))
  obtain ⟨station3, prover3, points3, runs3⟩ := applyRuns_blocks (applyPoints (applyProver (applyStation s)))
  refine ⟨?_, ?_, ?_, fun r => ?_⟩
  · exact station3.trans (station2.trans (station1.trans station))
  · exact prover3.trans (prover2.trans (prover1.trans (by rw [prover])))
  · exact points3.trans (points2.trans (by rw [points1, points]))
  · exact (runs3 r).trans (by rw [runs2, runs1, runs])

theorem applyAndVerify_taken (verifyFirst : Bool) (s : State) : BlocksTaken s (applyAndVerify verifyFirst s) := by
  unfold applyAndVerify
  dsimp only
  split
  · exact .of_same (sameBlocks_verifyBlock _ s) (applyBlocks_taken _) (.refl _)
  · exact .of_same (.refl s) (applyBlocks_taken s) (sameBlocks_verifyBlock _ _)

theorem deferredItems_taken (order : BoundaryOrder) (s : State) : BlocksTaken s (deferredItems order s) := by
  have before : SameBlocks s
      (allRuns.foldl applyService (allRuns.foldl applyCurve (Machine.sequence (checkStability s)).1)) :=
    (((sameBlocks_checkStability s).trans (sameBlocks_sequence _)).trans (.foldl _ sameBlocks_applyCurve _ _)).trans
      (.foldl _ sameBlocks_applyService _ _)
  unfold deferredItems
  dsimp only
  split
  · split
    · exact .of_same before (applyAndVerify_taken _ _) (.of_judged (judged_boundaryAbort _ _ _))
    · exact .of_same before (applyAndVerify_taken _ _) (.refl _)
  · exact .of_same (before.trans (.of_judged (judged_boundaryAbort _ _ _))) (applyAndVerify_taken _ _) (.refl _)

/-- A boundary leaves every block with its pending copy taken (R162). -/
theorem boundary_taken (closing : Bool) (pe : Nat) (order : BoundaryOrder) (s : State) :
    BlocksTaken s (boundary closing pe order s) :=
  .of_same (sameBlocks_endPeriod _ _ s) (deferredItems_taken _ _) (sameBlocks_beginPeriod _)

/-! ### Kinds of points -/

/-- The blocks agree with a table of setups on the kinds of the points they name (R160). -/
def Agree (setups : Vector PointSetup 16) (runs : Run → RunBlock) (prover : ProverBlock) (station : StationBlock) : Prop :=
  (∀ r, pointOfKind setups (runs r).tempPoint .temperature = true ∧
    pointOfKind setups (runs r).pressPoint .pressure = true) ∧
  (pointOfKind setups prover.tempPoint .temperature = true ∧ pointOfKind setups prover.pressPoint .pressure = true) ∧
  pointOfKind setups station.waterPoint .water = true

theorem kindsAgree_iff (setups : Vector PointSetup 16) (runs : Run → RunBlock) (prover : ProverBlock)
    (station : StationBlock) :
    kindsAgree setups ((allRuns.map fun r =>
        [((runs r).tempPoint, PointKind.temperature), ((runs r).pressPoint, PointKind.pressure)]).flatten ++
      [(prover.tempPoint, .temperature), (prover.pressPoint, .pressure), (station.waterPoint, .water)]) = true ↔
    Agree setups runs prover station := by
  have four : (∀ r : Run, pointOfKind setups (runs r).tempPoint .temperature = true ∧
      pointOfKind setups (runs r).pressPoint .pressure = true) ↔
      ∀ r ∈ allRuns, pointOfKind setups (runs r).tempPoint .temperature = true ∧
        pointOfKind setups (runs r).pressPoint .pressure = true :=
    ⟨fun all r _ => all r, fun all r => all r (mem_allRuns r)⟩
  unfold kindsAgree Agree
  rw [four]
  simp [allRuns, and_assoc]

/-- The blocks that will be in force agree. -/
def NextAgree (s : State) : Prop :=
  Agree s.store.points.next.setups (fun r => (s.store.runBlocks.get r).next) s.store.prover.next s.store.station.next

/-- The blocks in force agree. -/
def NowAgree (s : State) : Prop :=
  Agree s.store.points.current.setups (fun r => (s.store.runBlocks.get r).current) s.store.prover.current
    s.store.station.current

theorem kindsInv_iff (s : State) : KindsInv s ↔ NowAgree s ∧ NextAgree s :=
  and_congr (kindsAgree_iff _ _ _ _) (kindsAgree_iff _ _ _ _)

theorem kindsInv_of_sameBlocks {s t : State} (same : SameBlocks s t) (holds : KindsInv s) : KindsInv t := by
  obtain ⟨station, prover, points, runs⟩ := same
  rw [kindsInv_iff] at *
  unfold NowAgree NextAgree at *
  rwa [station, prover, points, runs]

theorem kindsInv_of_taken {s t : State} (taken : BlocksTaken s t) (holds : KindsInv s) : KindsInv t := by
  obtain ⟨-, next⟩ := (kindsInv_iff s).mp holds
  obtain ⟨station, prover, points, runs⟩ := taken
  rw [kindsInv_iff]
  unfold NowAgree NextAgree
  simp only [station, prover, points, runs, takenSlot_current, takenSlot_next]
  exact ⟨next, next⟩

theorem next_of_committed {α : Type} (x : Slot α) (y : α) : ({ x with pending := some y } : Slot α).next = y := rfl

/-- A points block whose conditions hold agrees with what is required of it (R160). -/
theorem agree_of_pointsConditions {s : State} {x : PointsBlock} (agree : NextAgree s)
    (ok : offending (pointsConditions s.requiredKinds x) = none) :
    Agree x.setups (fun r => (s.store.runBlocks.get r).next) s.store.prover.next s.store.station.next := by
  have was : kindsAgree s.store.points.next.setups s.requiredKinds = true := (kindsAgree_iff _ _ _ _).mpr agree
  refine (kindsAgree_iff _ _ _ _).mp (List.all_eq_true.mpr fun q named => ?_)
  have before : pointOfKind s.store.points.next.setups q.1 q.2 = true := List.all_eq_true.mp was q named
  have inside : q.1 < 16 := by
    refine Classical.byContradiction fun outside => ?_
    unfold pointOfKind at before
    rw [dif_neg outside] at before
    nomatch before
  unfold pointOfKind
  rw [dif_pos inside, decide_eq_true_iff]
  have entry : (x.setups[q.1], q.1) ∈ x.setups.toList.zipIdx := by
    rw [List.mem_iff_getElem?]
    exact ⟨q.1, by simp [inside]⟩
  have required : (s.requiredKinds.all fun p => decide (p.1 = q.1 → p.2 = x.setups[q.1].kind)) = true := by
    refine all_of_offending_none ok _ (List.mem_append_left _ (List.mem_flatten.mpr ⟨_, List.mem_map.mpr ⟨_, entry, rfl⟩, ?_⟩))
    unfold setupConditions
    exact List.mem_cons_self
  exact (of_decide_eq_true (List.all_eq_true.mp required q named) rfl).symm

theorem kindsInv_runCommitted {s : State} (holds : KindsInv s) (r : Run) {x : RunBlock}
    (ok : offending (runConditions s.store.points.next.setups x) = none) :
    KindsInv (s.withStore { s.store with
      runBlocks := s.store.runBlocks.set r { s.store.runBlocks.get r with pending := some x } }) := by
  obtain ⟨⟨nowRuns, nowRest⟩, ⟨runs, rest⟩⟩ := (kindsInv_iff s).mp holds
  have own : pointOfKind s.store.points.next.setups x.tempPoint .temperature = true ∧
      pointOfKind s.store.points.next.setups x.pressPoint .pressure = true :=
    ⟨all_of_offending_none ok _ (by simp [runConditions]), all_of_offending_none ok _ (by simp [runConditions])⟩
  refine (kindsInv_iff _).mpr ⟨⟨fun q => ?_, nowRest⟩, ⟨fun q => ?_, rest⟩⟩
  · by_cases same : q = r
    · subst same
      simpa using nowRuns q
    · simpa [PerRun.get_set_other _ _ _ _ same] using nowRuns q
  · by_cases same : q = r
    · subst same
      simpa [next_of_committed] using own
    · simpa [PerRun.get_set_other _ _ _ _ same] using runs q

theorem kindsInv_coded {s : State} (holds : KindsInv s) (b : BlockId) (c : Code) : KindsInv (setStoredCode b c s) := by
  cases b with
  | run r =>
    obtain ⟨⟨nowRuns, nowRest⟩, ⟨runs, rest⟩⟩ := (kindsInv_iff s).mp holds
    refine (kindsInv_iff _).mpr ⟨⟨fun q => ?_, nowRest⟩, ⟨fun q => ?_, rest⟩⟩
    · by_cases same : q = r
      · subst same
        simpa [setStoredCode] using nowRuns q
      · simpa [setStoredCode, PerRun.get_set_other _ _ _ _ same] using nowRuns q
    · by_cases same : q = r
      · subst same
        simpa [setStoredCode, Slot.next] using runs q
      · simpa [setStoredCode, PerRun.get_set_other _ _ _ _ same] using runs q
  | _ => exact holds

theorem Act.kindsInv {s t : State} (act : Act s t) (holds : KindsInv s) : KindsInv t := by
  have parts := (kindsInv_iff s).mp holds
  obtain ⟨now, next⟩ := parts
  obtain ⟨nextRuns, nextProver, nextWater⟩ := next
  cases act with
  | judged i on => exact kindsInv_of_sameBlocks (.of_judged (judged_judge i on s)) holds
  | lineRead => exact kindsInv_of_sameBlocks (.of_judged (judged_readLine s)) holds
  | holdEnded => exact kindsInv_of_sameBlocks (.of_judged (judged_holdEnded s)) holds
  | acknowledged d => exact kindsInv_of_sameBlocks (s := addAudit none d s) (.of_judged (judged_judge _ _ _)) holds
  | stationCommitted x ok =>
    have water : pointOfKind s.store.points.next.setups x.waterPoint .water = true :=
      all_of_offending_none ok _ (by simp [stationConditions])
    exact (kindsInv_iff _).mpr ⟨now, ⟨nextRuns, nextProver, water⟩⟩
  | proverCommitted x ok =>
    have named : pointOfKind s.store.points.next.setups x.tempPoint .temperature = true ∧
        pointOfKind s.store.points.next.setups x.pressPoint .pressure = true :=
      ⟨all_of_offending_none ok _ (by simp [proverConditions]), all_of_offending_none ok _ (by simp [proverConditions])⟩
    exact (kindsInv_iff _).mpr ⟨now, ⟨nextRuns, named, nextWater⟩⟩
  | pointsCommitted x ok =>
    have agree := agree_of_pointsConditions (s := s) ⟨nextRuns, nextProver, nextWater⟩ ok
    exact (kindsInv_iff _).mpr ⟨now, agree⟩
  | runCommitted r x ok => exact kindsInv_runCommitted holds r ok
  | coded b c => exact kindsInv_coded holds b c
  | closed cause => rw [closeBatch_frame]; exact holds
  | begun => rw [startBatch_frame]; exact holds
  | ticketReleased => rw [releaseOldest_frame]; exact holds
  | curveApplied r => rw [applyCurve_frame]; exact holds
  | detected d x => rw [setDetector_frame]; exact holds
  | credited figs r => rw [creditRun_frame]; exact holds
  | _ => exact holds

theorem kindsInv_factory : NowAgree (freshState 0 (factoryStore 0) State.reset) ∧
    NextAgree (freshState 0 (factoryStore 0) State.reset) :=
  ⟨(kindsAgree_iff _ _ _ _).mp (by decide), (kindsAgree_iff _ _ _ _).mp (by decide)⟩

theorem kindsInv_kept : Kept KindsInv := by
  refine kept_of_stages (fun _ _ holds => holds) fun s t stage holds => ?_
  cases stage with
  | act act => exact act.kindsInv holds
  | boundary => exact kindsInv_of_taken (boundary_taken _ _ _ s) holds
  | warm =>
    rw [warmStore_frame]
    exact holds
  | cold =>
    exact kindsInv_of_sameBlocks (s := freshState 0 (factoryStore 0) State.reset) ⟨rfl, rfl, rfl, rfl⟩
      ((kindsInv_iff _).mpr kindsInv_factory)
  | _ => exact holds

/-- Settles O58. -/
theorem blocksAndGradesKept : Obligations.BlocksAndGradesKept := ⟨kindsInv_kept, gradesInv_kept⟩

end Sys2Proof.Proofs
end

section
/-! The readouts: each handler answers the stated effect in every state, and effects_of_handler carries that to the frame.
A broadcast of a type that acts is carried by broadcastActs_of_handler. -/

namespace Sys2Proof.Proofs

open Sys2Proof Sys2Proof.Machine Sys2Proof.Safety Sys2Proof.Stated Sys2Proof.Laws

/-! ### Frames that are broadcast -/

/-- A broadcast of a type that acts has the effect its handler answers, and no reply (R184). -/
theorem broadcastActs_of_handler {i : Header → Instr} {dt type : Nat} {handler : State → State × Answer}
    {effect : State → Effect} (frame : ∀ h s, exec (i h) s = requestFrame dt h type true handler s)
    (answers : ∀ t, handler t = outcomeOf (effect t)) : BroadcastActs i dt effect := by
  intro h s listening all
  unfold Gives
  rw [frame, requestFrame_broadcast dt h type true handler s (ready_of_listening listening) all,
    advance_of_listening listening, frameEnds_later, if_pos rfl, answers]
  rfl

theorem broadcastIgnored_of_handler {i : Header → Instr} {dt type : Nat} {handler : State → State × Answer}
    (frame : ∀ h s, exec (i h) s = requestFrame dt h type false handler s) : BroadcastIgnored i dt := by
  intro h s listening all
  unfold Gives
  rw [frame, requestFrame_broadcast dt h type false handler s (ready_of_listening listening) all,
    advance_of_listening listening, frameEnds_later]
  rfl

/-! ### Effects that test -/

/-- A reading request's part of a stream (R199). -/
theorem outcomeOf_partOf (x : List Byte) (p : Nat) (t : State) : outcomeOf (partOf x p t) = Machine.read x p t := by
  unfold partOf Machine.read partBody
  dsimp only
  by_cases inside : p ≤ (x.length - 1) / 238
  · rw [if_pos inside, if_neg (Nat.not_lt.mpr inside), outcomeOf_done]
  · rw [if_neg inside, if_pos (Nat.lt_of_not_le inside)]
    rfl

theorem outcomeOf_onRun (run : Nat) (t : State) (e : Run → Effect) :
    outcomeOf (onRun run t e) = match runOf run with
      | none => refuse t .badField
      | some r => outcomeOf (e r) := by
  unfold onRun
  cases runOf run <;> rfl

/-! ### The metering blocks -/

theorem reqPlsg_answers (run part : Nat) (t : State) :
    reqPlsg run part t = outcomeOf (onRun run t fun r => partOf (plsgStream r t) part t) := by
  simp only [outcomeOf_onRun, outcomeOf_partOf]
  rfl

theorem reqPrdg_answers (n part : Nat) (t : State) :
    reqPrdg (some n) part t = outcomeOf
      (if p : n < 16 then partOf (prdgStream (some ⟨n, p⟩) t) part t else refusal t .badField) := by
  unfold reqPrdg pointNamed
  by_cases p : n < 16
  · simp only [p, dif_pos, outcomeOf_partOf]
  · simp only [p, dif_neg, not_false_eq_true, outcomeOf_refusal]

theorem reqTotg_answers (run part : Nat) (t : State) :
    reqTotg (some run) part t = outcomeOf (onRun run t fun r => partOf (totgStream (some r) t) part t) := by
  simp only [outcomeOf_onRun, outcomeOf_partOf]
  rfl

theorem reqSnpg_answers (part : Nat) (t : State) :
    reqSnpg part t = outcomeOf (match t.store.snapshot with
      | none => refusal t .notFound
      | some x => partOf (encodeSnapshot x) part t) := by
  unfold reqSnpg
  rcases t.store.snapshot with _ | x
  · rfl
  · exact (outcomeOf_partOf _ _ _).symm

theorem reqGget_answers (g part : Nat) (t : State) :
    reqGget (some g) part t = outcomeOf
      (if 1 ≤ g ∧ g ≤ 16 then partOf (ggetStream (some g) t) part t else refusal t .badField) := by
  rw [outcomeOf_ite, outcomeOf_partOf]
  rfl

theorem ticketNumberValid_iff (n : Nat) : ticketNumberValid n = true ↔ 1 ≤ n ∧ n ≤ 999999999999 := decide_eq_true_iff

theorem reqTget_answers (n part : Nat) (t : State) :
    reqTget (some n) part t = outcomeOf
      (if 1 ≤ n ∧ n ≤ 999999999999 then
        match findTicket n t with
        | none => refusal t .notFound
        | some x => partOf (num 1 x.1 ++ encodeTicket x.2) part t
      else refusal t .badField) := by
  rw [outcomeOf_ite, outcomeOf_refusal]
  unfold reqTget
  simp only [ticketNumberValid_iff]
  congr 1
  cases findTicket n t with
  | none => rfl
  | some x => exact (outcomeOf_partOf _ _ _).symm

/-- Settles O5: every handler reads the stated stream and leaves the state. -/
theorem meteringReadouts : Obligations.MeteringReadouts := by
  refine ⟨?_, ?_, ?_, ?_, ?_, ?_, ?_, ?_, ?_, ?_, ?_⟩
  · exact fun dt h run part s taken => effects_of_handler taken rfl (reqPlsg_answers run part)
  · exact fun dt h part s taken => effects_of_handler taken rfl fun t => (outcomeOf_partOf _ part t).symm
  · exact fun dt h n part s taken => effects_of_handler taken rfl (reqPrdg_answers n part)
  · exact fun dt h part s taken => effects_of_handler taken rfl fun t => (outcomeOf_partOf _ part t).symm
  · exact fun dt h run part s taken => effects_of_handler taken rfl (reqTotg_answers run part)
  · exact fun dt h part s taken => effects_of_handler taken rfl (reqSnpg_answers part)
  · exact fun dt h part s taken => effects_of_handler taken rfl fun t => (outcomeOf_partOf _ part t).symm
  · exact fun dt h g part s taken => effects_of_handler taken rfl (reqGget_answers g part)
  · exact fun dt h part s taken => effects_of_handler taken rfl fun t => (outcomeOf_partOf _ part t).symm
  · exact fun dt h part s taken => effects_of_handler taken rfl fun t => (outcomeOf_partOf _ part t).symm
  · exact fun dt h n part s taken => effects_of_handler taken rfl (reqTget_answers n part)

/-! ### The other blocks -/

theorem reqPget_answers (n part : Nat) (t : State) :
    reqPget (some n) part t = outcomeOf (match findRecord n t with
      | none => refusal t .notFound
      | some x => partOf (encodeRecord x.1 x.2) part t) := by
  unfold reqPget
  dsimp only
  rcases findRecord n t with _ | x
  · rfl
  · exact (outcomeOf_partOf _ _ _).symm

theorem reqMfgt_answers (run q part : Nat) (t : State) :
    reqMfgt run (some q) part t = outcomeOf (onRun run t fun r =>
      if q ≤ 999999 then partOf (mfgtStream r (some q) t) part t else refusal t .badField) := by
  simp only [outcomeOf_onRun, outcomeOf_ite, outcomeOf_partOf, outcomeOf_refusal]
  unfold reqMfgt lookupRateValid
  simp only [decide_eq_true_iff] <;> rfl

theorem reqMfgt_whole_answers (run part : Nat) (t : State) :
    reqMfgt run none part t = outcomeOf (onRun run t fun r => partOf (mfgtStream r none t) part t) := by
  simp only [outcomeOf_onRun, outcomeOf_partOf]
  rfl

theorem reqCndg_answers (n part : Nat) (t : State) :
    reqCndg (some n) part t = outcomeOf
      (if n = 0 then partOf (cndgStationStream t) part t else onRun n t fun r => partOf (cndgRunStream r t) part t) := by
  simp only [outcomeOf_ite, outcomeOf_onRun, outcomeOf_partOf]
  rfl

theorem reqCget_answers (block copy part : Nat) (t : State) :
    reqCget block copy part t = outcomeOf (match blockOf block, copyOf copy with
      | some b, some c =>
        if b = .grades ∧ c ≠ .current then refusal t .badField
        else
          match cgetStream b c t with
          | none => refusal t .notFound
          | some x => partOf x part t
      | _, _ => refusal t .badField) := by
  unfold reqCget namedCopy
  rcases blockOf block with _ | b
  · rfl
  · rcases copyOf copy with _ | c
    · cases b <;> rfl
    · have read : (match cgetStream b c t with
          | none => refuse t .notFound
          | some x => Machine.read x part t) = outcomeOf (match cgetStream b c t with
          | none => refusal t .notFound
          | some x => partOf x part t) := by
        split
        · rfl
        · exact (outcomeOf_partOf _ _ _).symm
      by_cases noCopy : b = .grades ∧ c ≠ .current
      · obtain ⟨rfl, notCurrent⟩ := noCopy
        cases c with
        | current => exact absurd rfl notCurrent
        | _ => rfl
      · dsimp only
        rw [if_neg noCopy, ← read]
        cases b with
        | grades =>
          obtain rfl : c = .current := by simpa using noCopy
          rfl
        | _ => rfl

theorem reqAget_answers (n part : Nat) (t : State) :
    reqAget (some n) part t = outcomeOf (match t.store.audit.find? fun e => decide (e.seq.toNat = n) with
      | none => refusal t .notFound
      | some e => partOf (encodeAuditEntry e) part t) := by
  unfold reqAget State.auditEntry
  dsimp only
  rcases t.store.audit.find? _ with _ | e
  · rfl
  · exact (outcomeOf_partOf _ _ _).symm

theorem reqStat_answers (part : Nat) (t : State) :
    reqStat part t = outcomeOf (if part ≤ ((statStream t).length - 1) / 238 then
        { partOf (statStream t) part t with
          state := t.withLink { t.link with fault := .none, faultTime := none, faultCount := 0 } }
      else refusal t .badField) := by
  unfold reqStat partBody partOf
  dsimp only
  by_cases inside : part ≤ ((statStream t).length - 1) / 238
  · rw [if_neg (Nat.not_lt.mpr inside), if_pos inside, if_pos inside]
    rfl
  · rw [if_pos (Nat.lt_of_not_le inside), if_neg inside]
    rfl

/-- Settles O6: every handler reads the stated stream; STAT clears the fault record it reports. -/
theorem controlReadouts : Obligations.ControlReadouts := by
  refine ⟨?_, ?_, ?_, ?_, ?_, ?_, ?_, ?_, ?_, ?_⟩
  · exact fun dt h part s taken => effects_of_handler taken rfl fun t => (outcomeOf_partOf _ part t).symm
  · exact fun dt h n part s taken => effects_of_handler taken rfl (reqPget_answers n part)
  · exact fun dt h run part s taken => effects_of_handler taken rfl (reqMfgt_whole_answers run part)
  · exact fun dt h run q part s taken => effects_of_handler taken rfl (reqMfgt_answers run q part)
  · exact fun dt h part s taken => effects_of_handler taken rfl fun t => (outcomeOf_partOf _ part t).symm
  · exact fun dt h n part s taken => effects_of_handler taken rfl (reqCndg_answers n part)
  · exact fun dt h block copy part s taken => effects_of_handler taken rfl (reqCget_answers block copy part)
  · exact fun dt h part s taken => effects_of_handler taken rfl fun t => (outcomeOf_partOf _ part t).symm
  · exact fun dt h n part s taken => effects_of_handler taken rfl (reqAget_answers n part)
  · exact fun dt h part s taken => effects_of_handler taken rfl (reqStat_answers part)

end Sys2Proof.Proofs
end

section
/-! The requests of the metering blocks, of grades, batches and tickets: each handler answers the stated effect. -/

namespace Sys2Proof.Proofs

open Sys2Proof Sys2Proof.Machine Sys2Proof.Safety Sys2Proof.Stated Sys2Proof.Laws

/-- Settles O1: both are the definition of a step. -/
theorem stepTakesTheFrontCommand : Obligations.StepTakesTheFrontCommand := by
  refine ⟨fun c rest s => rfl, fun s empty => ?_⟩
  unfold step
  rw [empty]

/-! ### The metering blocks -/

theorem reqFtst_answers (run : Nat) (t : State) :
    reqFtst run t = outcomeOf (onRun run t fun r =>
      if (t.runPulse r).testMark then refusal t .badState
      else done (t.setRunPulse r { t.runPulse r with testMark := true }) []) := by
  simp only [outcomeOf_onRun, outcomeOf_ite, outcomeOf_refusal, outcomeOf_done]
  rfl

theorem reqSubs_answers (n : Nat) (v : Int) (t : State) :
    reqSubs n v t = outcomeOf
      (if p : n < 16 then
        let u := t.setup ⟨n, p⟩
        if v < u.validLow ∨ u.validHigh < v then refusal t .badField
        else if entryFree t then
          done
            (audited none (.substituteSet n (ofMilliTo u.kind t.store.substitutes[n]) v)
              (t.withStore { t.store with substitutes := t.store.substitutes.set n (toMilli u.kind v) })) []
        else refusal t .auditFull
      else refusal t .badField) := by
  unfold reqSubs pointNamed
  by_cases p : n < 16
  · simp only [p, dif_pos, outcomeOf_ite, outcomeOf_refusal, outcomeOf_done, entryFree_eq_auditFree, audited_eq_addAudit]
    rfl
  · simp only [p, dif_neg, not_false_eq_true, outcomeOf_refusal]

/-- Settles O8: the two handlers answer the stated effects. -/
theorem ftstAndSubs : Obligations.FtstAndSubs :=
  ⟨fun _ _ run _ taken => effects_of_handler taken rfl (reqFtst_answers run),
    fun _ _ n v _ taken => effects_of_handler taken rfl (reqSubs_answers n v)⟩

theorem reqTset_answers (time : Nat) (t : State) :
    reqTset time t = outcomeOf
      (if time ≤ 3155759999 then
        if entryFree t then
          done (((audited none (.timeSet t.clock time) t).withClock time).withTotalizer
            { t.totalizer with clockSet := some t.counter }) []
        else refusal t .auditFull
      else refusal t .badField) := by
  simp only [outcomeOf_ite, outcomeOf_refusal, outcomeOf_done]
  unfold reqTset
  by_cases low : time ≤ 3155759999
  · rw [if_pos low, if_neg (Nat.not_lt.mpr low)]
    rfl
  · rw [if_neg low, if_pos (Nat.lt_of_not_le low)]

/-- Settles O9: the handler answers the stated effect, to the part's own frame and to a broadcast alike. -/
theorem tsetSetsTheClock : Obligations.TsetSetsTheClock :=
  ⟨fun _ _ time _ taken => effects_of_handler taken rfl (reqTset_answers time),
    fun _ time => broadcastActs_of_handler (fun _ _ => rfl) (reqTset_answers time)⟩

/-- Settles O10: the captured record is the stated one. -/
theorem snapCapturesTheTotals : Obligations.SnapCapturesTheTotals :=
  ⟨fun _ _ _ taken => effects_of_handler taken rfl fun _ => rfl,
    fun _ => broadcastActs_of_handler (handler := reqSnap) (fun _ _ => rfl) fun _ => rfl⟩

/-! ### Grades, batches and tickets -/

theorem gradeFieldsValid_iff (name : List Byte) (alpha f rho : Nat) :
    gradeFieldsValid name alpha f rho = true ↔
      name.length ≤ 12 ∧ name.all printable = true ∧ (1000 ≤ alpha ∧ alpha ≤ 20000 ∧ alpha % 10 = 0) ∧
        (100 ≤ f ∧ f ≤ 2000) ∧ (6000 ≤ rho ∧ rho ≤ 11000) := by
  unfold gradeFieldsValid inRange
  simp only [Bool.and_eq_true, decide_eq_true_iff, and_assoc]
  refine and_congr_right fun _ => and_congr_right fun _ => ?_
  omega

theorem reqGset_answers (g : Nat) (name : List Byte) (alpha f rho : Nat) (t : State) :
    reqGset g name alpha f rho t = outcomeOf
      (if p : 1 ≤ g ∧ g ≤ 16 then
        if name.length ≤ 12 ∧ name.all printable = true ∧ (1000 ≤ alpha ∧ alpha ≤ 20000 ∧ alpha % 10 = 0) ∧
            (100 ≤ f ∧ f ≤ 2000) ∧ (6000 ≤ rho ∧ rho ≤ 11000) then
          if t.gradeInUse g then refusal t .gradeInUse
          else if entryFree t then
            let e : GradeEntry :=
              { name := name, alpha := alpha, f := f, rho := rho, code := gradeEntryCode name alpha f rho }
            let table := t.store.grades.set (g - 1) (some e) (by omega)
            done
              (clearMark .grades (audited none (.gradeSet g t.store.gradesCode (gradesContentsCode table))
                (t.withStore { t.store with grades := table, gradesCode := gradesContentsCode table }))) []
          else refusal t .auditFull
        else refusal t .badField
      else refusal t .badField) := by
  unfold reqGset
  by_cases p : 1 ≤ g ∧ g ≤ 16
  · have number : g - 1 + 1 = g := by omega
    simp only [p, and_self, dif_pos, outcomeOf_ite, outcomeOf_refusal, outcomeOf_done, entryFree_eq_auditFree, audited_eq_addAudit,
      gradeFieldsValid_iff, setGrade, number]
  · simp only [dif_neg p, outcomeOf_refusal]

/-- Settles O12: the handler makes the stated tests and sets the stated entry. -/
theorem gsetSetsTheGrade : Obligations.GsetSetsTheGrade :=
  fun _ _ g name alpha f rho _ taken => effects_of_handler taken rfl (reqGset_answers g name alpha f rho)

/-- Settles O15: the handler makes the stated tests. -/
theorem bstaReservesTheHead : Obligations.BstaReservesTheHead := by
  refine fun dt h s taken => effects_of_handler taken rfl fun t => ?_
  rw [outcomeOf_ite, outcomeOf_refusal]
  unfold reqBsta
  congr 1
  cases t.store.queue <;> rfl

/-- The oldest ticket gone and the held one moved in (R90, R91). -/
theorem releaseOldest_cons {t : State} {x : Ticket} {rest : List Ticket} (slots : t.store.slots = x :: rest) :
    releaseOldest t = t.withStore { t.store with slots := rest ++ t.store.held.toList, held := none } := by
  unfold releaseOldest
  rw [slots]
  rcases held : t.store.held with _ | y
  · dsimp only
    rw [Option.toList_none, List.append_nil, ← held]
  · rfl

theorem findTicket_isSome (n : Nat) (t : State) :
    (findTicket n t).isSome = ((t.store.slots ++ t.store.held.toList).any fun y => decide (y.number = n)) := by
  unfold findTicket
  rw [List.any_append]
  rcases found : t.store.slots.find? fun y => decide (y.number = n) with _ | y
  · have noSlot : (t.store.slots.any fun y => decide (y.number = n)) = false := by
      rw [List.any_eq_false]
      exact List.find?_eq_none.mp found
    rw [found, noSlot, Bool.false_or]
    rcases t.store.held with _ | z
    · rfl
    · by_cases own : z.number = n <;> simp [own]
  · have slot : (t.store.slots.any fun y => decide (y.number = n)) = true :=
      List.any_eq_true.mpr ⟨y, List.mem_of_find?_eq_some found, by simpa using List.find?_some found⟩
    rw [found, slot, Bool.true_or]
    rfl

theorem reqTrel_answers (n : Nat) (t : State) :
    reqTrel n t = outcomeOf
      (if 1 ≤ n ∧ n ≤ 999999999999 then
        match t.store.slots with
        | [] => refusal t .notFound
        | x :: rest =>
          if x.number = n then
            let slots := rest ++ t.store.held.toList
            done (t.withStore { t.store with slots := slots, held := none })
              (optional 5 (slots.head?.map fun y => num 5 y.number))
          else if (rest ++ t.store.held.toList).any fun y => decide (y.number = n) then
            { status := .notOldest, body := num 5 x.number, state := t }
          else refusal t .notFound
      else refusal t .badField) := by
  rw [outcomeOf_ite, outcomeOf_refusal]
  unfold reqTrel
  simp only [ticketNumberValid_iff, findTicket_isSome]
  congr 1
  rcases slots : t.store.slots with _ | ⟨x, rest⟩
  · rfl
  · simp only [outcomeOf_ite, outcomeOf_refusal, outcomeOf_done, releaseOldest_cons slots]
    by_cases oldest : x.number = n
    · rw [if_pos oldest, if_pos oldest]
      rfl
    · have others : ((x :: rest ++ t.store.held.toList).any fun y => decide (y.number = n)) =
          ((rest ++ t.store.held.toList).any fun y => decide (y.number = n)) := by
        rw [List.cons_append, List.any_cons, decide_eq_false oldest, Bool.false_or]
      rw [if_neg oldest, if_neg oldest, others]
      rfl

/-- Settles O17: the handler's release is the stated one, and its search the stated one in the slots and the held
record. -/
theorem trelReleasesTheOldest : Obligations.TrelReleasesTheOldest :=
  fun _ _ n _ taken => effects_of_handler taken rfl (reqTrel_answers n)

end Sys2Proof.Proofs
end

section
/-! The requests of proving, curves, conditions, the audit trail and the restart: each handler answers the stated effect. -/

namespace Sys2Proof.Proofs

open Sys2Proof Sys2Proof.Machine Sys2Proof.Safety Sys2Proof.Stated Sys2Proof.Laws

/-! ### The arbiter (R101) -/

theorem grant_of_not_free {t : State}
    (not : t.store.proverEnabled = false ∨ t.store.record ≠ none ∨ t.requests = []) : grant t = t := by
  unfold grant
  rcases not with off | held | none_
  · rw [off]
    rfl
  · rw [Option.isNone_eq_false_iff.mpr (Option.isSome_iff_ne_none.mpr held), Bool.and_false]
    rfl
  · rw [none_]
    split <;> rfl

theorem grant_of_free {t : State} (enabled : t.store.proverEnabled = true) (free : t.store.record = none) :
    grant t = grantFrom t.requests t := by
  unfold grant
  rw [enabled, free]
  rfl

/-- The record of R102 opened, and the next request tried where its run is FAILED or CLOSED (R101). -/
theorem grant_cons {q : ProvingRequest} {rest : List ProvingRequest} {t : State}
    (enabled : t.store.proverEnabled = true) (free : t.store.record = none) (head : t.requests = q :: rest) :
    grant t =
      if t.integrity q.run = .failed then grant (filed .aborted .runFailed (openedRecord q t) (openRecord q rest t))
      else if (t.store.runs.get q.run).service = .closed then
        grant (filed .aborted .runClosed (openedRecord q t) (openRecord q rest t))
      else openRecord q rest t := by
  have again : ∀ cause, grantFrom rest (abortRecord cause (openRecord q rest t)) =
      grant (filed .aborted cause (openedRecord q t) (openRecord q rest t)) := fun cause => by
    rw [abortRecord_of_record (x := openedRecord q t) (by rfl) cause, grant_of_free (by exact enabled) (by rfl)]
    rfl
  rw [grant_of_free enabled free, head]
  unfold grantFrom
  dsimp only
  rw [again, again]

/-- A record that an event has ended lets the next request be granted (R101). -/
theorem settle_of_ended {s t : State} {x : ProvingRecord} (held : s.store.record = some x)
    (free : t.store.record = none) : settle s t = grant t := by
  unfold settle
  rw [held, free]
  rfl

/-! ### PREQ -/

theorem provingFieldsValid_iff (rounds attempts limit : Nat) :
    provingFieldsValid rounds attempts limit = true ↔
      (2 ≤ rounds ∧ rounds ≤ 10) ∧ (rounds ≤ attempts ∧ attempts ≤ 20) ∧ (1 ≤ limit ∧ limit ≤ 50) := by
  unfold provingFieldsValid
  simp only [Bool.and_eq_true, decide_eq_true_iff, and_assoc]

theorem hasRecord_eq_proves (s : State) (r : Run) : s.hasRecord r = proves s.store.record r := by
  unfold State.hasRecord proves
  cases s.store.record <;> rfl

theorem provings_ne_zero_iff (s : State) (r : Run) :
    provings s r ≠ 0 ↔ (s.hasRequest r || s.hasRecord r || s.hasResult r) = true := by
  have request : (s.requests.filter fun q => decide (q.run = r)).length ≠ 0 ↔ s.hasRequest r = true := by
    rw [← Nat.pos_iff_ne_zero, List.length_pos_iff_exists_mem]
    simp [State.hasRequest]
  have bit : ∀ b : Bool, b.toNat ≠ 0 ↔ b = true := by decide
  rw [provings_eq, Bool.or_eq_true, Bool.or_eq_true, ← request, hasRecord_eq_proves, ← bit, State.hasResult, ← bit]
  omega

theorem reqPreq_answers (run rounds attempts limit : Nat) (t : State) :
    reqPreq run rounds attempts limit t = outcomeOf (onRun run t fun r =>
      if (2 ≤ rounds ∧ rounds ≤ 10) ∧ (rounds ≤ attempts ∧ attempts ≤ 20) ∧ (1 ≤ limit ∧ limit ≤ 50) then
        if (t.store.runs.get r).service = .closed ∨ t.integrity r = .failed then refusal t .badState
        else if provings t r ≠ 0 then refusal t .duplicate
        else
          let q : ProvingRequest :=
            { run := r, rounds := rounds, attempts := attempts, limit := limit, queued := t.clock }
          let u := grant (t.withRequests (t.requests ++ [q]))
          done u (optNat 4 (grantedNumber r t u))
      else refusal t .badField) := by
  simp only [outcomeOf_onRun, outcomeOf_ite, outcomeOf_refusal, outcomeOf_done, provings_ne_zero_iff]
  unfold reqPreq
  simp only [provingFieldsValid_iff] <;> rfl

/-- Settles O18: the handler makes the stated tests, and the arbiter grants as grant_cons says. -/
theorem preqQueuesAndIsGranted : Obligations.PreqQueuesAndIsGranted := by
  refine ⟨fun dt h run rounds attempts limit s taken =>
      effects_of_handler taken rfl (reqPreq_answers run rounds attempts limit), fun q rest t enabled free head => ?_,
    fun t not => grant_of_not_free not⟩
  have granted := grant_cons enabled free head
  refine ⟨fun sound serving => ?_, fun failed => ?_, fun sound closed => ?_⟩
  · rw [granted, if_neg sound, if_neg serving]
    rfl
  · rw [granted, if_pos failed]
    rfl
  · rw [granted, if_neg sound, if_pos closed]
    rfl

/-! ### PCAN, PALN, PENA and PDIS -/

theorem reqPcan_answers (run : Nat) (t : State) :
    reqPcan run t = outcomeOf (onRun run t fun r =>
      if t.requests.any fun q => decide (q.run = r) then
        done (t.withRequests (t.requests.filter fun q => decide (q.run ≠ r))) []
      else
        match t.store.record with
        | some x =>
          if x.request.run = r then done (grant (filed .aborted .cancelled x t)) []
          else if (t.store.results.get r).isSome then refusal t .badState
          else refusal t .notFound
        | none => if (t.store.results.get r).isSome then refusal t .badState else refusal t .notFound) := by
  rw [outcomeOf_onRun]
  unfold reqPcan
  cases runOf run with
  | none => rfl
  | some r =>
    dsimp only
    rw [outcomeOf_ite, outcomeOf_done]
    unfold State.hasRequest State.hasRecord State.hasResult
    congr 1
    rcases held : t.store.record with _ | x
    · dsimp only
      rw [outcomeOf_ite]
      rfl
    · have ended : settle t (abortRecord .cancelled t) = grant (filed .aborted .cancelled x t) := by
        rw [abortRecord_of_record held, settle_of_ended held (by rfl)]
      simp only [outcomeOf_ite, outcomeOf_done, outcomeOf_refusal, ended, decide_eq_true_iff]

theorem reqPaln_answers (run : Nat) (t : State) :
    reqPaln run t = outcomeOf (onRun run t fun r =>
      match t.store.record with
      | some x =>
        if x.request.run = r ∧ x.state = .aligning then
          done (t.withStore { t.store with record := some { x with state := .armed, timerStart := t.counter } }) []
        else refusal t .badState
      | none => refusal t .badState) := by
  rw [outcomeOf_onRun]
  unfold reqPaln
  cases runOf run with
  | none => rfl
  | some r =>
    dsimp only
    rcases t.store.record with _ | x
    · rfl
    · dsimp only
      rw [outcomeOf_ite]
      rfl

theorem reqPdis_answers (t : State) :
    reqPdis t = outcomeOf (if t.store.record ≠ none then refusal t .badState
      else done (t.withStore { t.store with proverEnabled := false }) []) := by
  rw [outcomeOf_ite]
  unfold reqPdis
  simp only [← Option.isSome_iff_ne_none]
  rfl

/-- Settles O19: the four handlers answer the stated effects. -/
theorem proverRequests : Obligations.ProverRequests :=
  ⟨fun _ _ run _ taken => effects_of_handler taken rfl (reqPcan_answers run),
    fun _ _ run _ taken => effects_of_handler taken rfl (reqPaln_answers run),
    fun _ _ _ taken => effects_of_handler taken rfl fun _ => rfl,
    fun _ _ _ taken => effects_of_handler taken rfl reqPdis_answers⟩

/-! ### Results and curves -/

theorem confirmRefusal_eq (deviating confirm : Bool) :
    confirmRefusal deviating (some confirm) =
      if deviating = true ∧ confirm = false then some .deviationUnconfirmed else none := by
  cases deviating <;> cases confirm <;> rfl

theorem reqPacc_answers (run : Nat) (confirm : Bool) (t : State) :
    reqPacc run (some confirm) t = outcomeOf (onRun run t fun r =>
      match t.store.results.get r with
      | none => refusal t .notFound
      | some x =>
        match x.result with
        | none => refusal t .notFound
        | some res =>
          if res.deviating = true ∧ confirm = false then refusal t .deviationUnconfirmed
          else if entryFree t then
            let point : CurvePoint :=
              { rate := res.rate, mf := res.mf.toNat, origin := x.number, date := res.time / 86400 * 86400 }
            match place (t.workingCurve r) point with
            | none => refusal t .curveFull
            | some pl =>
              done
                (decided r x .accepted
                  (audited (some r) (.curveChange pl.replaced pl.removed (some point) (t.cumulativeGSV r))
                    (t.withStore { t.store with pendingCurves := t.store.pendingCurves.set r (some pl.curve) })))
                (num 4 x.number)
          else refusal t .auditFull) := by
  rw [outcomeOf_onRun]
  unfold reqPacc
  cases runOf run with
  | none => rfl
  | some r =>
    dsimp only
    rcases t.store.results.get r with _ | x
    · rfl
    · dsimp only
      rcases x.result with _ | res
      · rfl
      · dsimp only
        rw [confirmRefusal_eq, outcomeOf_ite, outcomeOf_ite]
        by_cases unconfirmed : res.deviating = true ∧ confirm = false
        · rw [if_pos unconfirmed, if_pos unconfirmed]
          rfl
        · rw [if_neg unconfirmed, if_neg unconfirmed, entryFree_eq_auditFree]
          dsimp only
          congr 1
          unfold offerPoint resultPoint dateOf
          rcases place _ _ with _ | pl <;> rfl

/-- The point a host enters (R135). -/
theorem reqMfsp_answers (run rate mf : Nat) (t : State) :
    reqMfsp run rate mf t = outcomeOf (onRun run t fun r =>
      if (1 ≤ rate ∧ rate ≤ 999999) ∧ (8000 ≤ mf ∧ mf ≤ 12000) then
        if entryFree t then
          let point : CurvePoint := { rate := rate, mf := mf, origin := 0, date := t.clock / 86400 * 86400 }
          match place (t.workingCurve r) point with
          | none => refusal t .curveFull
          | some pl =>
            done
              (audited (some r) (.curveChange pl.replaced pl.removed (some point) (t.cumulativeGSV r))
                (t.withStore { t.store with pendingCurves := t.store.pendingCurves.set r (some pl.curve) }))
              (num 1 (if pl.replaced = none then 0 else 1) ++ num 1 pl.curve.length)
        else refusal t .auditFull
      else refusal t .badField) := by
  rw [outcomeOf_onRun]
  unfold reqMfsp
  cases runOf run with
  | none => rfl
  | some r =>
    dsimp only
    rw [outcomeOf_ite, outcomeOf_ite, entryFree_eq_auditFree, outcomeOf_refusal, outcomeOf_refusal]
    simp only [and_assoc]
    congr 2
    unfold offerPoint dateOf
    rcases place _ _ with _ | pl
    · rfl
    · rcases pl with ⟨curve, replaced, removed⟩
      rcases replaced with _ | p <;> rfl

theorem reqMfdp_answers (run rate : Nat) (t : State) :
    reqMfdp run rate t = outcomeOf (onRun run t fun r =>
      match (t.workingCurve r).find? fun p => decide (p.rate = rate) with
      | none => refusal t .notFound
      | some p =>
        if entryFree t then
          let c := (t.workingCurve r).filter fun p => decide (p.rate ≠ rate)
          done
            (audited (some r) (.curveChange (some p) none none (t.cumulativeGSV r))
              (t.withStore { t.store with pendingCurves := t.store.pendingCurves.set r (some c) }))
            (num 1 c.length)
        else refusal t .auditFull) := by
  rw [outcomeOf_onRun]
  unfold reqMfdp
  cases runOf run with
  | none => rfl
  | some r =>
    dsimp only
    rcases (t.workingCurve r).find? _ with _ | p
    · rfl
    · dsimp only
      rw [outcomeOf_ite, entryFree_eq_auditFree]
      rfl

/-- Settles O20: the two handlers answer the stated effects. -/
theorem paccAndPrejDecide : Obligations.PaccAndPrejDecide := by
  refine ⟨fun dt h run confirm s taken => effects_of_handler taken rfl (reqPacc_answers run confirm),
    fun dt h run s taken => effects_of_handler taken rfl fun t => ?_⟩
  rw [outcomeOf_onRun]
  unfold reqPrej
  cases runOf run with
  | none => rfl
  | some r =>
    dsimp only
    rcases t.store.results.get r with _ | x <;> rfl

/-- Settles O21: the two handlers answer the stated effects, and neither type acts when broadcast. -/
theorem mfspAndMfdp : Obligations.MfspAndMfdp :=
  ⟨fun _ _ run rate mf _ taken => effects_of_handler taken rfl (reqMfsp_answers run rate mf),
    fun _ run rate mf => broadcastIgnored_of_handler (handler := reqMfsp run rate mf) fun _ _ => rfl,
    fun _ _ run rate _ taken => effects_of_handler taken rfl (reqMfdp_answers run rate),
    fun _ run rate => broadcastIgnored_of_handler (handler := reqMfdp run rate) fun _ _ => rfl⟩

/-! ### Latches (R146) -/

theorem reqCndc_answers (kind scope : Nat) (t : State) :
    reqCndc (some (kind, scope)) t = outcomeOf (match conditionOf kind scope with
      | none => refusal t .badField
      | some i =>
        if t.active i then refusal t .badState
        else
          done (t.withMonitor { t.monitor with
            table := t.monitor.table.set i { t.monitor.table.get i with latched := false } }) []) := by
  unfold reqCndc
  dsimp only
  rcases conditionOf kind scope with _ | i
  · rfl
  · dsimp only
    rw [outcomeOf_ite]
    rfl

/-- Latches cleared one after another: each named record loses its latch, the others stay, and nothing else changes. -/
theorem foldl_clearLatch (l : List ConditionId) (s : State) :
    l.foldl (fun s i => clearLatch i s) s =
        s.withMonitor { s.monitor with table := (l.foldl (fun s i => clearLatch i s) s).monitor.table } ∧
      ∀ i, (l.foldl (fun s i => clearLatch i s) s).monitor.table.get i =
        if i ∈ l then unlatched (s.monitor.table.get i) else s.monitor.table.get i := by
  induction l generalizing s with
  | nil => exact ⟨rfl, fun i => (if_neg (List.not_mem_nil)).symm⟩
  | cons j rest ih =>
    obtain ⟨frame, records⟩ := ih (clearLatch j s)
    refine ⟨frame, fun i => ?_⟩
    rw [List.foldl_cons, records i]
    by_cases own : i = j
    · subst own
      have cleared : (clearLatch i s).monitor.table.get i = unlatched (s.monitor.table.get i) :=
        ConditionTable.get_set_same _ _ _
      rw [cleared, if_pos List.mem_cons_self]
      split <;> rfl
    · have same : (clearLatch j s).monitor.table.get i = s.monitor.table.get i :=
        ConditionTable.get_set_other _ _ _ _ own
      rw [same]
      simp only [List.mem_cons, own, false_or]

theorem mem_clearable {s : State} {i : ConditionId} :
    i ∈ s.clearable ↔ (s.monitor.table.get i).latched = true ∧ (s.monitor.table.get i).active = false := by
  unfold State.clearable
  rw [List.mem_filter, Bool.and_eq_true, Bool.not_eq_true']
  exact and_iff_right (mem_allConditionIds i)

/-- Settles O22: one record's latch is cleared by the handler as stated; the fold over the clearable records clears those
that are inactive, those without a latch losing nothing. -/
theorem cndcClearsLatches : Obligations.CndcClearsLatches := by
  refine ⟨fun dt h kind scope s taken => effects_of_handler taken rfl (reqCndc_answers kind scope), fun dt h s taken => ?_⟩
  have answers : ∀ t, reqCndc none t = outcomeOf (done (t.clearable.foldl (fun s i => clearLatch i s) t)
      (num 1 t.clearable.length)) := fun _ => rfl
  have gives := effects_of_handler (i := .cndc dt h none) taken rfl answers
  obtain ⟨frame, records⟩ := foldl_clearLatch (arrived dt s).clearable (arrived dt s)
  refine ⟨_, ?_, frame, fun i => ?_⟩
  · rw [List.countP_eq_length_filter]
    exact gives
  · rw [records i]
    have table : (arrived dt s).monitor.table = s.monitor.table := rfl
    simp only [mem_clearable, table]
    generalize s.monitor.table.get i = c
    obtain ⟨active, latched, count, on, off⟩ := c
    cases active <;> cases latched <;> rfl

/-! ### The audit trail, the restart and the acknowledgement -/

theorem takeDown_eq (n : Nat) (l : List AuditEntry) :
    takeDown n l = match l.findIdx? fun e => decide (e.seq.toNat = n) with
      | none => []
      | some k => l.drop (k + 1) := by
  induction l with
  | nil => rfl
  | cons e rest ih =>
    unfold takeDown
    rw [List.findIdx?_cons]
    by_cases own : e.seq.toNat = n
    · simp [own]
    · rw [if_neg own, ih, decide_eq_false own]
      cases rest.findIdx? fun e => decide (e.seq.toNat = n) <;> rfl

theorem auditEntry_isNone (n : Nat) (t : State) :
    t.auditEntry n = none ↔ t.store.audit.findIdx? (fun e => decide (e.seq.toNat = n)) = none := by
  unfold State.auditEntry
  rw [List.find?_eq_none, List.findIdx?_eq_none_iff]
  simp

theorem reqAtak_answers (n : Nat) (t : State) :
    reqAtak n t = outcomeOf (match t.store.audit.findIdx? fun e => decide (e.seq.toNat = n) with
      | none => refusal t .notFound
      | some k =>
        let left := t.store.audit.drop (k + 1)
        done (t.withStore { t.store with audit := left })
          (num 1 (k + 1) ++ optional 4 (left.head?.map fun e => bigEndian 4 e.seq.toNat))) := by
  unfold reqAtak
  have some_iff := auditEntry_isNone n t
  have takenDown := takeDown_eq n t.store.audit
  rcases found : t.store.audit.findIdx? fun e => decide (e.seq.toNat = n) with _ | k
  · rw [some_iff.mpr found, found]
    rfl
  · rw [found] at takenDown some_iff
    rcases entry : t.auditEntry n with _ | e
    · nomatch some_iff.mp entry
    · have inside : k < t.store.audit.length := (List.findIdx?_eq_some_iff_findIdx_eq.mp found).1
      have count : t.store.audit.length - (t.store.audit.drop (k + 1)).length = k + 1 := by
        rw [List.length_drop]
        omega
      dsimp only at takenDown ⊢
      rw [found, takenDown, count]
      rfl

/-- Settles O24: the trail left is what follows the named entry. -/
theorem atakTakesEntriesDown : Obligations.AtakTakesEntriesDown :=
  ⟨fun _ _ n _ taken => effects_of_handler taken rfl (reqAtak_answers n),
    fun _ n => broadcastIgnored_of_handler (handler := reqAtak n) fun _ _ => rfl⟩

theorem reqRack_answers (t : State) :
    reqRack t = outcomeOf (if t.active (.station .retentionLost) then
        done
          (judge (.station .retentionLost) false
            (audited none (.retentionAck (t.clock - t.supply.seconds) t.supply.seconds t.clock) t))
          (bigEndian 4 t.store.auditCounter.toNat)
      else refusal t .badState) := by
  rw [outcomeOf_ite, outcomeOf_done, audited_eq_addAudit]
  rfl

/-- Settles O25: RSTR's reply owes a restart; RACK's handler answers the stated effect. -/
theorem restartAndAcknowledgement : Obligations.RestartAndAcknowledgement := by
  refine ⟨fun dt h s taken => ?_, fun dt h s taken => effects_of_handler taken rfl reqRack_answers⟩
  obtain ⟨listening, own, notAll⟩ := taken
  have frame : exec (.rstr dt h) s = requestFrame dt h 41 false reqRstr s := rfl
  unfold Gives
  rw [frame, requestFrame_addressed dt h 41 false reqRstr s (ready_of_listening listening) own notAll,
    advance_of_listening listening, frameEnds_later]
  rfl

end Sys2Proof.Proofs
end

section
/-! Starts: the state a start leaves before its first conversion, in full; and the reset state, which is the part after its
first start and satisfies every invariant. -/

namespace Sys2Proof.Proofs

open Sys2Proof Sys2Proof.Machine Sys2Proof.Safety Sys2Proof.Stated Sys2Proof.Laws

/-! ### Changes handed on where no record holds the prover -/

/-- With no record holding the prover, changes of integrity state reach the marks of the period alone (R55). -/
theorem handChanges_of_none (old : PerRun Integrity) {s : State} (free : s.store.record = none) :
    handChanges old s = s.withTotalizer { s.totalizer with
      unsound := PerRun.tab fun r => s.totalizer.unsound.get r ||
        decide (s.integrity r ≠ old.get r ∧ s.integrity r ≠ .sound) } := by
  have judged := judged_handChanges old s
  have unsound : (handChanges old s).totalizer.unsound = PerRun.tab fun r => s.totalizer.unsound.get r ||
      decide (s.integrity r ≠ old.get r ∧ s.integrity r ≠ .sound) :=
    PerRun.ext_get _ _ fun r => by rw [handChanges_unsound, PerRun.get_tab]
  unfold Judged at judged
  rw [handChanges_monitor, handChanges_store_of_none old free, unsound] at judged
  exact judged

/-! ### The judgement of a start -/

theorem clearTable_get (i : ConditionId) : clearTable.get i = clearRecord := by
  cases i with
  | run k r => cases r <;> cases k <;> rfl
  | station k => cases k <;> rfl

/-- The records after a start: its own condition active since the start (R157). -/
def startedTable (k : StationKind) (clock : Nat) : ConditionTable :=
  clearTable.set (.station k) { active := true, latched := true, count := 1, lastOn := some clock, lastOff := none }

/-- The monitor after a start: WITHDRAWN where the start's condition has class TRIP, else PERMIT with the line read
(R153, R157). -/
def startedMonitor (k : StationKind) (clock : Nat) (b : StationBlock) (l : Lines) : Monitor :=
  if conditionClass b (.station k) = .trip then
    { table := startedTable k clock, withdrawn := true, hold := some { started := 0, length := b.holdTime },
      filter := none, seen := none }
  else
    { table := startedTable k clock, withdrawn := false, hold := none,
      filter := if l.permitHigh then none else some { started := 0, length := b.filterTime },
      seen := some l.permitHigh }

/-- The state a start leaves before its first conversion (R192). -/
def startedState (k : StationKind) (clock : Nat) (st : Store) (s : State) : State :=
  ((freshState clock st s).withTotalizer { freshTotalizer st with
    unsound := PerRun.tab fun _ => decide (conditionClass st.station.current (.station k) ≠ .note) }).withMonitor
    (startedMonitor k clock st.station.current s.lines)

/-- With one station condition active, every run's state is that of its class (R145). -/
theorem integrity_of_only {s : State} {k : StationKind} (only : ∀ i, s.active i = true ↔ i = .station k) (r : Run) :
    s.integrity r = match conditionClass s.stationBlock (.station k) with
      | .trip => .failed
      | .flag => .degraded
      | .note => .sound := by
  classical
  have found : ∀ c, Found s r c ↔ conditionClass s.stationBlock (.station k) = c := fun c => by
    constructor
    · rintro ⟨i, -, on, class_⟩
      rwa [(only i).mp on] at class_
    · exact fun class_ => ⟨_, .inr ⟨k, rfl⟩, (only _).mpr rfl, class_⟩
  rw [integrity_eq]
  simp only [found]
  cases conditionClass s.stationBlock (.station k) <;> rfl

theorem startedTable_active (k : StationKind) (clock : Nat) (i : ConditionId) :
    ((startedTable k clock).get i).active = true ↔ i = .station k := by
  unfold startedTable
  by_cases own : i = .station k
  · subst own
    simp
  · rw [ConditionTable.get_set_other _ _ _ _ own, clearTable_get]
    simp [own, clearRecord]

theorem setCondition_fresh (k : StationKind) (clock : Nat) {st : Store} (free : st.record = none) (s : State) :
    setCondition (.station k) true (freshState clock st s) =
      ((freshState clock st s).withTotalizer { freshTotalizer st with
        unsound := PerRun.tab fun _ => decide (conditionClass st.station.current (.station k) ≠ .note) }).withMonitor
        { freshMonitor with table := startedTable k clock } := by
  have inactive := freshState_active clock st s
  unfold setCondition
  dsimp only
  rw [if_neg (show ¬((freshState clock st s).monitor.table.get (.station k)).active = true by
    rw [show ((freshState clock st s).monitor.table.get (.station k)).active = false from inactive _]; nofun), if_pos rfl]
  have record : activated clock (clearTable.get (.station k)) =
      { active := true, latched := true, count := 1, lastOn := some clock, lastOff := none } := by
    rw [clearTable_get]
    rfl
  have table : clearTable.set (.station k) (activated clock (clearTable.get (.station k))) = startedTable k clock := by
    rw [record]
    rfl
  show handChanges _ ((freshState clock st s).withMonitor
    { freshMonitor with table := clearTable.set (.station k) (activated clock (clearTable.get (.station k))) }) = _
  rw [table, handChanges_of_none _ (by exact free)]
  have marks : ∀ r, ((freshState clock st s).withMonitor { freshMonitor with table := startedTable k clock }).integrity r =
      match conditionClass st.station.current (.station k) with
      | .trip => .failed
      | .flag => .degraded
      | .note => .sound := integrity_of_only (startedTable_active k clock)
  have old : ∀ r, (freshState clock st s).integrities.get r = .sound := fun r => by
    unfold State.integrities
    rw [PerRun.get_tab, integrity_of_inactive inactive]
  have unsound : (PerRun.tab fun r => ((freshState clock st s).withMonitor
        { freshMonitor with table := startedTable k clock }).totalizer.unsound.get r ||
      decide (((freshState clock st s).withMonitor { freshMonitor with table := startedTable k clock }).integrity r ≠
        (freshState clock st s).integrities.get r ∧
        ((freshState clock st s).withMonitor { freshMonitor with table := startedTable k clock }).integrity r ≠ .sound)) =
      PerRun.tab fun _ => decide (conditionClass st.station.current (.station k) ≠ .note) := by
    refine PerRun.ext_get _ _ fun r => ?_
    rw [PerRun.get_tab, PerRun.get_tab, marks, old]
    have none_ : (freshTotalizer st).unsound.get r = false := by cases r <;> rfl
    show ((freshTotalizer st).unsound.get r || _) = _
    rw [none_]
    cases conditionClass st.station.current (.station k) <;> rfl
  rw [unsound]
  rfl

theorem startingJudgement_fresh {k : StationKind} (own : k ≠ .externalTrip) (clock : Nat) {st : Store}
    (free : st.record = none) (s : State) :
    startingJudgement k (freshState clock st s) = startedState k clock st s := by
  have judged : judge (.station k) true (freshState clock st s) =
      if conditionClass st.station.current (.station k) = .trip
      then withdraw (setCondition (.station k) true (freshState clock st s))
      else setCondition (.station k) true (freshState clock st s) := judge_on (freshState_active clock st s _)
  unfold startingJudgement startedState startedMonitor
  dsimp only
  rw [judged, setCondition_fresh k clock free]
  by_cases trip : conditionClass st.station.current (.station k) = .trip
  · rw [if_pos trip, if_pos trip]
    rfl
  · rw [if_neg trip, if_neg trip]
    refine (if_neg Bool.false_ne_true).trans ?_
    unfold readLine
    cases high : s.lines.permitHigh with
    | true =>
      refine (if_pos high).trans ?_
      refine (setCondition_of_agrees ?_).trans ?_
      · have off : ¬((startedTable k clock).get (.station .externalTrip)).active = true := by
          rw [startedTable_active]
          exact fun same => own (by injection same with same; exact same.symm)
        exact Bool.eq_false_iff.mpr off
      · show State.withMonitor _ { freshMonitor with table := startedTable k clock, seen := some s.lines.permitHigh } = _
        rw [high]
        rfl
    | false =>
      have low : ¬s.lines.permitHigh = true := by rw [high]; nofun
      refine (if_neg low).trans ?_
      show State.withMonitor _ { freshMonitor with
        table := startedTable k clock, seen := some s.lines.permitHigh,
        filter := some { started := 0, length := st.station.current.filterTime } } = _
      rw [high]
      rfl

theorem performStart_cold {s : State} (lost : retentionCheck s.store = false) :
    performStart s = nextConversion (startedState .retentionLost 0 (factoryStore 0) s) := by
  unfold performStart
  rw [if_neg (by rw [lost]; nofun), startingJudgement_fresh (k := .retentionLost) nofun 0 (by rfl)]

theorem performStart_warm {s : State} (kept : retentionCheck s.store = true) :
    performStart s = nextConversion
      ((startedState .powerInterrupted s.clock (warmStore s.clock s.store) s).withSupply
        { (startedState .powerInterrupted s.clock (warmStore s.clock s.store) s).supply with firstPeriod := true }) := by
  have free : (warmStore s.clock s.store).record = none := by rw [warmStore_frame]
  unfold performStart
  rw [if_pos kept]
  dsimp only
  rw [startingJudgement_fresh (k := .powerInterrupted) nofun s.clock free]

/-! ### The reset state -/

/-- Settles O41: a store without its format mark fails the retention check, and the factory block gives RETENTION_LOST class
TRIP. -/
theorem resetIsTheFirstStart : Obligations.ResetIsTheFirstStart := by
  intro s unpowered lines noCommand noMark
  have notRunning : s.running = false := by
    unfold State.running
    rw [unpowered]
    rfl
  have lost : retentionCheck s.store = false := by
    unfold retentionCheck
    rw [noMark, Bool.and_false]
  have returned : exec (.mainPowerReturn 0) s = .next (powerReturns s) := by
    show Host.Outcome.next (powerReturns (advance 0 s)) = _
    unfold advance
    rw [notRunning]
    rfl
  have present : s.lines = { resetLines with mainPower := false } → { s.lines with mainPower := true } = resetLines :=
    fun same => by rw [same]; rfl
  unfold Gives
  rw [returned]
  unfold powerReturns
  dsimp only
  rw [present lines, if_pos (by
    show (decide (s.supply.power = .unpowered) && !resetLines.warning) = true
    rw [unpowered]
    rfl), performStart_cold (by exact lost)]
  have fresh : freshState 0 (factoryStore 0) (s.withLines resetLines) = freshState 0 (factoryStore 0) State.reset := by
    unfold freshState
    rw [show (s.withLines resetLines).pending = [] from noCommand]
    rfl
  unfold startedState
  rw [fresh]
  rfl

theorem auditInv_of_empty {s : State} (empty : s.store.audit = []) : AuditInv s := by
  unfold AuditInv
  rw [empty]
  exact ⟨Nat.zero_le _, fun _ => Nat.zero_le _, nofun⟩

theorem ticketInv_of_empty {s : State} (slots : s.store.slots = []) (held : s.store.held = none) : TicketInv s := by
  unfold TicketInv tickets
  rw [slots, held]
  exact ⟨Nat.zero_le _, nofun, by simp, fun _ => rfl⟩

theorem batchInv_of_empty {s : State} (queue : s.store.queue = []) (active : s.store.active = none)
    (change : s.change = .none) : BatchInv s := by
  unfold BatchInv batchIds
  rw [queue, active, change]
  exact ⟨Nat.zero_le _, List.nodup_nil, nofun, nofun, nofun⟩

/-- Settles O51: an empty store, no request, no record, every run marked, and the permit withdrawn with the hold timer
running. -/
theorem invariantsAtReset : Obligations.InvariantsAtReset := by
  have noCurve : curveForm [] = true := by decide
  refine ⟨?_, ?_, ?_, ?_, ?_, ?_, ?_, ?_, ?_, ?_, ?_, ?_⟩
  · exact auditInv_of_empty rfl
  · exact ticketInv_of_empty rfl rfl
  · exact batchInv_of_empty rfl rfl rfl
  · intro r
    simp [State.reset, factoryStore, noCurve]
  · show true = (State.reset.tripActive || true)
    rw [Bool.or_true]
  · exact fun _ r _ => by cases r <;> rfl
  · exact proverInv_of_start rfl rfl (Nat.zero_le _)
  · exact kindsInv_of_sameBlocks (s := freshState 0 (factoryStore 0) State.reset) ⟨rfl, rfl, rfl, rfl⟩
      ((kindsInv_iff _).mpr kindsInv_factory)
  · exact gradesInv_of_start (st := factoryStore 0) rfl (by decide) (by decide) (forall_of_eq_none rfl) nofun rfl
  · intro r
    cases r <;> exact ⟨fraction_zero, fraction_zero, fraction_zero, fraction_zero⟩
  · exact fun _ => ⟨nofun, nofun⟩
  · intro r
    simp [State.runPulse, State.reset, freshPulse, freshRunPulse, freshChannel]

end Sys2Proof.Proofs
end

section
/-! Warm and cold starts, and what starts the part. -/

namespace Sys2Proof.Proofs

open Sys2Proof Sys2Proof.Machine Sys2Proof.Safety Sys2Proof.Stated Sys2Proof.Laws

/-! ### The next conversion -/

theorem withConverter_self {s : State} {x : Option Conversion} (held : s.scanner.converter = x) :
    s.withScanner { s.scanner with converter := x } = s := by
  subst held
  rfl

/-- A busy converter starts nothing; an IDLE one starts what is due (R30, R33). -/
theorem nextConversion_eq (s : State) :
    nextConversion s = s.withScanner { s.scanner with
      converter := if s.scanner.converter.isSome then s.scanner.converter
        else starts s.scanner.active s.scanner.position s } := by
  unfold nextConversion starts startConversion
  rcases busy : s.scanner.converter with _ | c
  · rcases s.scanner.active with _ | ch
    · rcases s.pointsBlock.scanList[s.scanner.position]? with _ | p
      · exact (withConverter_self busy).symm
      · rfl
    · rcases ch with ⟨tag, points, left⟩
      rcases left with _ | ⟨p, rest⟩
      · exact (withConverter_self busy).symm
      · rfl
  · exact (withConverter_self busy).symm

/-! ### Starts -/

theorem startedTable_get_same (k : StationKind) (clock : Nat) :
    (startedTable k clock).get (.station k) =
      { active := true, latched := true, count := 1, lastOn := some clock, lastOff := none } :=
  ConditionTable.get_set_same _ _ _

theorem startedTable_get_other {k : StationKind} {i : ConditionId} (other : i ≠ .station k) (clock : Nat) :
    (startedTable k clock).get i = clearRecord :=
  (ConditionTable.get_set_other _ _ _ _ other).trans (clearTable_get i)

/-- Settles O40: the factory block gives RETENTION_LOST class TRIP and an empty scan list. -/
theorem coldStart : Obligations.ColdStart := by
  intro s lost
  have check : retentionCheck s.store = false := by
    unfold retentionCheck
    rcases lost with mark | code
    · rw [mark, Bool.and_false]
    · rw [code, Bool.false_and]
  have started : performStart s = startedState .retentionLost 0 (factoryStore 0) s := performStart_cold check
  dsimp only
  rw [started]
  have only : ∀ i, (startedState .retentionLost 0 (factoryStore 0) s).active i = true ↔ i = .station .retentionLost :=
    startedTable_active .retentionLost 0
  refine ⟨rfl, rfl, rfl, rfl, rfl, rfl, rfl, rfl, rfl, rfl, rfl, rfl, rfl, (only _).mpr rfl,
    startedTable_get_same _ _, fun i other => startedTable_get_other other 0, fun r => ?_, rfl, rfl, rfl, rfl, rfl, rfl, fun r => ?_⟩
  · exact integrity_of_only only r
  · exact PerRun.get_tab _ r

/-- The scanner after a start: the first normal conversion of the scan list, if there is one (R41). -/
theorem nextConversion_started (s : State) (scanner : s.scanner = freshScanner) :
    nextConversion s = s.withScanner { freshScanner with
      converter := s.pointsBlock.scanList.head?.map fun n =>
        { point := pointIndex n, injected := false, setup := s.setup (pointIndex n), started := s.counter,
          moves := true } } := by
  rw [nextConversion_eq, scanner]
  unfold starts
  have first : s.pointsBlock.scanList[freshScanner.position]? = s.pointsBlock.scanList.head? :=
    List.head?_eq_getElem?.symm
  rw [← first]
  rfl

theorem countUp_eq (top n : Nat) : countUp top n = if n < top then n + 1 else n := rfl

theorem warmStore_eq (now : Nat) (st : Store) :
    warmStore now st = { st with
      record := none
      history := match st.record with
        | none => st.history
        | some x => entered { x with state := .aborted, cause := some .power, ended := some now, current := none } st.history
      active := st.active.map fun b => { b with
        interruptions := if b.interruptions < 65535 then b.interruptions + 1 else b.interruptions
        outage := min 4294967295 (b.outage + (now - st.lastBoundary)) } } := by
  rw [warmStore_frame]
  have history : (warmStore now st).history = match st.record with
      | none => st.history
      | some x => entered { x with state := .aborted, cause := some .power, ended := some now, current := none }
          st.history := by
    unfold warmStore fileRecord
    rcases st.record with _ | x <;> rfl
  rw [history]
  rfl

/-- Settles O39: the fresh state with the warm store, the start's judgement, and the first conversion. -/
theorem warmStart : Obligations.WarmStart := by
  intro s mark code
  have check : retentionCheck s.store = true := by
    unfold retentionCheck
    rw [mark, code]
    rfl
  have block : (warmStore s.clock s.store).station = s.store.station := by rw [warmStore_frame]
  have started := performStart_warm check
  rw [nextConversion_started _ (by rfl)] at started
  have store : (performStart s).store = warmStore s.clock s.store := by rw [started]; rfl
  have monitor : (performStart s).monitor = startedMonitor .powerInterrupted s.clock s.store.station.current s.lines := by
    rw [started, ← block]
    rfl
  have points : (warmStore s.clock s.store).points = s.store.points := by rw [warmStore_frame]
  have runBlocks : (warmStore s.clock s.store).runBlocks = s.store.runBlocks := by rw [warmStore_frame]
  have pulse : (performStart s).pulse = freshPulse s.store := by
    rw [started]
    show freshPulse (warmStore s.clock s.store) = _
    unfold freshPulse
    rw [runBlocks]
  have totalizer : (performStart s).totalizer = { freshTotalizer s.store with
      unsound := PerRun.tab fun _ =>
        decide (conditionClass s.stationBlock (.station .powerInterrupted) ≠ .note) } := by
    rw [started]
    show ({ freshTotalizer (warmStore s.clock s.store) with
      unsound := PerRun.tab fun _ => decide (conditionClass (warmStore s.clock s.store).station.current
        (.station .powerInterrupted) ≠ .note) } : Totalizer) = _
    unfold freshTotalizer
    rw [block]
    rfl
  have converter : (performStart s).scanner.converter = s.pointsBlock.scanList.head?.map fun n =>
      { point := pointIndex n, injected := false, setup := s.setup (pointIndex n), started := 0, moves := true } := by
    rw [started]
    show ((warmStore s.clock s.store).points.current.scanList.head?.map fun n => ({ point := pointIndex n, injected := false, setup := (warmStore s.clock s.store).points.current.setups[pointIndex n], started := 0, moves := true } : Conversion)) = _
    rw [points]
    rfl
  refine ⟨by rw [started]; rfl, by rw [started]; rfl, by rw [started]; rfl, by rw [started]; rfl, by rw [started]; rfl,
    by rw [started]; rfl, by rw [started]; rfl, pulse, by rw [started]; rfl,
    ⟨by rw [started]; rfl, by rw [started]; rfl, by rw [started]; rfl, by rw [started]; rfl, by rw [started]; rfl, converter⟩,
    ?_, ?_, store.trans (warmStore_eq _ _)⟩
  · rw [totalizer]
    refine ⟨rfl, rfl, rfl, rfl, fun r => ?_⟩
    rw [PerRun.get_tab, decide_eq_true_iff]
  · rw [monitor]
    have table : (startedMonitor .powerInterrupted s.clock s.store.station.current s.lines).table =
        startedTable .powerInterrupted s.clock := by
      unfold startedMonitor
      split <;> rfl
    rw [table]
    refine ⟨startedTable_get_same _ _, fun i other => startedTable_get_other other _, fun trip => ?_, fun noTrip => ?_⟩
    · unfold startedMonitor
      rw [if_pos (by exact trip)]
      exact ⟨rfl, rfl, rfl, rfl⟩
    · unfold startedMonitor
      rw [if_neg (by exact noTrip)]
      exact ⟨rfl, rfl, rfl, rfl⟩

/-! ### What starts the part -/

theorem advance_eq (dt : Nat) (s : State) : advance dt s = if s.running then later dt s else s := rfl

theorem running_of_not_unpowered {s : State} (unpowered : s.supply.power = .unpowered) : s.running = false := by
  unfold State.running
  rw [unpowered]
  rfl

theorem powerReturns_unpowered {dt : Nat} {s : State} (unpowered : s.supply.power = .unpowered) :
    Gives (.mainPowerReturn dt) s (if s.lines.warning then s.withLines { s.lines with mainPower := true }
      else performStart (s.withLines { s.lines with mainPower := true })) := by
  have notRunning := running_of_not_unpowered unpowered
  show Host.Outcome.next (powerReturns (advance dt s)) = _
  rw [advance_eq, notRunning, if_neg Bool.false_ne_true]
  unfold powerReturns
  dsimp only
  rw [show (s.withLines { s.lines with mainPower := true }).supply.power = .unpowered from unpowered]
  cases warned : s.lines.warning with
  | true => simp
  | false => simp

theorem dropWarning_gives (dt : Nat) (s : State) :
    Gives (.warningDeassertion dt) s
      (if s.lines.mainPower && !s.running then
        performStart ((advance dt s).withLines { s.lines with warning := false })
      else (advance dt s).withLines { s.lines with warning := false }) := by
  have lines : (advance dt s).lines = s.lines := advance_lines dt s
  show Host.Outcome.next (dropWarning (advance dt s)) = _
  unfold dropWarning
  dsimp only
  rw [lines, show ((advance dt s).withLines { s.lines with warning := false }).running = (advance dt s).running from rfl,
    advance_running]
  rfl

theorem resetQualifies_gives {dt : Nat} {s : State} (running : s.running = true) :
    Gives (.resetQualificationExpiry dt) s
      (if s.supply.resetQualifying && s.lines.resetLow then
        (performStart (advance dt s)).withSupply { (performStart (advance dt s)).supply with byReset := true }
      else advance dt s) := by
  show Host.Outcome.next (whileRunning dt resetQualifies s) = _
  rw [whileRunning_of_running _ _ _ running]
  unfold resetQualifies
  rw [advance_supply, advance_lines]

theorem backupFails_gives (dt : Nat) (s : State) :
    Gives (.backupSupplyFailure dt) s
      (if s.lines.mainPower then advance dt s
      else ((advance dt s).withStore { s.store with formatMark := false, codeAgrees := false }).withClock
        Config.lostClock) := by
  show Host.Outcome.next (backupFails (advance dt s)) = _
  unfold backupFails
  rw [advance_lines, advance_store]

theorem clockCounts_gives (dt : Nat) (s : State) :
    Gives (.stationClockSecond dt) s
      (if (advance dt s).clockJustSet then advance dt s else (advance dt s).withClock (s.clock + 1)) := by
  show Host.Outcome.next (clockCounts (advance dt s)) = _
  unfold clockCounts
  rw [advance_clock]

theorem clockJustSet_iff (dt : Nat) (s : State) :
    (advance dt s).clockJustSet = true ↔
      s.running = true ∧ s.totalizer.clockSet = some (advance dt s).counter := by
  unfold State.clockJustSet
  rw [advance_running, advance_totalizer, Bool.and_eq_true]
  refine and_congr_right fun _ => ?_
  rcases s.totalizer.clockSet with _ | x
  · simp
  · simp [State.beginsNow]

theorem secondPasses_gives {dt : Nat} {s : State} (running : s.running = true) :
    Gives (.secondsSinceStartAdvance dt) s
      (if (advance dt s).counter = 0 ∧ s.supply.seconds = 0 then advance dt s
      else (advance dt s).withSupply { s.supply with
        seconds := if s.supply.seconds < 4294967295 then s.supply.seconds + 1 else s.supply.seconds }) := by
  show Host.Outcome.next (whileRunning dt secondPasses s) = _
  rw [whileRunning_of_running _ _ _ running]
  unfold secondPasses
  rw [advance_supply, countUp_eq]

/-- Settles O38: each event gives the state of its own lemma, and its hypotheses decide the test made there. -/
theorem powerEventsAndClocks : Obligations.PowerEventsAndClocks := by
  intro dt s
  dsimp only
  rw [← advance_eq]
  refine ⟨fun ⟨unpowered, quiet⟩ => ?_, fun ⟨unpowered, warned⟩ => ?_, fun stopped present => ?_, fun reason => ?_,
    fun running qualifying low => ?_, fun running reason => ?_, ?_, fun absent => ?_, fun present => ?_, ?_, ?_, fun reason => ?_,
    fun running just => ?_, fun running start second => ?_, fun running reason => ?_, fun stopped => ?_⟩
  · have gives := powerReturns_unpowered (dt := dt) unpowered
    rwa [quiet, if_neg Bool.false_ne_true] at gives
  · have gives := powerReturns_unpowered (dt := dt) unpowered
    rwa [warned, if_pos rfl] at gives
  · have gives := dropWarning_gives dt s
    rwa [present, stopped, if_pos (by rfl)] at gives
  · have gives := dropWarning_gives dt s
    rwa [if_neg (by rcases reason with running | absent <;> simp [*])] at gives
  · have gives := resetQualifies_gives (dt := dt) running
    rwa [qualifying, low, if_pos (by rfl)] at gives
  · have gives := resetQualifies_gives (dt := dt) running
    rwa [if_neg (by rcases reason with idle | high <;> simp [*])] at gives
  · show Host.Outcome.next (powerFails (advance dt s)) = _
    unfold powerFails
    rw [advance_lines, advance_supply]
  · have gives := backupFails_gives dt s
    rwa [absent, if_neg Bool.false_ne_true] at gives
  · have gives := backupFails_gives dt s
    rwa [present, if_pos rfl] at gives
  · show Host.Outcome.next (resetFalls (advance dt s)) = _
    unfold resetFalls
    dsimp only
    rw [advance_lines, advance_running, Bool.and_comm]
    split
    · rw [← advance_supply dt s]
      rfl
    · rw [← advance_supply dt s]
      rfl
  · show Host.Outcome.next (resetRises (advance dt s)) = _
    unfold resetRises
    rw [advance_lines, advance_supply]
  · have gives := clockCounts_gives dt s
    rwa [if_neg (by rw [clockJustSet_iff]; rcases reason with stopped | other <;> simp [*])] at gives
  · have gives := clockCounts_gives dt s
    rwa [if_pos (by rw [clockJustSet_iff]; exact ⟨running, just⟩)] at gives
  · have gives := secondPasses_gives (dt := dt) running
    rwa [if_pos ⟨start, second⟩] at gives
  · have gives := secondPasses_gives (dt := dt) running
    rw [if_neg (fun ⟨start, second⟩ => reason.elim (· start) (· second))] at gives
    rwa [advance_of_running dt s running] at gives
  · show Host.Outcome.next (whileRunning dt secondPasses s) = _
    rw [whileRunning_of_not_running _ _ _ stopped]

end Sys2Proof.Proofs
end

section
/-! Request frames as frames: which do not act, and what an own frame does to a reply that waits. Every request is the frame
of a handler, broadcast or not. -/

namespace Sys2Proof.Proofs

open Sys2Proof Sys2Proof.Machine Sys2Proof.Safety Sys2Proof.Stated Sys2Proof.Laws

/-- A request is the frame of a handler, which a broadcast reaches for SNAP and TSET alone (R184). -/
theorem exec_of_requestOf {i : Instr} {dt : Nat} {h : Header} (request : requestOf i = some (dt, h)) :
    ∃ type handler, ∀ s, exec i s = requestFrame dt h type (actsBroadcast i) handler s := by
  cases i <;> cases request <;> exact ⟨_, _, fun _ => rfl⟩

theorem resetInstant_later {dt : Nat} {s : State} (running : s.running = true) :
    (advance dt s).resetInstant = true ↔ AtReset (later dt s) := by
  rw [advance_of_running dt s running]
  exact resetInstant_iff_atReset _

theorem running_of_atReset {dt : Nat} {s : State} (reset : AtReset (later dt s)) : s.running = true := reset.1

/-- A boundary that cannot come lets time pass alone (R42 to R44, R192). -/
theorem periodBoundary_of_not_ends {dt : Nat} {order : BoundaryOrder} {s : State} (running : s.running = true)
    (notEnds : ¬Ends dt s) : Gives (.periodBoundary dt order) s (later dt s) := by
  show Host.Outcome.next (whileRunning dt (ordinaryBoundary order) s) = _
  rw [whileRunning_of_running _ _ _ running, advance_of_running dt s running]
  have passed : (later dt s).resetInstant = true ∨ (later dt s).totalizer.periodStart = (later dt s).counter := by
    refine Classical.byContradiction fun neither => ?_
    rw [not_or] at neither
    refine notEnds ⟨fun reset => neither.1 ((resetInstant_iff_atReset _).mpr reset), fun start => neither.2 start.symm⟩
  show Host.Outcome.next (ordinaryBoundary order (later dt s)) = _
  unfold ordinaryBoundary State.beginsNow
  rw [if_pos (by simpa using passed)]

/-- Settles O3: the frame of a request by its part's state and its address, and the period timer. -/
theorem framesThatDoNotAct : Obligations.FramesThatDoNotAct := by
  refine ⟨fun i dt h s request => ?_, fun dt order s => ⟨periodBoundary_of_not_ends, fun stopped => ?_⟩⟩
  · obtain ⟨type, handler, frame⟩ := exec_of_requestOf request
    unfold Gives
    rw [frame]
    refine ⟨fun running on notReset notAll other => ?_, fun listening all noBroadcast => ?_, fun stopped => ?_,
      fun running off => ?_, fun reset => ?_⟩
    · have free : (advance dt s).resetInstant = false :=
        Bool.eq_false_iff.mpr fun reset => notReset ((resetInstant_later running).mp reset)
      rw [requestFrame_foreign dt h type _ handler s running on free other notAll, advance_of_running dt s running]
      rfl
    · rw [requestFrame_broadcast dt h type _ handler s (ready_of_listening listening) all, noBroadcast,
        advance_of_listening listening]
      rfl
    · exact requestFrame_not_running dt h type _ handler s stopped
    · unfold requestFrame
      rw [if_pos running]
      dsimp only
      rw [if_pos (.inl (by rw [advance_link]; exact off)), advance_of_running dt s running]
      rfl
    · have running := running_of_atReset reset
      rw [requestFrame_atReset dt h type _ handler s ((resetInstant_later running).mpr reset),
        advance_of_running dt s running]
      rfl
  · exact congrArg Host.Outcome.next (whileRunning_of_not_running dt (ordinaryBoundary order) s stopped)

/-! ### A reply that waits -/

/-- A queued reply that owes no restart is abandoned, with its fault (R183). -/
theorem abandonReply_queued {s : State} {r : Reply} (queued : s.link.reply = .queued r) :
    abandonReply s = if r.restart then (performStart (faulted .replyAbandoned (withoutReply s)), true)
      else (withoutReply (faulted .replyAbandoned s), false) := by
  unfold abandonReply
  rw [queued]
  rfl

/-- Time passes alike for a part whose reply has been abandoned already. -/
theorem advance_abandoned (dt : Nat) (s : State) :
    advance dt (withoutReply (faulted .replyAbandoned s)) = withoutReply (faulted .replyAbandoned (advance dt s)) := by
  rw [advance_frame dt s]
  by_cases running : s.running = true
  · rw [advance_of_running dt s running, advance_of_running dt _ (by exact running)]
    rfl
  · have stopped : s.running = false := by simpa using running
    rw [advance_of_not_running dt s stopped, advance_of_not_running dt _ (by exact stopped)]
    rfl

/-- Settles O4: the station compare abandons the reply; with no restart owed, what follows is the frame's course in a part
whose reply has been abandoned already. -/
theorem ownFrameAbandonsTheReply : Obligations.OwnFrameAbandonsTheReply := by
  intro i dt h r s request running on notReset address queued
  obtain ⟨type, handler, frame⟩ := exec_of_requestOf request
  have free : (advance dt s).resetInstant = false :=
    Bool.eq_false_iff.mpr fun reset => notReset ((resetInstant_later running).mp reset)
  have hears : ¬((advance dt s).link.receiver = .off ∨ (advance dt s).resetInstant = true) :=
    not_passedOver (by rw [advance_link]; exact on) free
  have abandons := abandonReply_queued (s := advance dt s) (by rw [advance_link]; exact queued)
  refine ⟨fun noRestart => ?_, fun owed => ?_⟩
  · rw [noRestart, if_neg Bool.false_ne_true] at abandons
    have later' := advance_abandoned dt s
    have quiet : abandonReply (advance dt (withoutReply (faulted .replyAbandoned s))) =
        (advance dt (withoutReply (faulted .replyAbandoned s)), false) :=
      abandonReply_of_none _ (by rw [later']; rfl)
    have station : (advance dt (withoutReply (faulted .replyAbandoned s))).link.station = (advance dt s).link.station := by
      rw [later']
      rfl
    have hears' : ¬((advance dt (withoutReply (faulted .replyAbandoned s))).link.receiver = .off ∨
        (advance dt (withoutReply (faulted .replyAbandoned s))).resetInstant = true) := by
      rw [later']
      exact hears
    rw [frame, frame]
    unfold requestFrame
    rw [if_pos running, if_pos (show (withoutReply (faulted .replyAbandoned s)).running = true from running)]
    dsimp only
    rw [if_neg hears, if_neg hears', abandons, quiet, station, later']
    rw [advance_link]
    by_cases all : h.station = 0
    · rw [if_pos all, if_pos all]
    · have own : h.station = s.link.station := address.resolve_left all
      rw [if_neg all, if_neg all, if_pos own, if_pos own]
  · rw [owed, if_pos rfl] at abandons
    have start : (advance dt s) = later dt s := advance_of_running dt s running
    unfold Gives
    rw [frame]
    unfold requestFrame
    rw [if_pos running]
    dsimp only
    rw [if_neg hears, abandons, start]
    by_cases all : h.station = 0
    · rw [if_pos all]
      rfl
    · have own : h.station = (later dt s).link.station := address.resolve_left all
      rw [if_neg all, if_pos own]
      rfl

end Sys2Proof.Proofs
end

section
/-! A judgement taken: what it does to its record, to the permit line and, by the integrity states, to the proving. A
deactivation never makes a run worse, so that of the two judgements one may hold at most one marks the record's round. -/

namespace Sys2Proof.Proofs

open Sys2Proof Sys2Proof.Machine Sys2Proof.Safety Sys2Proof.Stated Sys2Proof.Laws

/-! ### The frame -/

theorem beside_of_judged {s t : State} (judged : Judged s t) : Beside s t := by
  have results := judged.results
  have provingCounter := judged.provingCounter
  have requests := judged.requests
  unfold Beside
  rw [results, provingCounter, requests]
  exact judged

/-! ### What a judgement hands on, past changes of the line alone -/

theorem followed_withMonitor_right {s u : State} (followed : Followed s u) {m : Monitor}
    (table : m.table = u.monitor.table) : Followed s (u.withMonitor m) := by
  obtain ⟨marks, store⟩ := followed
  have same : ∀ r, (u.withMonitor m).integrity r = u.integrity r := integrity_congr table rfl
  unfold Followed
  simp only [same]
  exact ⟨marks, store⟩

theorem followed_withMonitor_left {s u : State} {m : Monitor} (table : m.table = s.monitor.table)
    (followed : Followed (s.withMonitor m) u) : Followed s u := by
  obtain ⟨marks, store⟩ := followed
  have same : ∀ r, (s.withMonitor m).integrity r = s.integrity r := integrity_congr table rfl
  simp only [same] at marks store
  exact ⟨marks, store⟩

theorem followed_readLine (s : State) : Followed s (readLine s) := by
  unfold readLine
  dsimp only
  split
  · refine followed_withMonitor_left ?_ (followed_setCondition _ _ _)
    rfl
  · refine followed_withMonitor_right (followed_withMonitor_right (Followed.refl s) ?_) ?_
    · rfl
    · rfl

theorem followed_releaseIfFree (s : State) : Followed s (releaseIfFree s) := by
  unfold releaseIfFree
  split
  · refine followed_withMonitor_left ?_ (followed_readLine _)
    rfl
  · exact Followed.refl s

/-! ### A deactivation makes no run worse -/

/-- How bad an integrity state is. -/
def rank : Integrity → Nat
  | .sound => 0
  | .degraded => 1
  | .failed => 2

theorem rank_integrity_le {s t : State} (block : t.stationBlock = s.stationBlock)
    (active : ∀ i, t.active i = true → s.active i = true) (r : Run) : rank (t.integrity r) ≤ rank (s.integrity r) := by
  classical
  have found : ∀ c, Found t r c → Found s r c := fun c ⟨i, counts, on, class_⟩ => ⟨i, counts, active i on, block ▸ class_⟩
  have trip := found .trip
  have flag := found .flag
  rw [integrity_eq, integrity_eq]
  split
  next now => exact Nat.le_of_eq (congrArg rank (if_pos (trip now)).symm)
  next =>
    split
    next now =>
      split
      · decide
      · exact Nat.le_of_eq (congrArg rank (if_pos (flag now)).symm)
    next => exact Nat.zero_le _

/-- What a deactivation that makes the record's run no worse does to the store: it marks the round where the run comes to
DEGRADED (R112). -/
theorem store_of_eased {s t : State} {x : ProvingRecord} (followed : Followed s t)
    (held : s.store.record = some x) (eased : rank (t.integrity x.request.run) ≤ rank (s.integrity x.request.run)) :
    t.store = if t.integrity x.request.run = s.integrity x.request.run ∨ t.integrity x.request.run = .sound then s.store
      else { s.store with record := some (marked false true x) } := by
  obtain ⟨-, store⟩ := followed
  rw [held] at store
  dsimp only at store
  split
  next same => rwa [if_pos same] at store
  next changed =>
    have notFailed : t.integrity x.request.run ≠ .failed := fun failed => by
      rw [failed] at eased changed
      refine changed (.inl ?_)
      cases state : s.integrity x.request.run with
      | failed => rfl
      | _ => rw [state] at eased; exact absurd eased (by decide)
    rwa [if_neg changed, if_neg notFailed] at store

/-- Two deactivations, one after the other, mark the round at most once (R112). -/
theorem store_of_eased_twice {s u t : State} {x : ProvingRecord} (first : Followed s u) (second : Followed u t)
    (held : s.store.record = some x) (eased : ∀ r, rank (u.integrity r) ≤ rank (s.integrity r))
    (easedAgain : ∀ r, rank (t.integrity r) ≤ rank (u.integrity r)) :
    (t.integrity x.request.run = s.integrity x.request.run → t.store = s.store) ∧
    (t.store = s.store ∨ t.store = { s.store with record := some (marked false true x) }) ∧
    (t.integrity x.request.run ≠ s.integrity x.request.run → t.integrity x.request.run = .degraded →
      t.store = { s.store with record := some (marked false true x) }) := by
  have store := store_of_eased first held (eased _)
  by_cases kept : u.integrity x.request.run = s.integrity x.request.run ∨ u.integrity x.request.run = .sound
  · rw [if_pos kept] at store
    have then_ := store_of_eased second (by rw [store]; exact held) (easedAgain _)
    rw [store] at then_
    have rank1 := eased x.request.run
    have rank2 := easedAgain x.request.run
    rw [then_]
    generalize s.integrity x.request.run = a at *
    generalize u.integrity x.request.run = b at *
    generalize t.integrity x.request.run = c at *
    cases a <;> cases b <;> cases c <;> simp_all [rank]
  · rw [if_neg kept] at store
    have now : u.store.record = some (marked false true x) := by rw [store]
    have then_ := store_of_eased second now (easedAgain _)
    have run : (marked false true x).request.run = x.request.run := rfl
    rw [run, store] at then_
    have rank1 := eased x.request.run
    have rank2 := easedAgain x.request.run
    rw [then_]
    generalize s.integrity x.request.run = a at *
    generalize u.integrity x.request.run = b at *
    generalize t.integrity x.request.run = c at *
    cases a <;> cases b <;> cases c <;> simp_all [rank]

/-! ### The record judged -/

theorem setCondition_get_on {i : ConditionId} {s : State} (inactive : s.active i = false) :
    (setCondition i true s).monitor.table.get i = activated s.clock (s.monitor.table.get i) := by
  rw [setCondition_monitor (by rw [inactive]; nofun), ConditionTable.get_set_same]
  rfl

theorem setCondition_get_off {i : ConditionId} {s : State} (active : s.active i = true) :
    (setCondition i false s).monitor.table.get i = deactivated s.clock (s.monitor.table.get i) := by
  rw [setCondition_monitor (by rw [active]; nofun), ConditionTable.get_set_same]
  rfl

/-- Reading the line leaves an inactive record whole. -/
theorem readLine_get_inactive {s : State} {i : ConditionId} (inactive : s.active i = false) :
    (readLine s).monitor.table.get i = s.monitor.table.get i := by
  by_cases other : i = .station .externalTrip
  · subst other
    unfold readLine
    dsimp only
    split
    · rw [setCondition_of_agrees (by rw [withMonitor_active]; exact inactive)]
      rfl
    · rfl
  · exact readLine_get_other other s

theorem releaseIfFree_get_inactive {s : State} {i : ConditionId} (inactive : s.active i = false) :
    (releaseIfFree s).monitor.table.get i = s.monitor.table.get i := by
  by_cases may : MayRelease s
  · rw [releaseIfFree_of_mayRelease may, release,
      readLine_get_inactive (by rw [withMonitor_active]; exact inactive)]
    rfl
  · rw [releaseIfFree_of_not_mayRelease may]

/-- An activation (R142, R148). -/
theorem activation_taken {i : ConditionId} {s : State} (inactive : s.active i = false) :
    (judge i true s).monitor.table.get i = activated s.clock (s.monitor.table.get i) ∧
    (∀ j, j ≠ i → (judge i true s).monitor.table.get j = s.monitor.table.get j) ∧
    (conditionClass s.stationBlock i = .trip → (judge i true s).monitor.withdrawn = true ∧
      (judge i true s).monitor.filter = none ∧
      (judge i true s).monitor.hold = some { started := s.counter, length := s.stationBlock.holdTime }) ∧
    (conditionClass s.stationBlock i ≠ .trip → (judge i true s).monitor.withdrawn = s.monitor.withdrawn ∧
      (judge i true s).monitor.hold = s.monitor.hold ∧ (judge i true s).monitor.filter = s.monitor.filter) ∧
    Followed s (judge i true s) := by
  have set := judged_setCondition i true s
  have followed := followed_setCondition i true s
  rw [judge_on inactive]
  by_cases trip : conditionClass s.stationBlock i = .trip
  · rw [if_pos trip]
    refine ⟨setCondition_get_on inactive, fun j other => setCondition_get_other other true s,
      fun _ => ⟨rfl, rfl, ?_⟩, fun noTrip => absurd trip noTrip, followed_withMonitor_right followed ?_⟩
    · show some ({ started := (setCondition i true s).counter, length := (setCondition i true s).stationBlock.holdTime } : Timer) = _
      rw [set.counter, set.stationBlock]
    · rfl
  · rw [if_neg trip]
    exact ⟨setCondition_get_on inactive, fun j other => setCondition_get_other other true s, fun isTrip => absurd isTrip trip,
      fun _ => ⟨setCondition_withdrawn i true s, setCondition_hold i true s, setCondition_filter i true s⟩, followed⟩

/-- A deactivation, with the release of the line that it may bring (R142, R149, R153). -/
theorem deactivation_taken {i : ConditionId} {s : State} (active : s.active i = true) :
    (judge i false s).monitor.table.get i = deactivated s.clock (s.monitor.table.get i) ∧
    (judge i false s).monitor.hold = s.monitor.hold ∧
    ((judge i false s).monitor.withdrawn = s.monitor.withdrawn → Followed s (judge i false s)) ∧
    ∀ x, s.store.record = some x →
      ((judge i false s).integrity x.request.run = s.integrity x.request.run → (judge i false s).store = s.store) ∧
      ((judge i false s).store = s.store ∨
        (judge i false s).store = { s.store with record := some (marked false true x) }) ∧
      ((judge i false s).integrity x.request.run ≠ s.integrity x.request.run →
        (judge i false s).integrity x.request.run = .degraded →
        (judge i false s).store = { s.store with record := some (marked false true x) }) := by
  have followed := followed_setCondition i false s
  have eased := rank_integrity_le (judged_setCondition i false s).stationBlock fun j => active_of_setCondition_off (s := s)
  have now := setCondition_active_same i false s
  have record := setCondition_get_off active
  have withdrawn := setCondition_withdrawn i false s
  have hold := setCondition_hold i false s
  rw [judge_off active]
  generalize setCondition i false s = u at *
  have easedAgain := rank_integrity_le (judged_releaseIfFree u).stationBlock fun j => active_of_releaseIfFree (s := u)
  refine ⟨(releaseIfFree_get_inactive now).trans record, (releaseIfFree_hold u).trans hold, fun same => ?_,
    fun x held => store_of_eased_twice followed (followed_releaseIfFree u) held eased easedAgain⟩
  by_cases may : MayRelease u
  · rw [releaseIfFree_of_mayRelease may, release, readLine_withdrawn, ← withdrawn] at same
    have driven := may.1
    rw [← same] at driven
    nomatch driven
  · rwa [releaseIfFree_of_not_mayRelease may]

/-- Settles O42. -/
theorem judgementIsTaken : Obligations.JudgementIsTaken := by
  intro i s
  dsimp only
  refine ⟨fun on agrees => judge_of_agrees i on s agrees, fun inactive => ?_, fun active => ?_⟩
  · have judged := judged_judge i true s
    obtain ⟨own, others, trip, noTrip, followed⟩ := activation_taken inactive
    exact ⟨own, others, trip, noTrip, beside_of_judged judged, judged.requests, followed⟩
  · have judged := judged_judge i false s
    obtain ⟨own, hold, followed, store⟩ := deactivation_taken active
    exact ⟨own, fun j other notTrip => judge_get_other other notTrip false s, hold, beside_of_judged judged,
      judged.requests, followed, store⟩

end Sys2Proof.Proofs
end

section
/-! The events of the permit line: the hold timer, the edges of the line and the external filter. -/

namespace Sys2Proof.Proofs

open Sys2Proof Sys2Proof.Machine Sys2Proof.Safety Sys2Proof.Stated Sys2Proof.Laws

/-! ### What a judgement and a grant may reach -/

theorem beside_trans {s t u : State} (h : Beside s t) (g : Beside t u) : Beside s u := by
  unfold Beside at h g ⊢
  rw [g, h]
  rfl

theorem beside_of_granted {s t : State} (granted : Granted s t) : Beside s t := by
  have monitor : t.monitor = s.monitor := by rw [granted]; rfl
  have totalizer : t.totalizer = s.totalizer := by rw [granted]; rfl
  have results : t.store.results = s.store.results := by rw [granted]; rfl
  unfold Beside
  rw [monitor, totalizer, results]
  exact granted

theorem monitor_of_granted {s t : State} (granted : Granted s t) : t.monitor = s.monitor := by rw [granted]; rfl

theorem settle_of_same_record {s t : State} (same : t.store.record = s.store.record) : settle s t = t := by
  unfold settle
  rw [same]
  cases s.store.record <;> rfl

/-! ### The hold timer -/

/-- A timer that expires now: one that runs, and has not started at this very instant (R150). -/
def Expires (x : Option Timer) (s : State) : Prop := ∃ tm, x = some tm ∧ tm.started ≠ s.counter

theorem holdExpires_of_not {s : State} (not : ¬Expires s.monitor.hold s) : holdExpires s = s := by
  unfold holdExpires
  split
  · rfl
  next tm running =>
    unfold State.beginsNow
    rw [if_pos]
    rw [decide_eq_true_iff]
    refine Classical.byContradiction fun started => ?_
    exact not ⟨tm, running, started⟩

theorem holdExpires_of_expires {s : State} (expires : Expires s.monitor.hold s) :
    holdExpires s = releaseIfFree (s.withMonitor { s.monitor with hold := none }) := by
  obtain ⟨tm, running, started⟩ := expires
  unfold holdExpires State.beginsNow
  rw [running]
  dsimp only
  rw [if_neg (by rw [decide_eq_true_iff]; exact started)]

theorem holdTimerExpiry_gives {dt : Nat} {s : State} (running : s.running = true) :
    Gives (.holdTimerExpiry dt) s (settle (later dt s) (holdExpires (later dt s))) := by
  show Host.Outcome.next (whileRunning dt (fun s => settle s (holdExpires s)) s) = _
  rw [whileRunning_of_running _ _ _ running, advance_of_running dt s running]
  rfl

/-- The line released by an expiry of the hold timer: PERMIT, and the line read (R149, R153). -/
theorem release_reads {u : State} (hold : u.monitor.hold = none) :
    (release u).monitor.withdrawn = false ∧ (release u).monitor.hold = none ∧
    (release u).monitor.seen = some u.lines.permitHigh ∧
    (u.lines.permitHigh = true → (release u).active (.station .externalTrip) = false) ∧
    (u.lines.permitHigh = false → (release u).monitor.table = u.monitor.table ∧
      (release u).monitor.filter = some { started := u.counter, length := u.stationBlock.filterTime }) := by
  unfold release
  refine ⟨(readLine_withdrawn _).trans (by rfl), (readLine_hold _).trans hold, ?_, fun high => ?_, fun low => ?_⟩
  · unfold readLine
    dsimp only
    split
    · rw [setCondition_seen]
      rfl
    · rfl
  · unfold readLine
    dsimp only
    rw [if_pos (by exact high), setCondition_active_same]
  · unfold readLine
    dsimp only
    have notHigh : ¬u.lines.permitHigh = true := Bool.eq_false_iff.mp low
    rw [if_neg (by exact notHigh)]
    exact ⟨rfl, rfl⟩

/-! ### The edges of the line -/

theorem permitFalls_eq (s : State) :
    permitFalls s = if s.lines.permitHigh = true ∧ s.running = true ∧ s.monitor.withdrawn = false then
        (s.withLines { s.lines with permitHigh := false }).withMonitor { s.monitor with
          seen := some false
          filter := some (s.monitor.filter.getD { started := s.counter, length := s.stationBlock.filterTime }) }
      else s.withLines { s.lines with permitHigh := false } := by
  unfold permitFalls
  dsimp only
  simp only [Bool.and_eq_true, Bool.not_eq_true', and_assoc]
  congr 1
  rcases filter : s.monitor.filter with _ | tm
  · rw [show (s.withLines { s.lines with permitHigh := false }).monitor = s.monitor from rfl, filter]
    rfl
  · rw [show (s.withLines { s.lines with permitHigh := false }).monitor = s.monitor from rfl, filter]
    rfl

theorem permitRises_eq (s : State) :
    permitRises s = if s.lines.permitHigh = false ∧ s.running = true ∧ s.monitor.withdrawn = false then
        judge (.station .externalTrip) false ((s.withLines { s.lines with permitHigh := true }).withMonitor
          { s.monitor with seen := some true, filter := none })
      else s.withLines { s.lines with permitHigh := true } := by
  unfold permitRises
  dsimp only
  simp only [Bool.and_eq_true, Bool.not_eq_true', and_assoc]
  rfl

theorem permitLineFall_gives {dt : Nat} (s : State) :
    Gives (.permitLineFall dt) s (permitFalls (advance dt s)) := rfl

theorem permitLineRise_gives {dt : Nat} (s : State) :
    Gives (.permitLineRise dt) s (permitRises (advance dt s)) := rfl

/-! ### The external filter -/

theorem filterExpires_of_not {s : State} (not : ¬Expires s.monitor.filter s) : filterExpires s = s := by
  unfold filterExpires
  split
  · rfl
  next tm running =>
    unfold State.beginsNow
    rw [if_pos]
    rw [decide_eq_true_iff]
    refine Classical.byContradiction fun started => ?_
    exact not ⟨tm, running, started⟩

theorem filterExpires_of_expires {s : State} (expires : Expires s.monitor.filter s) :
    filterExpires s = judge (.station .externalTrip) true (s.withMonitor { s.monitor with filter := none }) := by
  obtain ⟨tm, running, started⟩ := expires
  unfold filterExpires State.beginsNow
  rw [running]
  dsimp only
  rw [if_neg (by rw [decide_eq_true_iff]; exact started)]

theorem externalFilterExpiry_gives {dt : Nat} {s : State} (running : s.running = true) :
    Gives (.externalFilterExpiry dt) s (settle (later dt s) (filterExpires (later dt s))) := by
  show Host.Outcome.next (whileRunning dt (fun s => settle s (filterExpires s)) s) = _
  rw [whileRunning_of_running _ _ _ running, advance_of_running dt s running]
  rfl

theorem judge_on_filter {i : ConditionId} {s : State} (idle : s.monitor.filter = none) :
    (judge i true s).monitor.filter = none := by
  by_cases active : s.active i = true
  · rwa [judge_of_agrees i true s active]
  · rw [judge_on (by simpa using active)]
    split
    · rfl
    · rwa [setCondition_filter]

/-! ### The statement -/

/-- In a part that is not RUNNING the line alone changes (R155). -/
theorem permitEvents_stopped {dt : Nat} {s : State} (stopped : s.running = false) :
    Gives (.holdTimerExpiry dt) s s ∧ Gives (.externalFilterExpiry dt) s s ∧
    Gives (.permitLineFall dt) s (s.withLines { s.lines with permitHigh := false }) ∧
    Gives (.permitLineRise dt) s (s.withLines { s.lines with permitHigh := true }) := by
  refine ⟨congrArg Host.Outcome.next (whileRunning_of_not_running _ _ _ stopped),
    congrArg Host.Outcome.next (whileRunning_of_not_running _ _ _ stopped), ?_, ?_⟩
  · have gives := permitLineFall_gives (dt := dt) s
    rwa [advance_of_not_running dt s stopped, permitFalls_eq, if_neg (by rw [stopped]; simp)] at gives
  · have gives := permitLineRise_gives (dt := dt) s
    rwa [advance_of_not_running dt s stopped, permitRises_eq, if_neg (by rw [stopped]; simp)] at gives

/-- The hold timer expires with nothing left to withhold the permit for (R149). -/
theorem holdTimerExpiry_releases {dt : Nat} {s : State} (running : s.running = true) (inv : PermitInv s)
    (expires : Expires s.monitor.hold (later dt s)) (noTrip : s.tripActive = false) :
    Gives (.holdTimerExpiry dt) s (settle (later dt s)
      (release ((later dt s).withMonitor { s.monitor with hold := none }))) := by
  have gives := holdTimerExpiry_gives (dt := dt) running
  have driven : s.monitor.withdrawn = true := by
    obtain ⟨tm, runs, -⟩ := expires
    rw [inv, runs]
    exact Bool.or_true _
  rw [holdExpires_of_expires (by exact expires), releaseIfFree_of_mayRelease] at gives
  · exact gives
  · exact ⟨driven, rfl, noTrip⟩

/-- Settles O44. -/
theorem permitEvents : Obligations.PermitEvents := by
  intro dt s
  refine ⟨permitEvents_stopped, fun running inv => ?_⟩
  have advanced : advance dt s = later dt s := advance_of_running dt s running
  have falls := permitLineFall_gives (dt := dt) s
  have rises := permitLineRise_gives (dt := dt) s
  rw [advanced] at falls rises
  refine ⟨fun not => ?_, fun expires trip => ?_, fun expires noTrip => ?_, fun high permit => ?_, fun reason => ?_,
    fun low permit => ?_, fun reason => ?_, fun expires => ?_, fun not => ?_⟩
  · have gives := holdTimerExpiry_gives (dt := dt) running
    rwa [holdExpires_of_not (by exact not), settle_of_same_record rfl] at gives
  · have gives := holdTimerExpiry_gives (dt := dt) running
    have mayNot : ¬MayRelease ((later dt s).withMonitor { s.monitor with hold := none }) := fun ⟨_, _, none_⟩ =>
      Bool.false_ne_true (none_.symm.trans trip)
    rw [holdExpires_of_expires (by exact expires)] at gives
    rwa [show (later dt s).monitor = s.monitor from rfl, releaseIfFree_of_not_mayRelease mayNot,
      settle_of_same_record (by rfl)] at gives
  · refine ⟨_, holdTimerExpiry_releases running inv expires noTrip, ?_⟩
    have monitor := monitor_of_granted (granted_settle (later dt s)
      (release ((later dt s).withMonitor { s.monitor with hold := none })))
    unfold State.active
    rw [monitor]
    exact release_reads rfl
  · rwa [permitFalls_eq, if_pos ⟨high, running, permit⟩] at falls
  · rwa [permitFalls_eq, if_neg] at falls
    rintro ⟨high, -, permit⟩
    rcases reason with low | driven
    · exact Bool.false_ne_true (low.symm.trans high)
    · exact Bool.false_ne_true (permit.symm.trans driven)
  · rwa [permitRises_eq, if_pos ⟨low, running, permit⟩] at rises
  · rwa [permitRises_eq, if_neg] at rises
    rintro ⟨low, -, permit⟩
    rcases reason with high | driven
    · exact Bool.false_ne_true (low.symm.trans high)
    · exact Bool.false_ne_true (permit.symm.trans driven)
  · have gives := externalFilterExpiry_gives (dt := dt) running
    rw [filterExpires_of_expires (by exact expires)] at gives
    refine ⟨_, gives, ?_⟩
    have granted := granted_settle (later dt s)
      (judge (.station .externalTrip) true ((later dt s).withMonitor { s.monitor with filter := none }))
    have judged := judged_judge (.station .externalTrip) true ((later dt s).withMonitor { s.monitor with filter := none })
    have beside := beside_trans (beside_of_judged judged) (beside_of_granted granted)
    refine ⟨?_, ?_, beside⟩
    · exact (congrArg Monitor.filter (monitor_of_granted granted)).trans (judge_on_filter rfl)
    · have active := congrArg (fun m => (m.table.get (.station .externalTrip)).active) (monitor_of_granted granted)
      exact active.trans (judge_active_same _ _ _)
  · have gives := externalFilterExpiry_gives (dt := dt) running
    rwa [filterExpires_of_not (by exact not), settle_of_same_record rfl] at gives

end Sys2Proof.Proofs
end

section
/-! The edges of the meter channels and of the detectors. -/

namespace Sys2Proof.Proofs

open Sys2Proof Sys2Proof.Machine Sys2Proof.Safety Sys2Proof.Stated Sys2Proof.Laws

/-! ### A line set to the level it has -/

theorem perRun_set_get_self {α : Type} (t : PerRun α) (r : Run) : t.set r (t.get r) = t := by
  refine PerRun.ext_get _ _ fun q => ?_
  by_cases same : q = r
  · rw [same, PerRun.get_set_same]
  · rw [PerRun.get_set_other _ _ _ _ same]

theorem setChannel_self {l : Lines} {r : Run} {c : Channel} {x : Bool} (same : l.channel r c = x) :
    l.setChannel r c x = l := by
  subst same
  cases c
  · exact congrArg (fun t => { l with channelA := t }) (perRun_set_get_self l.channelA r)
  · exact congrArg (fun t => { l with channelB := t }) (perRun_set_get_self l.channelB r)

theorem setDetector_self {l : Lines} {d : Detector} {x : Bool} (same : l.detector d = x) : l.setDetector d x = l := by
  subst same
  cases d <;> rfl

/-! ### The edges of a channel (R1, R5) -/

theorem risingEdge_of_high {r : Run} {c : Channel} {s : State} (high : s.lines.channel r c = true) :
    risingEdge r c s = s := by
  unfold risingEdge
  rw [if_pos high]

theorem risingEdge_of_low {r : Run} {c : Channel} {s : State} (low : s.lines.channel r c = false)
    (running : s.running = true) :
    risingEdge r c s = (s.withLines (s.lines.setChannel r c true)).setRunPulse r
      ((s.runPulse r).setChannel c
        { (s.runPulse r).channel c with qualifying := some (s.runBlock r).qualTime }) := by
  unfold risingEdge
  rw [if_neg (by rw [low]; exact Bool.false_ne_true)]
  exact if_pos running

theorem risingEdge_of_not_running {r : Run} {c : Channel} {s : State} (off : s.running = false) :
    risingEdge r c s = s.withLines (s.lines.setChannel r c true) := by
  by_cases high : s.lines.channel r c = true
  · rw [risingEdge_of_high high, setChannel_self high]
    rfl
  · unfold risingEdge
    rw [if_neg high]
    exact if_neg (by rw [show State.running _ = s.running from rfl, off]; exact Bool.false_ne_true)

theorem fallEdge_of_qualifying {r : Run} {c : Channel} {s : State} (running : s.running = true)
    (qualifying : ((s.runPulse r).channel c).qualifying ≠ none) :
    fallEdge r c s = (s.withLines (s.lines.setChannel r c false)).setRunPulse r
      ((s.runPulse r).setChannel c
        { (s.runPulse r).channel c with
          qualifying := none, noise := countUp 65535 ((s.runPulse r).channel c).noise }) :=
  if_pos (by rw [running]; exact Option.isSome_iff_ne_none.mpr qualifying)

theorem fallEdge_of_idle {r : Run} {c : Channel} {s : State}
    (idle : s.running = false ∨ ((s.runPulse r).channel c).qualifying = none) :
    fallEdge r c s = s.withLines (s.lines.setChannel r c false) := by
  refine if_neg ?_
  rw [Bool.and_eq_true]
  rintro ⟨running, qualifying⟩
  rcases idle with off | none_
  · rw [off] at running
    exact Bool.false_ne_true running
  · change (((s.runPulse r).channel c).qualifying).isSome = true at qualifying
    rw [none_] at qualifying
    exact Bool.false_ne_true qualifying

/-! ### The edges of a detector (R17, R18) -/

theorem activateDetector_of_active {d : Detector} {s : State} (active : s.lines.detector d = true) :
    activateDetector d s = s := by
  unfold activateDetector
  rw [if_pos active]

theorem activateDetector_of_idle {d : Detector} {s : State} (inactive : s.lines.detector d = false)
    (running : s.running = true) (idle : (s.pulse.detector d).phase = .idle) :
    activateDetector d s = (s.withLines (s.lines.setDetector d true)).setDetector d
      { s.pulse.detector d with phase := .qualifying, debounce := s.proverBlock.debounce } := by
  unfold activateDetector
  rw [if_neg (by rw [inactive]; exact Bool.false_ne_true)]
  exact if_pos (by rw [running]; exact decide_eq_true idle)

theorem activateDetector_of_not_idle {d : Detector} {s : State}
    (not : s.running = false ∨ (s.pulse.detector d).phase ≠ .idle) :
    activateDetector d s = s.withLines (s.lines.setDetector d true) := by
  by_cases active : s.lines.detector d = true
  · rw [activateDetector_of_active active, setDetector_self active]
    rfl
  · unfold activateDetector
    rw [if_neg active]
    refine if_neg ?_
    rw [Bool.and_eq_true]
    rintro ⟨running, idle⟩
    rcases not with off | busy
    · rw [off] at running
      exact Bool.false_ne_true running
    · exact busy (of_decide_eq_true idle)

theorem releaseDetector_of_qualifying {d : Detector} {s : State} (running : s.running = true)
    (qualifying : (s.pulse.detector d).phase = .qualifying) :
    releaseDetector d s = (s.withLines (s.lines.setDetector d false)).setDetector d
      { s.pulse.detector d with phase := .idle } :=
  if_pos (by rw [running]; exact decide_eq_true qualifying)

theorem releaseDetector_of_not_qualifying {d : Detector} {s : State}
    (not : s.running = false ∨ (s.pulse.detector d).phase ≠ .qualifying) :
    releaseDetector d s = s.withLines (s.lines.setDetector d false) := by
  refine if_neg ?_
  rw [Bool.and_eq_true]
  rintro ⟨running, qualifying⟩
  rcases not with off | other
  · rw [off] at running
    exact Bool.false_ne_true running
  · exact other (of_decide_eq_true qualifying)

/-! ### The events -/

/-- An event handed to the part as time has run is that event in the state dt later. -/
theorem gives_of_advance {i : Instr} {dt : Nat} {f : State → State} {s t : State}
    (event : exec i s = .next (f (advance dt s))) (running : s.running = true) (outcome : f (later dt s) = t) :
    Gives i s t := by
  unfold Gives
  rw [event, advance_of_running dt s running]
  exact congrArg Host.Outcome.next outcome

theorem gives_of_halted {i : Instr} {dt : Nat} {f : State → State} {s t : State}
    (event : exec i s = .next (f (advance dt s))) (off : s.running = false) (outcome : f s = t) : Gives i s t := by
  unfold Gives
  rw [event, advance_of_not_running dt s off]
  exact congrArg Host.Outcome.next outcome

theorem gives_whileRunning {i : Instr} {dt : Nat} {f : State → State} {s t : State}
    (event : exec i s = .next (whileRunning dt f s)) (running : s.running = true) (outcome : f (later dt s) = t) :
    Gives i s t := by
  unfold Gives
  rw [event, whileRunning_of_running dt f s running, advance_of_running dt s running]
  exact congrArg Host.Outcome.next outcome

theorem gives_same_of_halted {i : Instr} {dt : Nat} {f : State → State} {s : State}
    (event : exec i s = .next (whileRunning dt f s)) (off : s.running = false) : Gives i s s := by
  unfold Gives
  rw [event, whileRunning_of_not_running dt f s off]

/-- Settles O26: each edge by the level of its line, and whether it starts, ends or leaves a qualification. -/
theorem lineEdges : Obligations.LineEdges := by
  refine ⟨fun dt r c s => ⟨fun running low => ?_, fun running high => ?_, fun off => ⟨?_, ?_⟩,
    fun running qualifying => ?_, fun running idle => ?_⟩, fun dt d s => ⟨fun running inactive idle => ?_,
    fun running inactive busy => ?_, fun running active => ?_, fun running qualifying => ?_,
    fun running not => ?_, fun running dead => ?_, fun running not => ?_, fun off => ⟨?_, ?_, ?_⟩⟩⟩
  · exact gives_of_advance rfl running (risingEdge_of_low low running)
  · exact gives_of_advance rfl running (risingEdge_of_high high)
  · exact gives_of_halted rfl off (risingEdge_of_not_running off)
  · exact gives_of_halted rfl off (fallEdge_of_idle (.inl off))
  · exact gives_of_advance rfl running (fallEdge_of_qualifying running qualifying)
  · exact gives_of_advance rfl running (fallEdge_of_idle (.inr idle))
  · exact gives_of_advance rfl running (activateDetector_of_idle inactive running idle)
  · exact gives_of_advance rfl running (activateDetector_of_not_idle (.inr busy))
  · exact gives_of_advance rfl running (activateDetector_of_active active)
  · exact gives_of_advance rfl running (releaseDetector_of_qualifying running qualifying)
  · exact gives_of_advance rfl running (releaseDetector_of_not_qualifying (.inr not))
  · exact gives_whileRunning rfl running (if_pos dead)
  · exact gives_whileRunning rfl running (if_neg not)
  · exact gives_of_halted rfl off (activateDetector_of_not_idle (.inl off))
  · exact gives_of_halted rfl off (releaseDetector_of_not_qualifying (.inl off))
  · exact gives_same_of_halted rfl off

end Sys2Proof.Proofs
end

section
/-! The timers of a proving record. -/

namespace Sys2Proof.Proofs

open Sys2Proof Sys2Proof.Machine Sys2Proof.Safety Sys2Proof.Stated Sys2Proof.Laws

theorem recordTimeout_of_expires {timer : RecordTimer} {cause : EndCause} {s : State} {x : ProvingRecord}
    (held : s.store.record = some x) (runs : recordTimer x.state = some timer) (started : x.timerStart ≠ s.counter) :
    recordTimeout timer cause s = filed .aborted cause x s := by
  unfold recordTimeout
  rw [held]
  exact (if_pos ⟨runs, decide_eq_false started⟩).trans (abortRecord_of_record held cause)

theorem recordTimeout_of_not {timer : RecordTimer} {cause : EndCause} {s : State}
    (not : ∀ x, s.store.record = some x → recordTimer x.state ≠ some timer ∨ x.timerStart = s.counter) :
    recordTimeout timer cause s = s := by
  unfold recordTimeout
  rcases held : s.store.record with _ | x
  · rfl
  · refine if_neg ?_
    rintro ⟨runs, started⟩
    rcases not x held with other | now
    · exact other runs
    · exact of_decide_eq_false started now

/-- A timer that runs in the states of a list alone aborts a record in one of them, and nothing else (R124). -/
theorem recordTimer_expiry {i : Instr} {dt : Nat} {timer : RecordTimer} {cause : EndCause} {s : State}
    {states : List RecordState}
    (event : exec i s = .next (whileRunning dt (fun s => settle s (recordTimeout timer cause s)) s))
    (inStates : ∀ st, recordTimer st = some timer ↔ st ∈ states) :
    (s.running = false → Gives i s s) ∧
    (∀ x, s.running = true → s.store.record = some x → x.state ∈ states → x.timerStart ≠ (later dt s).counter →
      Gives i s (grant (filed .aborted cause x (later dt s)))) ∧
    (s.running = true → (∀ x, s.store.record = some x → x.state ∉ states ∨ x.timerStart = (later dt s).counter) →
      Gives i s (later dt s)) := by
  refine ⟨gives_same_of_halted event, fun x running held state started => ?_, fun running not => ?_⟩
  · refine gives_whileRunning event running ?_
    rw [recordTimeout_of_expires (x := x) (by exact held) ((inStates _).mpr state) started]
    exact settle_of_ended (x := x) held rfl
  · refine gives_whileRunning event running ?_
    rw [recordTimeout_of_not (s := later dt s) fun x held =>
      (not x held).imp_left fun other runs => other ((inStates _).mp runs)]
    exact settle_of_same_record rfl

/-- Settles O30: the three timers, each by the states that run it. -/
theorem recordTimeouts : Obligations.RecordTimeouts := fun dt s =>
  ⟨recordTimer_expiry rfl (timer := .align) (fun st => by cases st <;> decide),
    recordTimer_expiry rfl (timer := .launch) (fun st => by cases st <;> decide),
    recordTimer_expiry rfl (timer := .pass) (fun st => by cases st <;> decide)⟩

end Sys2Proof.Proofs
end

section
/-! The figures of passes and rounds, and what the controller decides of a round list. -/

namespace Sys2Proof.Proofs

open Sys2Proof Sys2Proof.Machine Sys2Proof.Safety Sys2Proof.Stated Sys2Proof.Laws

/-! ### Values that are no less than 0 -/

theorem quotient_nonneg {a b : Rat} (ha : 0 ≤ a) (hb : 0 ≤ b) : 0 ≤ a / b := by
  have inverse : 0 ≤ b⁻¹ := by
    rcases Rat.le_iff_lt_or_eq.mp hb with positive | zero
    · exact Rat.le_of_lt (Rat.inv_pos.mpr positive)
    · have same : b⁻¹ = 0 := by rw [← zero, Rat.inv_zero]
      exact same ▸ Rat.le_refl
  exact Rat.mul_nonneg ha inverse

theorem sum_nonneg {l : List Rat} (each : ∀ q ∈ l, 0 ≤ q) : 0 ≤ l.sum := by
  induction l with
  | nil => exact Rat.le_refl
  | cons q rest ih =>
    rw [List.sum_cons]
    exact Rat.add_nonneg (each q List.mem_cons_self) (ih fun p mem => each p (List.mem_cons_of_mem q mem))

theorem roundHalf_toNat {x : Rat} (nonneg : 0 ≤ x) : ((roundHalf x).toNat : Int) = roundHalf x :=
  Int.toNat_of_nonneg (le_roundHalf (n := 0) nonneg)

theorem roundTo_toNat (n : Nat) {x : Rat} (nonneg : 0 ≤ x) : ((roundTo n x).toNat : Int) = roundTo n x :=
  roundHalf_toNat (Rat.mul_nonneg nonneg (Rat.pow_nonneg (by decide)))

/-! ### Passes (R109) -/

theorem passFigured_figuresOf (k n : Nat) (d0 p0 d1 p1 : Stamp) :
    PassFigured k n d0 p0 d1 p1 (figuresOf k n d0 p0 d1 p1) := by
  refine ⟨rfl, rfl, rfl, fun dp => ?_, fun dd positive => ?_⟩
  · change (((if stampDiff p1 p0 = 0 then _ else _ : Nat)) : Int) = _
    rw [if_neg (by exact dp)]
    exact roundTo_toNat 3
      (quotient_nonneg (Rat.mul_nonneg Rat.natCast_nonneg Rat.natCast_nonneg) Rat.natCast_nonneg)
  · change (((if stampDiff d1 d0 = 0 ∨ k = 0 then _ else _ : Nat)) : Int) = _
    rw [if_neg (by exact not_or.mpr ⟨dd, positive⟩)]
    have length : (0 : Rat) ≤ (stampDiff d1 d0 : Rat) / (Config.countsPerSecond : Rat) :=
      quotient_nonneg Rat.natCast_nonneg Rat.natCast_nonneg
    exact roundTo_toNat 1 (Rat.mul_nonneg
      (quotient_nonneg (quotient_nonneg Rat.natCast_nonneg Rat.natCast_nonneg) length) (by decide))

/-- The mean of two stored readings at a place of two sets, none where one is absent. -/
theorem meanAt_eq (step i : Nat) (x y : List SetEntry) :
    meanAt step i x y =
      ((x[i]?.bind (·.reading)).bind fun a => (y[i]?.bind (·.reading)).map fun b => meanOf step a.value b.value) := by
  unfold meanAt
  rcases x[i]?.bind (·.reading) with _ | a
  · rfl
  · rcases y[i]?.bind (·.reading) with _ | b <;> rfl

theorem mapM_range_four (f : Nat → Option Int) :
    (List.range 4).mapM f =
      (f 0).bind fun a => (f 1).bind fun b => (f 2).bind fun c => (f 3).bind fun d => some [a, b, c, d] := by
  have four : List.range 4 = [0, 1, 2, 3] := rfl
  rw [four]
  simp only [List.mapM_cons, List.mapM_nil, Option.bind_eq_bind, Option.pure_def, Option.bind_assoc, Option.bind_some]

/-- Four values are listed where none is absent. -/
theorem fourOf_eq (a b c d : Option Int) :
    (match a, b, c, d with
      | some a, some b, some c, some d => some [a, b, c, d]
      | _, _, _, _ => none) =
      a.bind fun a => b.bind fun b => c.bind fun c => d.bind fun d => some [a, b, c, d] := by
  rcases a with _ | a
  · rfl
  rcases b with _ | b
  · rfl
  rcases c with _ | c
  · rfl
  rcases d with _ | d <;> rfl

theorem passConditions_eq (p : PassState) : passConditions p = passMeans p := by
  unfold passConditions passMeans
  rcases p.startAnswer with _ | x | _
  · rfl
  · rcases p.endAnswer with _ | y | _
    · rfl
    · dsimp only
      rw [mapM_range_four]
      refine (fourOf_eq (meanAt 10 0 x y) (meanAt 1 1 x y) (meanAt 10 2 x y) (meanAt 1 3 x y)).trans ?_
      rw [meanAt_eq, meanAt_eq, meanAt_eq, meanAt_eq]
      rfl
    · rfl
  · rfl

/-! ### Rounds (R110, R113) -/

theorem ofMilli_reference (t : Int) : ofMilli (t - Config.referenceTemperature) = (t : Rat) / 1000 - 15 := by
  unfold ofMilli Config.referenceTemperature
  rw [Rat.intCast_sub]
  grind

theorem roundFigured_roundFiguresOf (alpha f vb gamma g k nr : Nat) (c1 c2 : List Int) :
    RoundFigured alpha f vb gamma g k nr c1 c2 (roundFiguresOf alpha f vb gamma g k nr c1 c2) := by
  refine ⟨rfl, rfl, rfl, rfl, ?_, rfl, ?_, ?_, fun some_ => if_neg some_, fun some_ => if_neg some_,
    fun positive vm => if_neg (not_or.mpr ⟨positive, vm⟩)⟩
  · exact congrArg (fun d => roundTo 5 (1 + (gamma : Rat) / 10000000 * d)) (ofMilli_reference _)
  · exact congrArg (fun d => roundTo 5 (1 - (alpha : Rat) / 10000000 * d)) (ofMilli_reference _)
  · exact congrArg (fun d => roundTo 5 (1 - (alpha : Rat) / 10000000 * d)) (ofMilli_reference _)

/-- The mean rate of two passes, taken as a natural number, loses nothing. -/
theorem meanRate_toNat (a b : Nat) :
    ((roundHalf (((a : Rat) + (b : Rat)) / 2)).toNat : Int) = roundHalf (((a : Rat) + (b : Rat)) / 2) :=
  roundHalf_toNat (quotient_nonneg (Rat.add_nonneg Rat.natCast_nonneg Rat.natCast_nonneg) (by decide))

theorem roundEntered_roundEntry (rec : ProvingRecord) (c : RoundState) (p2 : PassState) (f1 f2 : PassFigures)
    (t : State) : RoundEntered rec c p2 f1 f2 t (roundEntry rec c p2 f1 f2 t) := by
  obtain ⟨number, first, second, ⟨invalid, unstable, degraded⟩⟩ := c
  unfold RoundEntered roundEntry
  rw [passConditions_eq, passConditions_eq]
  rcases passMeans first with _ | x
  · exact ⟨rfl, rfl, rfl, rfl, meanRate_toNat _ _, (if_pos (.inr (.inl rfl))).symm, fun _ => rfl,
      fun valid => absurd (.inr (.inl rfl)) valid⟩
  rcases passMeans p2 with _ | y
  · exact ⟨rfl, rfl, rfl, rfl, meanRate_toNat _ _, (if_pos (.inr (.inr rfl))).symm, fun _ => rfl,
      fun valid => absurd (.inr (.inr rfl)) valid⟩
  cases invalid
  · have valid : ¬(false = true ∨ some x = none ∨ some y = none) := by simp
    refine ⟨rfl, rfl, rfl, rfl, meanRate_toNat _ _, (if_neg valid).symm, fun no => absurd no valid, ?_⟩
    intro _ _ isFirst _ isSecond
    cases isFirst
    cases isSecond
    exact ⟨_, rfl, roundFigured_roundFiguresOf _ _ _ _ _ _ _ _ _⟩
  · exact ⟨rfl, rfl, rfl, rfl, meanRate_toNat _ _, (if_pos (.inl rfl)).symm, fun _ => rfl,
      fun valid => absurd (.inl rfl) valid⟩

/-! ### The spread of a list of factors (R114) -/

theorem min?_cons_eq_listMin (x : Int) (rest : List Int) : (x :: rest).min? = some (listMin (x :: rest)) := by
  induction rest generalizing x with
  | nil => rfl
  | cons y rest ih =>
    rw [List.min?_cons, ih]
    rfl

theorem max?_cons_eq_listMax (x : Int) (rest : List Int) : (x :: rest).max? = some (listMax (x :: rest)) := by
  induction rest generalizing x with
  | nil => rfl
  | cons y rest ih =>
    rw [List.max?_cons, ih]
    rfl

theorem spreadOf_eq {l : List Int} {lo hi : Int} (least : lo ∈ l.min?) (greatest : hi ∈ l.max?) (some_ : lo ≠ 0) :
    spreadOf l = ((hi - lo : Int) : Rat) / (lo : Rat) := by
  rcases l with _ | ⟨x, rest⟩
  · exact absurd least (Option.not_mem_none lo)
  · rw [min?_cons_eq_listMin] at least
    rw [max?_cons_eq_listMax] at greatest
    cases least
    cases greatest
    exact if_neg some_

/-! ### What the controller decides (R114, R115) -/

theorem entryFactor_eq (e : RoundEntry) : entryFactor e = (e.figures.map (·.mf)).getD 0 := by
  unfold entryFactor
  cases e.figures <;> rfl

theorem formResult_rate (es : List RoundEntry) (time : Nat) :
    ((formResult es time).rate : Int) = roundHalf (((es.map (·.rate)).sum : Rat) / (es.length : Rat)) :=
  roundHalf_toNat (quotient_nonneg (sum_nonneg fun q isRate => by
    obtain ⟨e, _, same⟩ := List.mem_map.mp isRate
    rw [← same]
    exact Rat.natCast_nonneg) Rat.natCast_nonneg)

/-- The record a formed result makes of its record, in or out of the range of MF (R115). -/
theorem decides_judgeResult {x : ProvingRecord} {t : State} (es : List RoundEntry) (res : ProvingResult)
    (formed : res = formResult es t.clock) :
    ∃ res' : ProvingResult, res'.spread = res.spread ∧ res'.rounds = es.map (·.number) ∧ res'.time = t.clock ∧
      res'.mf = res.mf ∧ (res'.rate : Int) = roundHalf (((es.map (·.rate)).sum : Rat) / (es.length : Rat)) ∧
      if res'.mf < 8000 ∨ 12000 < res'.mf then
        res'.curveValue = none ∧ res'.deviating = false ∧
          judgeResult x res t = filed .failed .mfRange { x with result := some res' } t
      else
        res'.curveValue = some (lookup (t.store.curves.get x.request.run) res'.rate) ∧
        (res'.deviating = true ↔ t.proverBlock.deviation <
          (res'.mf - (lookup (t.store.curves.get x.request.run) res'.rate : Int)).natAbs) ∧
        judgeResult x res t = t.withStore { t.store with
          record := none
          results := t.store.results.set x.request.run
            (some { x with result := some res', state := .complete, ended := some t.clock, current := none }) } := by
  have rate : (res.rate : Int) = _ := formed ▸ formResult_rate es t.clock
  unfold judgeResult
  by_cases range : res.mf < 8000 ∨ 12000 < res.mf
  · refine ⟨res, rfl, formed ▸ rfl, formed ▸ rfl, rfl, rate, ?_⟩
    rw [if_pos range, if_pos range]
    exact ⟨formed ▸ rfl, formed ▸ rfl, rfl⟩
  · refine ⟨{ res with
        curveValue := some (lookup (t.store.curves.get x.request.run) res.rate)
        deviating := decide (t.proverBlock.deviation <
          (res.mf - (lookup (t.store.curves.get x.request.run) res.rate : Int)).natAbs) },
      rfl, formed ▸ rfl, formed ▸ rfl, rfl, rate, ?_⟩
    rw [if_neg range, if_neg (by exact range)]
    exact ⟨rfl, decide_eq_true_iff, rfl⟩

theorem decides_afterRound (x : ProvingRecord) (t : State) : Decides x t (afterRound x t) := by
  unfold Decides
  dsimp only
  refine ⟨spreadOf ((latestAccepted x.request.rounds x.rounds).map entryFactor), ?_, ?_⟩
  · intro lo least hi greatest some_
    simp only [← entryFactor_eq] at least greatest
    exact spreadOf_eq least greatest some_
  · simp only [← entryFactor_eq]
    by_cases formed : x.request.rounds ≤ x.accepted ∧
        spreadOf ((latestAccepted x.request.rounds x.rounds).map entryFactor) ≤ (x.request.limit : Rat) / 10000
    · rw [if_pos (by exact formed), show afterRound x t = judgeResult x _ t from if_pos formed]
      exact decides_judgeResult _ (formResult (latestAccepted x.request.rounds x.rounds) t.clock) rfl
    · rw [if_neg (by exact formed)]
      by_cases last : x.request.attempts ≤ x.attempts
      · exact (if_pos last).mpr ((if_neg formed).trans (if_pos last))
      · exact (if_neg last).mpr ((if_neg formed).trans (if_neg last))

end Sys2Proof.Proofs
end

section
/-! Pulses delivered to the proving, and how a record goes on with its round. -/

namespace Sys2Proof.Proofs

open Sys2Proof Sys2Proof.Machine Sys2Proof.Safety Sys2Proof.Stated Sys2Proof.Laws

/-! ### The pass in progress -/

theorem currentPass_eq (c : RoundState) : currentPass c = inProgress c := by
  unfold currentPass inProgress
  cases c.second <;> rfl

theorem setCurrentPass_eq (c : RoundState) (p : PassState) : setCurrentPass c p = withPass c p := by
  unfold setCurrentPass withPass
  cases c.second <;> rfl

/-! ### A record goes on (R106) -/

theorem goesOn_tryComplete (rec : ProvingRecord) (c : RoundState) (t : State) :
    GoesOn rec c t (tryComplete { rec with current := some c } t) := by
  obtain ⟨number, first, second, marks⟩ := c
  unfold GoesOn tryComplete
  rcases second with _ | p2
  · rfl
  dsimp only [Option.bind_some]
  rcases first.figures with _ | f1
  · rfl
  rcases p2.figures with _ | f2
  · rfl
  dsimp only
  split
  · exact ⟨_, roundEntered_roundEntry _ _ p2 f1 f2 t, decides_afterRound _ t⟩
  · rfl

/-! ### A pulse delivered (R105, R106) -/

theorem passPulse_eq (rec : ProvingRecord) (c : RoundState) (t : State) :
    passPulse rec c t.counter t = recorded { rec with current := some (withPass c
      (if (inProgress c).p0 = none then { inProgress c with p0 := some t.counter, count := 0 }
        else { inProgress c with count := (inProgress c).count + 1 })) } t := by
  unfold passPulse
  rw [currentPass_eq]
  dsimp only
  rw [setCurrentPass_eq]
  simp only [Option.isNone_iff_eq_none]
  rfl

/-- The tail pulse turns a first pass to TURN, and lets the record go on with a second (R106). -/
theorem goesOn_tailPulse (rec : ProvingRecord) (c cur : RoundState) (t : State) :
    let u := if c.second.isNone then
        t.setRecord (some { rec with state := .turn, timerStart := t.counter, current := some cur })
      else tryComplete { rec with current := some cur } t
    if c.second = none then u = recorded { rec with state := .turn, timerStart := t.counter, current := some cur } t
    else GoesOn rec cur t u := by
  rcases c.second with _ | p2
  · exact (if_pos rfl).mpr rfl
  · exact (if_neg (Option.some_ne_none p2)).mpr (goesOn_tryComplete rec cur t)

theorem takePulse_of_none {r : Run} {dir : Bool} {s : State} (none_ : s.store.record = none) (t : Stamp) :
    takePulse r dir t s = s := by
  unfold takePulse
  rw [none_]

section TakePulse

variable {r : Run} {dir : Bool} {s : State} {rec : ProvingRecord} (held : s.store.record = some rec)

include held

theorem takePulse_of_other (other : ¬(rec.request.run = r ∧ dir = true)) (t : Stamp) : takePulse r dir t s = s := by
  unfold takePulse
  rw [held]
  exact if_neg other

theorem takePulse_of_pass {c : RoundState} (own : rec.request.run = r ∧ dir = true) (pass : rec.state = .pass)
    (current : rec.current = some c) (t : Stamp) : takePulse r dir t s = passPulse rec c t s := by
  unfold takePulse
  rw [held]
  dsimp only
  rw [if_pos own, pass, current]

theorem takePulse_of_tail {c : RoundState} (own : rec.request.run = r ∧ dir = true) (tail : rec.state = .tail)
    (current : rec.current = some c) (t : Stamp) : takePulse r dir t s = tailPulse rec c t s := by
  unfold takePulse
  rw [held]
  dsimp only
  rw [if_pos own, tail, current]

theorem takePulse_of_idle (notPass : ∀ c, rec.state = .pass → rec.current = some c → False)
    (notTail : ∀ c, rec.state = .tail → rec.current = some c → False) (t : Stamp) : takePulse r dir t s = s := by
  unfold takePulse
  rw [held]
  dsimp only
  split
  · split
    next c pass current => exact (notPass c pass current).elim
    next c tail current => exact (notTail c tail current).elim
    next => rfl
  · rfl

end TakePulse

theorem delivered_deliverPulse (r : Run) (c : Channel) (dir : Bool) (t : State) :
    Delivered r c dir t (deliverPulse r c dir t) := by
  unfold Delivered deliverPulse
  rcases held : t.store.record with _ | rec
  · rw [takePulse_of_none held]
    exact ite_self _
  dsimp only
  by_cases counting : (t.runPulse r).counting = c
  rotate_left
  · rw [if_neg counting, if_neg fun all => counting all.2.1]
  by_cases own : rec.request.run = r ∧ dir = true
  rotate_left
  · rw [if_pos counting, if_neg fun all => own ⟨all.1, all.2.2⟩, takePulse_of_other held own]
  rw [if_pos counting, if_pos ⟨own.1, counting, own.2⟩]
  split
  next pass current =>
    rw [takePulse_of_pass held own pass current]
    exact passPulse_eq _ _ _
  next cur tail current =>
    rw [takePulse_of_tail held own tail current]
    unfold tailPulse
    dsimp only
    rw [currentPass_eq]
    generalize inProgress cur = p
    obtain ⟨start, startRate, d0, p0, d1, p1, count, figures, startAnswer, endAnswer⟩ := p
    rcases d0 with _ | d0
    · rfl
    rcases p0 with _ | p0
    · rfl
    rcases d1 with _ | d1
    · rfl
    rcases p1 with _ | p1
    · refine ⟨_, passFigured_figuresOf _ _ _ _ _ _, ?_⟩
      dsimp only
      rw [setCurrentPass_eq]
      exact goesOn_tailPulse _ _ _ _
    · rfl
  next notPass notTail => exact takePulse_of_idle held notPass notTail _

/-! ### What a pulse reaches -/

theorem onlyProving_refl (s : State) : OnlyProving s s := rfl

theorem onlyProving_trans {s t u : State} (h : OnlyProving s t) (g : OnlyProving t u) : OnlyProving s u := by
  unfold OnlyProving at h g ⊢
  rw [g, h]
  rfl

theorem onlyProving_setRecord (s : State) (x : Option ProvingRecord) : OnlyProving s (s.setRecord x) := rfl

theorem onlyProving_endRecord (st : RecordState) (cause : EndCause) (s : State) : OnlyProving s (endRecord st cause s) := by
  unfold endRecord
  split <;> rfl

theorem onlyProving_judgeResult (x : ProvingRecord) (res : ProvingResult) (s : State) :
    OnlyProving s (judgeResult x res s) := by
  unfold judgeResult
  split
  · exact onlyProving_trans (onlyProving_setRecord _ _) (onlyProving_endRecord _ _ _)
  · rfl

theorem onlyProving_afterRound (x : ProvingRecord) (s : State) : OnlyProving s (afterRound x s) := by
  unfold afterRound
  dsimp only
  split
  · exact onlyProving_judgeResult _ _ _
  split
  · exact onlyProving_trans (onlyProving_setRecord _ _) (onlyProving_endRecord _ _ _)
  · exact onlyProving_setRecord _ _

theorem onlyProving_tryComplete (x : ProvingRecord) (s : State) : OnlyProving s (tryComplete x s) := by
  unfold tryComplete
  split
  · exact onlyProving_setRecord _ _
  split
  · exact onlyProving_setRecord _ _
  split
  · split
    · exact onlyProving_afterRound _ _
    · exact onlyProving_setRecord _ _
  · exact onlyProving_setRecord _ _

theorem onlyProving_tailPulse (x : ProvingRecord) (c : RoundState) (t : Stamp) (s : State) :
    OnlyProving s (tailPulse x c t s) := by
  unfold tailPulse
  dsimp only
  split
  · split
    · exact onlyProving_setRecord _ _
    · exact onlyProving_tryComplete _ _
  · exact onlyProving_refl s

theorem onlyProving_deliverPulse (r : Run) (c : Channel) (dir : Bool) (s : State) :
    OnlyProving s (deliverPulse r c dir s) := by
  unfold deliverPulse takePulse
  split
  · split
    · exact onlyProving_refl s
    · split
      · split
        · exact onlyProving_setRecord _ _
        · exact onlyProving_tailPulse _ _ _ _
        · exact onlyProving_refl s
      · exact onlyProving_refl s
  · exact onlyProving_refl s

theorem onlyProving_of_granted {s t : State} (granted : Granted s t) : OnlyProving s t := by
  have results : t.store.results = s.store.results := by rw [granted]; rfl
  unfold OnlyProving
  rw [results]
  exact granted

theorem leaving_eq_settle (s t : State) : leaving s t = settle s t := by
  unfold leaving settle
  rcases t.store.record with _ | x <;> cases s.store.record <;> rfl

/-! ### The accepted pulse (R1, R2) -/

theorem countPulse_eq (dir : Bool) (x : PulseChannel) : countPulse dir x = counted dir x := by
  cases dir <;> rfl

theorem pulseForward_iff (s : State) (r : Run) (c : Channel) : pulseForward s r c = true ↔ forward s r c := by
  unfold pulseForward forward
  by_cases lost : ((s.runPulse r).channel (otherChannel c)).lost = true
  · rw [if_pos lost]
    exact iff_of_true rfl (.inl lost)
  · rw [if_neg lost, or_iff_right lost]
    cases c
    · exact iff_of_eq (Bool.not_eq_true' _)
    · exact Iff.rfl

/-- The pulse of a direction counted in the run's pulse state (R2, R3, R13). -/
def countedState (r : Run) (c : Channel) (dir : Bool) (s : State) : State :=
  s.setRunPulse r ((s.runPulse r).setChannel c (counted dir ((s.runPulse r).channel c)))

theorem qualificationExpires_of_accepted {fault dir : Bool} {r : Run} {c : Channel} {s : State}
    (qualifying : ((s.runPulse r).channel c).qualifying ≠ none) (high : s.lines.channel r c = true)
    (direction : dir = true ↔ forward s r c) :
    qualificationExpires fault r c s = closeIfFull fault r (deliverPulse r c dir (countedState r c dir s)) := by
  have same : pulseForward s r c = dir := Bool.eq_iff_iff.mpr ((pulseForward_iff s r c).trans direction.symm)
  unfold qualificationExpires acceptPulse countedState
  rw [if_pos (by rw [high, Option.isSome_iff_ne_none.mpr qualifying]; rfl), ← countPulse_eq, ← same]

theorem qualificationExpires_of_not {fault : Bool} {r : Run} {c : Channel} {s : State}
    (not : ((s.runPulse r).channel c).qualifying = none ∨ s.lines.channel r c = false) :
    qualificationExpires fault r c s = s := by
  refine if_neg ?_
  rw [Bool.and_eq_true]
  rintro ⟨qualifying, high⟩
  rcases not with none_ | low
  · rw [none_] at qualifying
    exact Bool.false_ne_true qualifying
  · rw [low] at high
    exact Bool.false_ne_true high

theorem runPulse_of_onlyProving {s t : State} (only : OnlyProving s t) (r : Run) : t.runPulse r = s.runPulse r := by
  rw [only]
  rfl

theorem runPulse_countedState (r : Run) (c : Channel) (dir : Bool) (s : State) :
    (countedState r c dir s).runPulse r = (s.runPulse r).setChannel c (counted dir ((s.runPulse r).channel c)) :=
  PerRun.get_set_same _ _ _

/-- The window stays open after a pulse that leaves both counts below W (R6). -/
theorem closeIfFull_of_open {fault : Bool} {r : Run} {s : State}
    (a : (s.runPulse r).a.window < (s.runPulse r).w) (b : (s.runPulse r).b.window < (s.runPulse r).w) :
    closeIfFull fault r s = s :=
  if_neg (Nat.not_le.mpr (Nat.max_lt.mpr ⟨a, b⟩))

/-- Settles O27: the pulse is counted, then delivered, and the window it leaves open does not close. -/
theorem acceptedPulseIsCounted : Obligations.AcceptedPulseIsCounted := by
  intro dt r c fault dir s
  refine ⟨gives_same_of_halted rfl, fun running => ⟨fun qualifying high direction below other => ?_, fun not => ?_⟩⟩
  · have only := onlyProving_deliverPulse r c dir (countedState r c dir (later dt s))
    have pulse := (runPulse_of_onlyProving only r).trans (runPulse_countedState r c dir _)
    refine ⟨deliverPulse r c dir (countedState r c dir (later dt s)), delivered_deliverPulse r c dir _, ?_, ?_⟩
    · refine gives_whileRunning rfl running ?_
      rw [qualificationExpires_of_accepted (s := later dt s) qualifying high direction, closeIfFull_of_open,
        leaving_eq_settle]
      · rfl
      all_goals rw [pulse]
      all_goals cases c
      · exact below
      · exact other
      · exact other
      · exact below
    · rw [leaving_eq_settle]
      exact onlyProving_trans only (onlyProving_of_granted (granted_settle s _))
  · refine gives_whileRunning rfl running ?_
    rw [qualificationExpires_of_not (s := later dt s) not]
    exact settle_of_same_record rfl

end Sys2Proof.Proofs
end

section
/-! Accepted activations: chains requested, passes begun and ended. -/

namespace Sys2Proof.Proofs

open Sys2Proof Sys2Proof.Machine Sys2Proof.Safety Sys2Proof.Stated Sys2Proof.Laws

/-! ### Chains (R31, R32, R108) -/

theorem requestChain_eq (tag : ChainTag) (points : List (Fin 16)) (t : State) :
    requestChain { tag := tag, points := points, left := points } t =
      (t.withScanner (asked tag points t), !loses t) := by
  unfold requestChain asked loses
  rcases t.scanner.active with _ | ch
  · dsimp only
    rw [nextConversion_eq]
    cases points <;> rfl
  · rcases t.scanner.waiting with _ | w <;> rfl

/-- A round with the answer to a chain of a tag kept with its activation, and marked where the answer is invalid. -/
def answeredRound (tag : ChainTag) (a : ChainAnswer) (c : RoundState) : RoundState :=
  let marks := { c.marks with readingInvalid := c.marks.readingInvalid || answerInvalid a }
  if tag.pass = 1 then { c with first := storeAnswer tag.ends a c.first, marks := marks }
  else { c with second := c.second.map (storeAnswer tag.ends a), marks := marks }

theorem markInvalid_eq (m : RoundMarks) (a : ChainAnswer) :
    (if answerInvalid a then { m with readingInvalid := true } else m) =
      { m with readingInvalid := m.readingInvalid || answerInvalid a } := by
  obtain ⟨invalid, unstable, degraded⟩ := m
  cases answerInvalid a <;> cases invalid <;> rfl

theorem takeAnswer_of_current {tag : ChainTag} {a : ChainAnswer} {t : State} {x : ProvingRecord} {c : RoundState}
    (held : t.store.record = some x) (current : x.current = some c) (record : tag.record = x.number)
    (round : tag.round = c.number) :
    takeAnswer tag a t = tryComplete { x with current := some (answeredRound tag a c) } t := by
  unfold takeAnswer answeredRound
  rw [held]
  dsimp only
  rw [current]
  dsimp only
  rw [if_pos ⟨record, round⟩, markInvalid_eq]

/-- A round whose second pass has no figures does not complete (R106). -/
theorem tryComplete_of_unfinished {x : ProvingRecord} {c : RoundState} {t : State}
    (unfinished : c.second.bind (·.figures) = none) :
    tryComplete { x with current := some c } t = recorded { x with current := some c } t := by
  unfold tryComplete
  rcases second : c.second with _ | p2
  · dsimp only
    rw [second]
    rfl
  · rw [second, Option.bind_some] at unfinished
    dsimp only
    rw [second]
    dsimp only
    rw [unfinished]
    split
    · exact absurd ‹none = some _› nofun
    · rfl

theorem answeredRound_unfinished {tag : ChainTag} {a : ChainAnswer} {c : RoundState}
    (unfinished : c.second.bind (·.figures) = none) : (answeredRound tag a c).second.bind (·.figures) = none := by
  unfold answeredRound
  dsimp only
  split
  · exact unfinished
  · rcases second : c.second with _ | p2
    · rfl
    · rw [second] at unfinished
      exact (storeAnswer_figures _ _ _).trans unfinished

/-- The chain of a record requested for the round in progress, which cannot complete at it: taken, or refused and answered
at once as lost (R32, R108). -/
theorem chainFor_recorded {tag : ChainTag} {x : ProvingRecord} {c : RoundState} {t : State}
    (current : x.current = some c) (record : tag.record = x.number) (round : tag.round = c.number)
    (unfinished : c.second.bind (·.figures) = none) :
    chainFor tag (recorded x t) =
      recorded (if loses t then { x with current := some (answeredRound tag .lost c) } else x)
        (t.withScanner (asked tag x.chain t)) := by
  have requested : chainFor tag (recorded x t) =
      if loses t then takeAnswer tag .lost ((recorded x t).withScanner (asked tag x.chain t))
      else (recorded x t).withScanner (asked tag x.chain t) := by
    show (if (requestChain _ (recorded x t)).2 then _ else _) = _
    rw [requestChain_eq]
    show (if (!loses t) = true then _ else _) = _
    cases loses t <;> rfl
  rw [requested]
  cases loses t
  · rfl
  · exact (takeAnswer_of_current (t := (recorded x t).withScanner (asked tag x.chain t)) rfl current record round).trans
      (tryComplete_of_unfinished (answeredRound_unfinished unfinished))

/-! ### Activations (R103 to R107) -/

theorem settle_of_held {s t : State} {x : ProvingRecord} (held : t.store.record = some x) : settle s t = t := by
  unfold settle
  rw [held, Option.isNone_some, Bool.and_false]
  rfl

theorem debounceExpires_of_qualifying {d : Detector} {s : State} (qualifying : (s.pulse.detector d).phase = .qualifying) :
    debounceExpires d s = takeActivation d s.counter
      (s.setDetector d { s.pulse.detector d with phase := .dead, last := some s.counter }) := if_pos qualifying

theorem takeActivation_of_armed {d : Detector} {t : State} {rec : ProvingRecord} (held : t.store.record = some rec)
    (armed : rec.state = .armed) :
    takeActivation d t.counter t = recorded { rec with
      state := .pass
      timerStart := t.counter
      current := some
        { number := rec.attempts + 1, first := begun d rec t, second := none
          marks := { readingInvalid := loses t, flowUnstable := false,
                     runDegraded := decide (t.integrity rec.request.run ≠ .sound) } } }
      (t.withScanner (asked { record := rec.number, round := rec.attempts + 1, pass := 1, ends := false } rec.chain t)) := by
  unfold takeActivation
  rw [held]
  dsimp only
  rw [armed]
  refine (chainFor_recorded rfl rfl rfl rfl).trans ?_
  unfold begun
  cases loses t <;> rfl

theorem takeActivation_of_tail {d : Detector} {t : State} {rec : ProvingRecord} (held : t.store.record = some rec)
    (tail : rec.state = .tail) (stamp : Stamp) : takeActivation d stamp t = filed .aborted .sequence rec t := by
  unfold takeActivation
  rw [held]
  dsimp only
  rw [tail]
  exact abortRecord_of_record held _

theorem takeActivation_of_aligning {d : Detector} {t : State} {rec : ProvingRecord} (held : t.store.record = some rec)
    (aligning : rec.state = .aligning) (stamp : Stamp) : takeActivation d stamp t = t := by
  unfold takeActivation
  rw [held]
  dsimp only
  rw [aligning]

theorem takeActivation_of_pass {d : Detector} {t : State} {rec : ProvingRecord} {c : RoundState}
    (held : t.store.record = some rec) (pass : rec.state = .pass) (current : rec.current = some c) (stamp : Stamp) :
    takeActivation d stamp t = passActivation rec c d stamp t := by
  unfold takeActivation
  rw [held]
  dsimp only
  rw [pass, current]

theorem takeActivation_of_turn {d : Detector} {t : State} {rec : ProvingRecord} {c : RoundState}
    (held : t.store.record = some rec) (turn : rec.state = .turn) (current : rec.current = some c) (stamp : Stamp) :
    takeActivation d stamp t = turnActivation rec c d stamp t := by
  unfold takeActivation
  rw [held]
  dsimp only
  rw [turn, current]

theorem passActivation_of_sequence {d : Detector} {t : State} {rec : ProvingRecord} {c : RoundState}
    (held : t.store.record = some rec) (sequence : d = (inProgress c).start ∨ (inProgress c).p0 = none) (stamp : Stamp) :
    passActivation rec c d stamp t = filed .aborted .sequence rec t := by
  unfold passActivation
  rw [currentPass_eq]
  exact (if_pos (sequence.imp_right Option.isNone_iff_eq_none.mpr)).trans (abortRecord_of_record held _)

/-- The activation at the end detector ends the sweep (R105). -/
theorem passActivation_of_end {d : Detector} {t : State} {rec : ProvingRecord} {c : RoundState}
    (noFigures : (inProgress c).figures = none) (other : d ≠ (inProgress c).start) (started : (inProgress c).p0 ≠ none) :
    passActivation rec c d t.counter t = recorded { rec with
      state := .tail
      current := some { withPass c { inProgress c with
          d1 := some t.counter, endAnswer := if loses t then some .lost else (inProgress c).endAnswer } with
        marks := { c.marks with readingInvalid := c.marks.readingInvalid || loses t } } }
      (t.withScanner (asked
        { record := rec.number, round := c.number, pass := if c.second.isSome then 2 else 1, ends := true } rec.chain t)) := by
  unfold passActivation
  rw [currentPass_eq]
  refine (if_neg (not_or.mpr ⟨other, fun none_ => started (Option.isNone_iff_eq_none.mp none_)⟩)).trans ?_
  rw [setCurrentPass_eq]
  obtain ⟨number, first, second, invalid, unstable, degraded⟩ := c
  rcases second with _ | p2
  · refine (chainFor_recorded rfl rfl rfl rfl).trans ?_
    cases loses t <;> cases invalid <;> rfl
  · refine (chainFor_recorded rfl rfl rfl (by exact noFigures)).trans ?_
    cases loses t <;> cases invalid <;> rfl

theorem turnActivation_of_sequence {d : Detector} {t : State} {rec : ProvingRecord} {c : RoundState}
    (held : t.store.record = some rec) (sequence : d = c.first.start) (stamp : Stamp) :
    turnActivation rec c d stamp t = filed .aborted .sequence rec t :=
  (if_pos sequence).trans (abortRecord_of_record held _)

/-- The activation at the detector where the first pass ended begins the second (R107). -/
theorem turnActivation_of_begin {d : Detector} {t : State} {rec : ProvingRecord} {c : RoundState}
    (other : d ≠ c.first.start) :
    turnActivation rec c d t.counter t = recorded { rec with
      state := .pass
      timerStart := t.counter
      current := some { c with
        second := some (begun d rec t)
        marks := { c.marks with readingInvalid := c.marks.readingInvalid || loses t } } }
      (t.withScanner (asked { record := rec.number, round := c.number, pass := 2, ends := false } rec.chain t)) := by
  refine (if_neg other).trans ((chainFor_recorded rfl rfl rfl rfl).trans ?_)
  obtain ⟨number, first, second, invalid, unstable, degraded⟩ := c
  unfold begun
  cases loses t <;> cases invalid <;> rfl

theorem noFigures_of_pass {s : State} (holds : ProverInv s) {rec : ProvingRecord} (held : s.store.record = some rec)
    (pass : rec.state = .pass) {c : RoundState} (current : rec.current = some c) : (inProgress c).figures = none := by
  obtain ⟨c', current', noFigures⟩ := (((proverInv_iff s).mp holds).2.2.1 rec held).2 (.inl pass)
  rw [current] at current'
  obtain rfl := Option.some.inj current'
  rw [← currentPass_eq]
  exact noFigures pass

/-- The state with the activation of a detector stamped now, and the detector DEAD (R16, R17). -/
def stampedState (d : Detector) (s : State) : State :=
  s.setDetector d { s.pulse.detector d with phase := .dead, last := some s.counter }

theorem debounceExpiry_gives {dt : Nat} {d : Detector} {s t : State} (running : s.running = true)
    (qualifying : (s.pulse.detector d).phase = .qualifying)
    (outcome : settle (later dt s) (takeActivation d (later dt s).counter (stampedState d (later dt s))) = t) :
    Gives (.debounceExpiry dt d) s t := by
  refine gives_whileRunning rfl running ?_
  rw [debounceExpires_of_qualifying (s := later dt s) qualifying]
  exact outcome

theorem settle_filed {s t : State} {x : ProvingRecord} (held : s.store.record = some x) (st : RecordState)
    (cause : EndCause) : settle s (filed st cause x t) = grant (filed st cause x t) := settle_of_ended held rfl

theorem settle_recorded (s t : State) (x : ProvingRecord) : settle s (recorded x t) = recorded x t :=
  settle_of_held (x := x) rfl

/-- Settles O29: the activation by the state of the record that holds the prover. -/
theorem acceptedActivation : Obligations.AcceptedActivation := by
  intro dt d s
  refine ⟨gives_same_of_halted rfl, fun running holds => ?_⟩
  refine ⟨fun not => ?_, fun qualifying free => ?_, fun qualifying rec held => ?_⟩
  · exact gives_whileRunning rfl running ((congrArg (settle _) (if_neg not)).trans (settle_of_same_record rfl))
  · refine debounceExpiry_gives running qualifying ?_
    have taken : takeActivation d (later dt s).counter (stampedState d (later dt s)) = stampedState d (later dt s) := by
      unfold takeActivation
      rw [show (stampedState d (later dt s)).store.record = none from free]
    rw [taken]
    exact settle_of_same_record rfl
  · have held' : (stampedState d (later dt s)).store.record = some rec := held
    refine ⟨fun aligning => ?_, fun armed => ?_, fun tail => ?_, fun c current pass => ⟨fun sequence => ?_,
      fun other started => ?_⟩, fun c current turn => ⟨fun sequence => ?_, fun other => ?_⟩⟩ <;>
      refine debounceExpiry_gives running qualifying ?_
    · rw [takeActivation_of_aligning held' aligning]
      exact settle_of_same_record rfl
    · exact (congrArg (settle _) (takeActivation_of_armed held' armed)).trans (settle_recorded _ _ _)
    · rw [takeActivation_of_tail held' tail]
      exact settle_filed held _ _
    · rw [takeActivation_of_pass held' pass current, passActivation_of_sequence held' sequence]
      exact settle_filed held _ _
    · rw [takeActivation_of_pass held' pass current]
      exact (congrArg (settle _) (passActivation_of_end (noFigures_of_pass holds held pass current) other started)).trans
        (settle_recorded _ _ _)
    · rw [takeActivation_of_turn held' turn current, turnActivation_of_sequence held' sequence]
      exact settle_filed held _ _
    · rw [takeActivation_of_turn held' turn current]
      exact (congrArg (settle _) (turnActivation_of_begin other)).trans (settle_recorded _ _ _)

end Sys2Proof.Proofs
end

section
/-! A stored reading: the statuses it gives, and TEMPERATURE_DEVIATION. -/

namespace Sys2Proof.Proofs

open Sys2Proof Sys2Proof.Machine Sys2Proof.Safety Sys2Proof.Stated Sys2Proof.Laws

/-! ### TEMPERATURE_DEVIATION (R28) -/

theorem runBlock_of_judged {s t : State} (judged : Judged s t) (r : Run) : t.runBlock r = s.runBlock r := by
  rw [judged]
  rfl

theorem pointStatus_of_judged {s t : State} (judged : Judged s t) (p : Fin 16) : t.pointStatus p = s.pointStatus p := by
  unfold State.pointStatus
  rw [judged.scanner]

theorem judgeRuns_deviation (p : Fin 16) (on : Bool) (r : Run) (l : List Run) (s : State) :
    (l.foldl (fun s q =>
      if pointIndex (s.runBlock q).tempPoint = p then judge (.run .temperatureDeviation q) on s else s) s).active
        (.run .temperatureDeviation r) =
      if pointIndex (s.runBlock r).tempPoint = p ∧ r ∈ l then on else s.active (.run .temperatureDeviation r) := by
  induction l generalizing s with
  | nil => rw [if_neg fun both => List.not_mem_nil both.2]; rfl
  | cons q rest ih =>
    rw [List.foldl_cons, ih]
    by_cases measured : pointIndex (s.runBlock q).tempPoint = p
    · rw [if_pos measured, runBlock_of_judged (judged_judge _ on s) r]
      by_cases same : r = q
      · subst same
        rw [judge_active_same, ite_self, if_pos ⟨measured, List.mem_cons_self⟩]
      · rw [judge_active_other (by simp [same]) (by simp)]
        simp only [List.mem_cons, same, false_or]
    · rw [if_neg measured]
      by_cases same : r = q
      · subst same
        rw [if_neg fun both => measured both.1, if_neg fun both => measured both.1]
      · simp only [List.mem_cons, same, false_or]

theorem judgeDeviation_active (p : Fin 16) (on : Bool) (r : Run) (s : State) :
    (judgeDeviation p on s).active (.run .temperatureDeviation r) =
      if pointIndex (s.runBlock r).tempPoint = p then on else s.active (.run .temperatureDeviation r) := by
  have all : r ∈ allRuns := by cases r <;> decide
  refine (judgeRuns_deviation p on r allRuns s).trans ?_
  simp only [all, and_true]

theorem judged_judgeDeviation (p : Fin 16) (on : Bool) (s : State) : Judged s (judgeDeviation p on s) :=
  judged_foldl _ (fun s r => by
    split
    · exact judged_judge _ _ _
    · exact .refl s) _ _

theorem judged_statusChanged (p : Fin 16) (old : PointStatus) (s : State) : Judged s (statusChanged p old s) := by
  unfold statusChanged
  dsimp only
  split
  · exact .refl s
  split
  · exact judged_judgeDeviation _ _ _
  split
  · exact judged_judgeDeviation _ _ _
  · exact .refl s

/-- What a change of a point's status makes of the condition. -/
def deviates (old new : PointStatus) (was : Bool) : Bool :=
  if old = new then was else if new = .deviation then true else if old = .deviation then false else was

theorem deviates_same (x : PointStatus) (was : Bool) : deviates x x was = was := if_pos rfl

theorem statusChanged_active (p : Fin 16) (old : PointStatus) (r : Run) (s : State) :
    (statusChanged p old s).active (.run .temperatureDeviation r) =
      if pointIndex (s.runBlock r).tempPoint = p then
        deviates old (s.pointStatus p) (s.active (.run .temperatureDeviation r))
      else s.active (.run .temperatureDeviation r) := by
  unfold statusChanged deviates
  dsimp only
  split
  · exact (ite_self _).symm
  split
  · exact judgeDeviation_active _ _ _ _
  split
  · exact judgeDeviation_active _ _ _ _
  · exact (ite_self _).symm

theorem statusChanged_of_same {p : Fin 16} {old : PointStatus} {s : State}
    (same : old = .deviation ↔ s.pointStatus p = .deviation) : statusChanged p old s = s := by
  unfold statusChanged
  dsimp only
  split
  · rfl
  next changed =>
    have not : s.pointStatus p ≠ .deviation := fun new => changed ((same.mpr new).trans new.symm)
    rw [if_neg not, if_neg fun was => not (same.mp was)]

/-! ### A point's state set -/

theorem setPoint_same (p : Fin 16) (x : PointState) (s : State) : (s.setPoint p x).scanner.points[p] = x :=
  Vector.getElem_set_self _

theorem setPoint_other {p q : Fin 16} (other : q ≠ p) (x : PointState) (s : State) :
    (s.setPoint p x).scanner.points[q] = s.scanner.points[q] :=
  Vector.getElem_set_ne p.isLt q.isLt fun same => other (Fin.ext same.symm)

theorem pointStatus_setPoint_same (p : Fin 16) (x : PointState) (s : State) :
    (s.setPoint p x).pointStatus p = x.status := congrArg _ (setPoint_same p x s)

theorem pointStatus_setPoint_other {p q : Fin 16} (other : q ≠ p) (x : PointState) (s : State) :
    (s.setPoint p x).pointStatus q = s.pointStatus q := congrArg _ (setPoint_other other x s)

theorem setPoint_setPoint (p : Fin 16) (x y : PointState) (s : State) : (s.setPoint p x).setPoint p y = s.setPoint p y :=
  congrArg (fun points => s.withScanner { s.scanner with points := points }) (Vector.set_set _ _)

/-! ### A reading stored (R26, R27) -/

/-- The state of a point with a reading stored now. -/
def readState (p : Fin 16) (v : Int) (st : PointStatus) (s : State) : PointState :=
  { reading := some { value := v, time := s.clock }, status := st,
    staleTimer := some { started := s.counter, length := (s.setup p).stale } }

/-- Where nothing is compared, the reading's own range gives the status. -/
theorem storeReading_of_alone {p : Fin 16} {u : PointSetup} {v : Int} {s : State}
    (alone : inValidRange u v = false ∨ ∀ n, u.partner = some n →
      comparison u v ((s.setPoint p (readState p v .good s)).scanner.points[pointIndex n]) = none) :
    storeReading p u v s = statusChanged p (s.pointStatus p)
      (s.setPoint p (readState p v (if inValidRange u v then .good else .range) s)) := by
  unfold storeReading
  dsimp only
  cases valid : inValidRange u v
  · rfl
  · have uncompared := alone.resolve_left (by rw [valid]; nofun)
    rw [if_pos rfl, if_neg nofun]
    split
    · rfl
    next n partner =>
      split
      · rfl
      next r compared => exact absurd ((uncompared n partner).symm.trans compared) nofun

theorem storeReading_of_compared {p : Fin 16} {u : PointSetup} {v : Int} {s : State} {n : Nat} {r : PointStatus}
    (valid : inValidRange u v = true) (partner : u.partner = some n)
    (compared : comparison u v ((s.setPoint p (readState p v .good s)).scanner.points[pointIndex n]) = some r) :
    storeReading p u v s =
      statusChanged (pointIndex n) ((s.setPoint p (readState p v .good s)).pointStatus (pointIndex n))
        (statusChanged p (s.pointStatus p)
          (setStatus (pointIndex n) r (setStatus p r (s.setPoint p (readState p v .good s))))) := by
  unfold storeReading
  dsimp only
  rw [valid, if_pos rfl, if_neg nofun, partner]
  dsimp only
  unfold readState at compared
  rw [compared]
  rfl

theorem setStatus_readState (p : Fin 16) (v : Int) (st r : PointStatus) (s : State) :
    setStatus p r (s.setPoint p (readState p v st s)) = s.setPoint p (readState p v r s) := by
  unfold setStatus
  rw [setPoint_same, setPoint_setPoint]
  rfl

/-- With another point compared, both points take the comparison's status, and the changes of both are handed over. -/
theorem storeReading_of_partner {p : Fin 16} {u : PointSetup} {v : Int} {s : State} {n : Nat} {r : PointStatus}
    (valid : inValidRange u v = true) (partner : u.partner = some n) (other : pointIndex n ≠ p)
    (compared : comparison u v s.scanner.points[pointIndex n] = some r) :
    storeReading p u v s =
      statusChanged (pointIndex n) (s.pointStatus (pointIndex n)) (statusChanged p (s.pointStatus p)
        ((s.setPoint p (readState p v r s)).setPoint (pointIndex n)
          { s.scanner.points[pointIndex n] with status := r })) := by
  rw [storeReading_of_compared valid partner (by rw [setPoint_other other]; exact compared), setStatus_readState,
    pointStatus_setPoint_other other]
  unfold setStatus
  rw [setPoint_other other]

/-- t sets points of s and hands judgements over. -/
def SetsPoints (s t : State) : Prop := Judged (s.withScanner { s.scanner with points := t.scanner.points }) t

theorem setsPoints_of_judged {s t : State} {points : Vector PointState 16}
    (judged : Judged (s.withScanner { s.scanner with points := points }) t) : SetsPoints s t := by
  have same : t.scanner.points = points := congrArg Scanner.points judged.scanner
  unfold SetsPoints
  rw [same]
  exact judged

theorem storeReading_setsPoints (p : Fin 16) (u : PointSetup) (v : Int) (s : State) :
    SetsPoints s (storeReading p u v s) := by
  by_cases alone : inValidRange u v = false ∨ ∀ n, u.partner = some n →
      comparison u v ((s.setPoint p (readState p v .good s)).scanner.points[pointIndex n]) = none
  · rw [storeReading_of_alone alone]
    exact setsPoints_of_judged (judged_statusChanged _ _ _)
  · rw [not_or] at alone
    obtain ⟨valid, compares⟩ := alone
    obtain ⟨n, compares⟩ := Classical.not_forall.mp compares
    obtain ⟨partner, some_⟩ := Classical.not_imp.mp compares
    obtain ⟨r, compared⟩ := Option.ne_none_iff_exists'.mp some_
    rw [storeReading_of_compared (by simpa using valid) partner compared]
    exact setsPoints_of_judged ((judged_statusChanged _ _ _).trans (judged_statusChanged _ _ _))

theorem comparison_of_inRange {u : PointSetup} {v : Int} {q : PointState} {y : Reading}
    (inRange : q.status = .good ∨ q.status = .deviation) (read : q.reading = some y) :
    comparison u v q = some (if toMilli u.kind u.deviation < (v - y.value).natAbs then .deviation else .good) := by
  unfold comparison
  rcases inRange with status | status <;> rw [status, read]

theorem comparison_of_not {u : PointSetup} {v : Int} {q : PointState}
    (not : q.reading = none ∨ q.status ≠ .good ∧ q.status ≠ .deviation) : comparison u v q = none := by
  unfold comparison
  split
  next status read => exact absurd status (not.resolve_left (by rw [read]; nofun)).1
  next status read => exact absurd status (not.resolve_left (by rw [read]; nofun)).2
  next => rfl

/-- What a reading stored makes of TEMPERATURE_DEVIATION, and that beside the points nothing is touched where no point
comes to or from DEVIATION (R28). -/
def DeviationsHanded (s t : State) : Prop :=
  (∀ r : Run, t.active (.run .temperatureDeviation r) =
    deviates (s.pointStatus (pointIndex (s.runBlock r).tempPoint)) (t.pointStatus (pointIndex (s.runBlock r).tempPoint))
      (s.active (.run .temperatureDeviation r))) ∧
  ((∀ k, s.pointStatus k = .deviation ↔ t.pointStatus k = .deviation) → t = s.withScanner t.scanner)

theorem deviationsHanded_one (p : Fin 16) (x : PointState) (s : State) :
    DeviationsHanded s (statusChanged p (s.pointStatus p) (s.setPoint p x)) := by
  have kept (k : Fin 16) : (statusChanged p (s.pointStatus p) (s.setPoint p x)).pointStatus k =
      (s.setPoint p x).pointStatus k := pointStatus_of_judged (judged_statusChanged _ _ _) k
  refine ⟨fun r => ?_, fun same => ?_⟩
  · rw [kept, statusChanged_active]
    show (if pointIndex (s.runBlock r).tempPoint = p then deviates _ _ (s.active _) else s.active _) = _
    by_cases measured : pointIndex (s.runBlock r).tempPoint = p
    · rw [if_pos measured, measured]
    · rw [if_neg measured, pointStatus_setPoint_other measured, deviates_same]
  · have own := same p
    rw [kept] at own
    rw [statusChanged_of_same own]
    rfl

theorem deviationsHanded_two {p q : Fin 16} (other : q ≠ p) (x y : PointState) (s : State) :
    DeviationsHanded s (statusChanged q (s.pointStatus q) (statusChanged p (s.pointStatus p)
      ((s.setPoint p x).setPoint q y))) := by
  generalize set : (s.setPoint p x).setPoint q y = w
  have judgedFirst := judged_statusChanged p (s.pointStatus p) w
  have judged := judgedFirst.trans (judged_statusChanged q (s.pointStatus q) _)
  have kept := pointStatus_of_judged judged
  have first : w.pointStatus p = x.status := by
    rw [← set, pointStatus_setPoint_other other.symm, pointStatus_setPoint_same]
  have blocks (r : Run) : w.runBlock r = s.runBlock r := by rw [← set]; rfl
  have before (i : ConditionId) : w.active i = s.active i := by rw [← set]; rfl
  refine ⟨fun r => ?_, fun same => ?_⟩
  · rw [kept, statusChanged_active, runBlock_of_judged judgedFirst, pointStatus_of_judged judgedFirst,
      statusChanged_active, blocks, before]
    by_cases second : pointIndex (s.runBlock r).tempPoint = q
    · rw [if_pos second, second, if_neg other]
    · rw [if_neg second]
      by_cases measured : pointIndex (s.runBlock r).tempPoint = p
      · rw [if_pos measured, measured]
      · rw [if_neg measured, ← set, pointStatus_setPoint_other second, pointStatus_setPoint_other measured,
          deviates_same]
  · have own := same p
    have partner := same q
    rw [kept] at own partner
    rw [statusChanged_of_same own, statusChanged_of_same partner, ← set]
    rfl

/-- A reading stored hands over what its statuses change, where no point is compared with itself. -/
theorem deviationsHanded_storeReading {p : Fin 16} {u : PointSetup} {v : Int} {s : State}
    (others : ∀ n, u.partner = some n → pointIndex n ≠ p) : DeviationsHanded s (storeReading p u v s) := by
  by_cases alone : inValidRange u v = false ∨ ∀ n, u.partner = some n →
      comparison u v ((s.setPoint p (readState p v .good s)).scanner.points[pointIndex n]) = none
  · rw [storeReading_of_alone alone]
    exact deviationsHanded_one _ _ _
  · rw [not_or] at alone
    obtain ⟨valid, compares⟩ := alone
    obtain ⟨n, compares⟩ := Classical.not_forall.mp compares
    obtain ⟨partner, some_⟩ := Classical.not_imp.mp compares
    obtain ⟨r, compared⟩ := Option.ne_none_iff_exists'.mp some_
    have other := others n partner
    rw [setPoint_other other] at compared
    rw [storeReading_of_partner (by simpa using valid) partner other compared]
    exact deviationsHanded_two other _ _ _

theorem points_of_statusChanged (p : Fin 16) (old : PointStatus) (s : State) :
    (statusChanged p old s).scanner.points = s.scanner.points :=
  congrArg Scanner.points (judged_statusChanged p old s).scanner

end Sys2Proof.Proofs
end

section
/-! The events of the scanner: completed conversions and stale timers. -/

namespace Sys2Proof.Proofs

open Sys2Proof Sys2Proof.Machine Sys2Proof.Safety Sys2Proof.Stated Sys2Proof.Laws

/-! ### The answer to a chain (R108) -/

theorem answered_takeAnswer (tag : ChainTag) (a : ChainAnswer) (t : State) : Answered tag a t (takeAnswer tag a t) := by
  unfold Answered
  split
  next free =>
    unfold takeAnswer
    rw [free]
  next x held =>
    split
    next none_ =>
      unfold takeAnswer
      rw [held]
      dsimp only
      rw [none_]
    next c current =>
      dsimp only
      split
      next own =>
        rw [takeAnswer_of_current held current own.1 own.2]
        exact goesOn_tryComplete x (answeredRound tag a c) t
      next other =>
        unfold takeAnswer
        rw [held]
        dsimp only
        rw [current]
        exact if_neg other

theorem onlyProving_takeAnswer (tag : ChainTag) (a : ChainAnswer) (s : State) : OnlyProving s (takeAnswer tag a s) := by
  unfold takeAnswer
  split
  · exact onlyProving_refl s
  split
  · exact onlyProving_refl s
  split
  · exact onlyProving_tryComplete _ _
  · exact onlyProving_refl s

/-! ### The next conversion -/

theorem starts_congr {s t : State} (points : t.store.points = s.store.points) (counter : t.counter = s.counter)
    (active : Option Chain) (position : Nat) : starts active position t = starts active position s := by
  unfold starts State.setup State.pointsBlock
  rw [points, counter]

/-- With the converter IDLE the next conversion starts under the setups and at the time of an earlier state. -/
theorem nextConversion_of_idle {s t : State} (idle : t.scanner.converter = none)
    (points : t.store.points = s.store.points) (counter : t.counter = s.counter) :
    nextConversion t = t.withScanner { t.scanner with converter := starts t.scanner.active t.scanner.position s } := by
  rw [nextConversion_eq, idle, starts_congr points counter]
  rfl

/-! ### A completed conversion -/

theorem completeConversion_of_now {fraction : Nat} {s : State}
    (not : ∀ c, s.scanner.converter = some c → c.started = s.counter) : completeConversion fraction s = s := by
  unfold completeConversion
  rcases busy : s.scanner.converter with _ | c
  · rfl
  · exact if_pos (decide_eq_true (not c busy))

/-- The state in which the reading of a completed conversion is stored, its converter IDLE. -/
def convertedState (c : Conversion) (fraction : Nat) (s : State) : State :=
  storeReading c.point c.setup (readingOf c.setup fraction) (s.withScanner { s.scanner with converter := none })

theorem completeConversion_eq {fraction : Nat} {s : State} {c : Conversion} (busy : s.scanner.converter = some c)
    (range : fraction ≤ 1000000) (started : c.started ≠ s.counter) :
    completeConversion fraction s = nextConversion
      (if c.injected then chainStored (convertedState c fraction s)
        else if c.moves then advancePosition (convertedState c fraction s) else convertedState c fraction s) := by
  unfold completeConversion convertedState
  rw [busy, Nat.min_eq_left range]
  exact if_neg (by rw [show State.beginsNow s c.started = false from decide_eq_false started]; exact Bool.false_ne_true)

/-- w is s with its converter IDLE, points set and judgements handed over. -/
structure Converted (s w : State) : Prop where
  reaches : SetsPoints (s.withScanner { s.scanner with converter := none }) w

theorem converted_convertedState (c : Conversion) (fraction : Nat) (s : State) :
    Converted s (convertedState c fraction s) := ⟨storeReading_setsPoints _ _ _ _⟩

section Converted

variable {s w : State}

theorem Converted.scanner (converted : Converted s w) :
    w.scanner = { s.scanner with converter := none, points := w.scanner.points } := converted.reaches.scanner

theorem Converted.position (converted : Converted s w) : w.scanner.position = s.scanner.position := by
  rw [converted.scanner]

theorem Converted.active (converted : Converted s w) : w.scanner.active = s.scanner.active := by rw [converted.scanner]

theorem Converted.waiting (converted : Converted s w) : w.scanner.waiting = s.scanner.waiting := by
  rw [converted.scanner]

theorem Converted.idle (converted : Converted s w) : w.scanner.converter = none := by rw [converted.scanner]

theorem Converted.blocks (converted : Converted s w) : w.store.points = s.store.points := by
  rw [converted.reaches]
  rfl

theorem Converted.counter (converted : Converted s w) : w.counter = s.counter := by
  rw [converted.reaches]
  rfl

theorem Converted.beside (converted : Converted s w) : Beside (s.withScanner w.scanner) w := by
  refine beside_of_judged ?_
  rw [converted.scanner]
  exact converted.reaches

theorem Converted.pointsBlock (converted : Converted s w) : w.pointsBlock = s.pointsBlock :=
  congrArg (·.current) converted.blocks

/-- A normal conversion moves the scan position, and the next one starts (R30). -/
theorem nextConversion_of_normal (converted : Converted s w) (moves : Bool) :
    nextConversion (if moves then advancePosition w else w) = w.withScanner { w.scanner with
      position := if moves then (s.scanner.position + 1) % s.pointsBlock.scanList.length else s.scanner.position
      converter := starts s.scanner.active
        (if moves then (s.scanner.position + 1) % s.pointsBlock.scanList.length else s.scanner.position) s } := by
  rw [← converted.active, ← converted.position, ← converted.pointsBlock]
  cases moves
  · exact nextConversion_of_idle (t := w) converted.idle converted.blocks converted.counter
  · exact nextConversion_of_idle (t := advancePosition w) converted.idle converted.blocks converted.counter

theorem chainStored_of_none (free : w.scanner.active = none) : chainStored w = w := by
  unfold chainStored
  rw [free]

theorem chainStored_of_next {ch : Chain} {p : Fin 16} {rest : List (Fin 16)} (active : w.scanner.active = some ch)
    (next : ch.left.tail = p :: rest) :
    chainStored w = w.withScanner { w.scanner with active := some { ch with left := p :: rest } } := by
  unfold chainStored
  rw [active]
  dsimp only
  rw [next]

/-- The last point of a chain delivers its set, and the waiting chain moves up (R33). -/
theorem chainStored_of_last {ch : Chain} (active : w.scanner.active = some ch) (last : ch.left.tail = []) :
    chainStored w = (takeAnswer ch.tag (.set (chainSet ch w)) w).withScanner
      { w.scanner with active := w.scanner.waiting, waiting := none } := by
  have kept : (takeAnswer ch.tag (.set (chainSet ch w)) w).scanner = w.scanner := by
    rw [onlyProving_takeAnswer ch.tag (.set (chainSet ch w)) w]
    rfl
  unfold chainStored
  rw [active]
  dsimp only
  rw [last]
  dsimp only
  rw [kept]

/-- A chain that leaves a point, or the one that moves up, is converted next (R33). -/
theorem nextConversion_of_chain {z : State} (converted : Converted s w) (only : OnlyProving w z)
    (active waiting : Option Chain) :
    nextConversion (z.withScanner { w.scanner with active := active, waiting := waiting }) =
      z.withScanner { w.scanner with
        active := active, waiting := waiting, converter := starts active s.scanner.position s } := by
  rw [← converted.position]
  refine nextConversion_of_idle converted.idle ?_ ?_
  · rw [only]
    exact converted.blocks
  · rw [only]
    exact converted.counter

end Converted

/-! ### The stale timer (R29) -/

/-- The state with a point's status STALE. -/
def staleState (p : Fin 16) (s : State) : State :=
  s.setPoint p { s.scanner.points[p] with status := .stale, staleTimer := none }

theorem goStale_of_expires {p : Fin 16} {s : State} (expires : Expires (s.scanner.points[p]).staleTimer s) :
    goStale p s = statusChanged p (s.pointStatus p) (staleState p s) := by
  obtain ⟨tm, running, started⟩ := expires
  unfold goStale
  rw [running]
  exact if_neg (by rw [show s.beginsNow tm.started = false from decide_eq_false started]; exact Bool.false_ne_true)

theorem goStale_of_not {p : Fin 16} {s : State} (not : ¬Expires (s.scanner.points[p]).staleTimer s) :
    goStale p s = s := by
  unfold goStale
  split
  · rfl
  next tm running =>
    refine if_pos (decide_eq_true ?_)
    refine Classical.byContradiction fun started => ?_
    exact not ⟨tm, running, started⟩

theorem pointStatus_staleState (p : Fin 16) (s : State) : (staleState p s).pointStatus p = .stale :=
  pointStatus_setPoint_same _ _ _

theorem goStale_of_quiet {p : Fin 16} {s : State} (expires : Expires (s.scanner.points[p]).staleTimer s)
    (quiet : s.pointStatus p ≠ .deviation) : goStale p s = staleState p s := by
  rw [goStale_of_expires expires]
  refine statusChanged_of_same (iff_of_false quiet ?_)
  rw [pointStatus_staleState]
  nofun

/-- A stale point that was in DEVIATION ends TEMPERATURE_DEVIATION of the runs that measure there (R28). -/
theorem goStale_active {p : Fin 16} {s : State} (expires : Expires (s.scanner.points[p]).staleTimer s)
    (deviation : s.pointStatus p = .deviation) (r : Run) :
    (goStale p s).active (.run .temperatureDeviation r) =
      if pointIndex (s.runBlock r).tempPoint = p then false else s.active (.run .temperatureDeviation r) := by
  rw [goStale_of_expires expires, statusChanged_active, pointStatus_staleState, deviation]
  rfl

/-! ### The statement -/

theorem conversionCompletion_gives {dt fraction : Nat} {s t : State} (running : s.running = true)
    (outcome : completeConversion fraction (later dt s) = t) :
    Gives (.conversionCompletion dt fraction) s (leaving s t) := by
  refine gives_whileRunning rfl running ?_
  rw [outcome, leaving_eq_settle]
  rfl

/-- The points after a completed conversion, by its range and the comparison with its partner (R26, R27). -/
theorem convertedState_points_of_alone {c : Conversion} {fraction : Nat} {s : State}
    (alone : inValidRange c.setup (readingOf c.setup fraction) = false ∨ ∀ n, c.setup.partner = some n →
      pointIndex n ≠ c.point ∧
        comparison c.setup (readingOf c.setup fraction) s.scanner.points[pointIndex n] = none) :
    (convertedState c fraction s).scanner.points = s.scanner.points.set c.point
      (readState c.point (readingOf c.setup fraction)
        (if inValidRange c.setup (readingOf c.setup fraction) then .good else .range) s) := by
  unfold convertedState
  rw [storeReading_of_alone, points_of_statusChanged]
  · rfl
  · refine alone.imp_right fun uncompared n partner => ?_
    obtain ⟨other, none_⟩ := uncompared n partner
    rw [setPoint_other other]
    exact none_

theorem convertedState_points_of_partner {c : Conversion} {fraction n : Nat} {s : State} {r : PointStatus}
    (valid : inValidRange c.setup (readingOf c.setup fraction) = true) (partner : c.setup.partner = some n)
    (other : pointIndex n ≠ c.point)
    (compared : comparison c.setup (readingOf c.setup fraction) s.scanner.points[pointIndex n] = some r) :
    (convertedState c fraction s).scanner.points =
      (s.scanner.points.set c.point (readState c.point (readingOf c.setup fraction) r s)).set (pointIndex n)
        { s.scanner.points[pointIndex n] with status := r } := by
  unfold convertedState
  rw [storeReading_of_partner (s := s.withScanner { s.scanner with converter := none }) valid partner other compared,
    points_of_statusChanged, points_of_statusChanged]
  rfl

/-- Settles O31: the reading stored, then what its conversion was for. -/
theorem scannerEvents : Obligations.ScannerEvents := by
  refine ⟨fun dt fraction p s off => ⟨gives_same_of_halted rfl off, gives_same_of_halted rfl off⟩, ?_, ?_⟩
  · intro dt fraction c s running busy range started
    have event := completeConversion_eq (s := later dt s) busy range started
    have converted := converted_convertedState c fraction (later dt s)
    refine ⟨convertedState c fraction (later dt s), converted.scanner, converted.beside, fun alone => ?_,
      fun valid n partner other => ⟨fun inRange y read => ?_, fun notGood notDeviation => ?_⟩, fun others => ?_,
      fun same others => ?_, fun normal => ?_, fun injected free => ?_,
      fun injected ch active => ⟨fun p rest next => ?_, fun last => ?_⟩⟩
    · refine convertedState_points_of_alone (s := later dt s) (alone.imp_right fun none_ n partner => ?_)
      exact absurd (none_.symm.trans partner) nofun
    · exact convertedState_points_of_partner (s := later dt s) valid partner other (comparison_of_inRange inRange read)
    · refine (convertedState_points_of_alone (s := later dt s) (.inr fun m isPartner => ?_)).trans ?_
      · cases Option.some.inj (partner.symm.trans isPartner)
        exact ⟨other, comparison_of_not (.inr ⟨notGood, notDeviation⟩)⟩
      · rw [show inValidRange c.setup (readingOf c.setup fraction) = true from valid]
        rfl
    · exact (deviationsHanded_storeReading others).1
    · exact (deviationsHanded_storeReading others).2 same
    · refine conversionCompletion_gives running (event.trans ?_)
      rw [normal]
      exact nextConversion_of_normal converted c.moves
    · have stored : chainStored _ = _ := chainStored_of_none (converted.active.trans free)
      refine conversionCompletion_gives running (event.trans ?_)
      rw [injected, if_pos rfl, stored, ← show _ = s.scanner.position from converted.position]
      refine (nextConversion_of_idle converted.idle converted.blocks converted.counter).trans ?_
      rw [converted.active, show (later dt s).scanner.active = none from free]
    · have stored : chainStored _ = _ := chainStored_of_next (converted.active.trans active) next
      refine conversionCompletion_gives running (event.trans ?_)
      rw [injected, if_pos rfl, stored]
      exact nextConversion_of_chain converted (onlyProving_refl _) _ _
    · have stored : chainStored _ = _ := chainStored_of_last (converted.active.trans active) last
      refine ⟨_, answered_takeAnswer _ _ _, conversionCompletion_gives running (event.trans ?_)⟩
      rw [injected, if_pos rfl, stored, converted.waiting]
      exact nextConversion_of_chain converted (onlyProving_takeAnswer _ _ _) _ _
  · intro dt fraction p s running
    have event : Gives (.staleTimerExpiry dt p) s (settle (later dt s) (goStale p (later dt s))) :=
      gives_whileRunning rfl running rfl
    have completion : Gives (.conversionCompletion dt fraction) s
        (settle (later dt s) (completeConversion fraction (later dt s))) := gives_whileRunning rfl running rfl
    refine ⟨fun expires quiet => ?_, fun expires deviation => ⟨_, event, ?_, fun r => ?_⟩, fun not => ?_, fun not => ?_⟩
    · rw [goStale_of_quiet (s := later dt s) expires quiet,
        settle_of_same_record (s := later dt s) (t := staleState p (later dt s)) rfl] at event
      exact event
    · refine beside_trans ?_ (beside_of_granted (granted_settle _ _))
      rw [goStale_of_expires (s := later dt s) expires]
      exact beside_of_judged (judged_statusChanged _ _ _)
    · have monitor := monitor_of_granted (granted_settle (later dt s) (goStale p (later dt s)))
      refine Eq.trans ?_ (goStale_active (s := later dt s) expires deviation r)
      exact congrArg (fun m => (m.table.get (.run .temperatureDeviation r)).active) monitor
    · rw [goStale_of_not (s := later dt s) not, settle_of_same_record rfl] at event
      exact event
    · rw [completeConversion_of_now (s := later dt s) not, settle_of_same_record rfl] at completion
      exact completion

end Sys2Proof.Proofs
end

section
/-! What the close of a fidelity window may reach, step by step. -/

namespace Sys2Proof.Proofs

open Sys2Proof Sys2Proof.Machine Sys2Proof.Safety Sys2Proof.Stated Sys2Proof.Laws

/-! ### Steps that set a run's pulse state and hand judgements over -/

/-- t is s with the pulse state of r set and conditions of a list judged. -/
structure Closes (r : Run) (judged : List ConditionId) (s t : State) : Prop where
  reaches : Judged (s.withPulse t.pulse) t
  runs : ∀ q, q ≠ r → t.runPulse q = s.runPulse q
  d1 : t.pulse.d1 = s.pulse.d1
  d2 : t.pulse.d2 = s.pulse.d2
  others : ∀ j, j ∉ judged → j ≠ .station .externalTrip → t.active j = s.active j

/-- Where none of the judged conditions differs, t is s but for pulse states. -/
def QuietOn (judged : List ConditionId) (s t : State) : Prop :=
  (∀ j ∈ judged, t.active j = s.active j) → t = s.withPulse t.pulse

theorem judged_withPulse {s t : State} (judged : Judged s t) (x : PulseUnit) : Judged (s.withPulse x) (t.withPulse x) := by
  unfold Judged at judged ⊢
  rw [judged]
  rfl

theorem runPulse_set_other {r q : Run} (other : q ≠ r) (x : RunPulse) (s : State) :
    (s.setRunPulse r x).runPulse q = s.runPulse q := PerRun.get_set_other _ _ _ _ other

theorem runPulse_set_same (r : Run) (x : RunPulse) (s : State) : (s.setRunPulse r x).runPulse r = x :=
  PerRun.get_set_same _ _ _

theorem closes_setRunPulse (r : Run) (x : RunPulse) (s : State) : Closes r [] s (s.setRunPulse r x) where
  reaches := .refl _
  runs _ other := runPulse_set_other other x s
  d1 := rfl
  d2 := rfl
  others _ _ _ := rfl

theorem closes_refl (r : Run) (judged : List ConditionId) (s : State) : Closes r judged s s where
  reaches := .refl _
  runs _ _ := rfl
  d1 := rfl
  d2 := rfl
  others _ _ _ := rfl

theorem runPulse_of_judged {s t : State} (judged : Judged s t) (r : Run) : t.runPulse r = s.runPulse r := by
  unfold State.runPulse
  rw [judged.pulse]

theorem closes_judge (r : Run) (i : ConditionId) (on : Bool) (s : State) : Closes r [i] s (judge i on s) where
  reaches := by
    rw [(judged_judge i on s).pulse]
    exact judged_judge i on s
  runs q _ := runPulse_of_judged (judged_judge i on s) q
  d1 := congrArg PulseUnit.d1 (judged_judge i on s).pulse
  d2 := congrArg PulseUnit.d2 (judged_judge i on s).pulse
  others j other notTrip := judge_active_other (by simpa using other) notTrip on s

theorem quietOn_judge (i : ConditionId) (on : Bool) (s : State) : QuietOn [i] s (judge i on s) := fun same => by
  have own := same i List.mem_cons_self
  rw [judge_active_same] at own
  rw [judge_of_agrees i on s own.symm]
  rfl

theorem closes_trans {r : Run} {first second : List ConditionId} {s t u : State} (h : Closes r first s t)
    (g : Closes r second t u) : Closes r (first ++ second) s u where
  reaches := (judged_withPulse h.reaches u.pulse).trans g.reaches
  runs q other := (g.runs q other).trans (h.runs q other)
  d1 := g.d1.trans h.d1
  d2 := g.d2.trans h.d2
  others j neither notTrip := by
    rw [List.mem_append, not_or] at neither
    exact (g.others j neither.2 notTrip).trans (h.others j neither.1 notTrip)

/-- Two steps that judge no condition both, taken one after the other, are quiet where both are. -/
theorem quietOn_trans {r : Run} {first second : List ConditionId} {s t u : State} (h : Closes r first s t)
    (g : Closes r second t u) (firstQuiet : QuietOn first s t) (secondQuiet : QuietOn second t u)
    (disjoint : ∀ j ∈ first, j ∉ second) (noTrip : .station .externalTrip ∉ first ++ second) :
    QuietOn (first ++ second) s u := fun same => by
  have trip (j : ConditionId) (listed : j ∈ first ++ second) : j ≠ .station .externalTrip := fun is =>
    noTrip (is ▸ listed)
  have firstSame := firstQuiet fun j listed => by
    have both := List.mem_append_left second listed
    rw [← same j both]
    exact (g.others j (disjoint j listed) (trip j both)).symm
  have secondSame := secondQuiet fun j listed => by
    have both := List.mem_append_right first listed
    rw [same j both]
    exact (h.others j (fun also => disjoint j also listed) (trip j both)).symm
  rw [secondSame, firstSame]
  rfl

theorem closes_set_judge (r : Run) (i : ConditionId) (on : Bool) (x : RunPulse) (s : State) :
    Closes r [i] s (judge i on (s.setRunPulse r x)) :=
  closes_trans (closes_setRunPulse r x s) (closes_judge r i on _)

theorem quietOn_set_judge (r : Run) (i : ConditionId) (on : Bool) (x : RunPulse) (s : State) :
    QuietOn [i] s (judge i on (s.setRunPulse r x)) := fun same => by
  rw [quietOn_judge i on (s.setRunPulse r x) same]
  rfl

theorem Closes.runBlock {r : Run} {judged : List ConditionId} {s t : State} (closes : Closes r judged s t) (q : Run) :
    t.runBlock q = s.runBlock q := runBlock_of_judged closes.reaches q

theorem Closes.clock {r : Run} {judged : List ConditionId} {s t : State} (closes : Closes r judged s t) :
    t.clock = s.clock := by
  rw [closes.reaches]
  rfl

/-- A step that judges one condition, or none, and leaves a pulse state of the run. -/
structure Judges (r : Run) (i : ConditionId) (on : Option Bool) (x : RunPulse) (s t : State) : Prop where
  closes : Closes r [i] s t
  quiet : QuietOn [i] s t
  active : t.active i = on.getD (s.active i)
  pulse : t.runPulse r = x

theorem judges_none (r : Run) (i : ConditionId) (s : State) : Judges r i none (s.runPulse r) s s :=
  ⟨closes_refl _ _ _, fun _ => rfl, rfl, rfl⟩

theorem judges_judge (r : Run) (i : ConditionId) (on : Bool) (s : State) :
    Judges r i (some on) (s.runPulse r) s (judge i on s) :=
  ⟨closes_judge _ _ _ _, quietOn_judge _ _ _, judge_active_same _ _ _, runPulse_of_judged (judged_judge i on s) r⟩

theorem judges_set_judge (r : Run) (i : ConditionId) (on : Bool) (x : RunPulse) (s : State) :
    Judges r i (some on) x s (judge i on (s.setRunPulse r x)) :=
  ⟨closes_set_judge r i on x s, quietOn_set_judge r i on x s, judge_active_same _ _ _,
    (runPulse_of_judged (judged_judge i on _) r).trans (runPulse_set_same r x s)⟩

/-! ### The steps of a close (R9, R10, R11, R15) -/

/-- The channel of a pulse state with its loss set. -/
def withLost (c : Channel) (lost : Bool) (p : RunPulse) : RunPulse := p.setChannel c { p.channel c with lost := lost }

theorem withLost_self {c : Channel} {lost : Bool} {p : RunPulse} (same : (p.channel c).lost = lost) :
    withLost c lost p = p := by
  subst same
  cases c <;> rfl

theorem judges_setLost (r : Run) (c : Channel) (on : Bool) (s : State) :
    Judges r (.run (lostKind c) r) (some on) (withLost c on (s.runPulse r)) s (setLost r c on s) :=
  judges_set_judge r _ on _ s

/-- Silence makes a LIVE channel LOST (R9). -/
theorem judges_judgeSilence (m : Nat) (r : Run) (c : Channel) (s : State) :
    let x := (s.runPulse r).channel c
    Judges r (.run (lostKind c) r) (if x.lost = false ∧ m ≤ x.silence then some true else none)
      (withLost c (x.lost || decide (m ≤ x.silence)) (s.runPulse r)) s (judgeSilence m r c s) := by
  unfold judgeSilence
  dsimp only
  by_cases falls : ((s.runPulse r).channel c).lost = false ∧ m ≤ ((s.runPulse r).channel c).silence
  · rw [if_pos falls, if_pos (by simp [falls.1, falls.2]), decide_eq_true falls.2, Bool.or_true]
    exact judges_setLost r c true s
  · rw [if_neg falls, if_neg (by simpa using falls), withLost_self]
    · exact judges_none _ _ _
    · rcases lost : ((s.runPulse r).channel c).lost
      · exact (decide_eq_false fun silent => falls ⟨lost, silent⟩).symm
      · rfl

theorem judges_restore (r : Run) (c : Channel) (s : State) :
    Judges r (.run (lostKind c) r) (if ((s.runPulse r).channel c).lost then some false else none)
      (withLost c false (s.runPulse r)) s (restore r c s) := by
  unfold restore
  rcases lost : ((s.runPulse r).channel c).lost
  · rw [if_neg Bool.false_ne_true, if_neg Bool.false_ne_true, withLost_self lost]
    exact judges_none _ _ _
  · exact judges_setLost r c false s

theorem judges_judgeNoise (r : Run) (s : State) :
    let p := s.runPulse r
    Judges r (.run .pulseNoise r) (some (decide (p.noiseLimit < p.a.noise ∨ p.noiseLimit < p.b.noise))) p s
      (judgeNoise r s) := by
  unfold judgeNoise
  dsimp only
  rw [← Bool.decide_or]
  exact judges_judge _ _ _ _

/-- The injected pair differs by more than L (R15). -/
theorem injectedPair_mismatch (a b l : Nat) :
    comparatorMismatch (injectedPair a b l).1 (injectedPair a b l).2 l = true := by
  unfold comparatorMismatch injectedPair absDiff
  rw [decide_eq_true_iff]
  split
  · dsimp only
    split <;> omega
  · dsimp only
    split <;> omega

/-- The result of a test of a marked window: PASS without the comparator fault (R15). -/
def tested (fault : Bool) (now : Nat) (p : RunPulse) : RunPulse :=
  if p.testMark then { p with lastTest := if fault then .fail else .pass, lastTestTime := some now } else p

theorem judges_evaluateTest (fault : Bool) (r : Run) (s : State) :
    let p := s.runPulse r
    Judges r (.run .comparatorFault r) (if p.testMark then some fault else none) (tested fault s.clock p) s
      (evaluateTest fault r s) := by
  unfold evaluateTest tested
  dsimp only
  rw [injectedPair_mismatch, Bool.true_and, Bool.not_not]
  rcases (s.runPulse r).testMark
  · exact judges_none _ _ _
  · rw [if_pos rfl, if_pos rfl, if_pos rfl]
    cases fault
    · exact judges_set_judge r _ _ _ s
    · exact judges_set_judge r _ _ _ s

end Sys2Proof.Proofs
end

section
/-! The close of a fidelity window. -/

namespace Sys2Proof.Proofs

open Sys2Proof Sys2Proof.Machine Sys2Proof.Safety Sys2Proof.Stated Sys2Proof.Laws

/-! ### Losses and matching (R9, R10) -/

/-- The conditions R9 and R10 judge of a run. -/
def lossConditions (r : Run) : List ConditionId := [.run .channelALost r, .run .channelBLost r, .run .pulseMismatch r]

/-- Both channels with the losses that silence of at least M makes (R9). -/
def silenced (m : Nat) (p : RunPulse) : RunPulse :=
  withLost .b (p.b.lost || decide (m ≤ p.b.silence)) (withLost .a (p.a.lost || decide (m ≤ p.a.silence)) p)

/-- Whether a close of a kind restores and ends PULSE_MISMATCH, or activates it (R10). -/
def restores (k : WindowKind) (m : Nat) (p : RunPulse) : Bool := decide (k = .match_) && decide (m ≤ p.matched)

def mismatches (k : WindowKind) (m : Nat) (p : RunPulse) : Bool := decide (k = .mismatch) && decide (m ≤ p.mismatch)

/-- The pulse state after the judgements of R9 and R10. -/
def matchedPulse (k : WindowKind) (m : Nat) (p : RunPulse) : RunPulse :=
  if restores k m p then withLost .b false (withLost .a false (silenced m p)) else silenced m p

/-- A condition of a loss after the judgements of R9 and R10. -/
def lossJudged (restored : Bool) (m : Nat) (x : PulseChannel) (was : Bool) : Bool :=
  if restored then (if x.lost then false else was) else if x.lost = false ∧ m ≤ x.silence then true else was

/-- Three steps that judge the conditions of R9 and R10 one after another. -/
theorem judges_three {r : Run} {a b c : Option Bool} {x y z : RunPulse} {s t u v : State}
    (first : Judges r (.run .channelALost r) a x s t) (second : Judges r (.run .channelBLost r) b y t u)
    (third : Judges r (.run .pulseMismatch r) c z u v) :
    Closes r (lossConditions r) s v ∧ QuietOn (lossConditions r) s v ∧
    v.active (.run .channelALost r) = a.getD (s.active (.run .channelALost r)) ∧
    v.active (.run .channelBLost r) = b.getD (s.active (.run .channelBLost r)) ∧
    v.active (.run .pulseMismatch r) = c.getD (s.active (.run .pulseMismatch r)) := by
  have later := closes_trans second.closes third.closes
  refine ⟨closes_trans first.closes later, ?_, ?_, ?_, ?_⟩
  · exact quietOn_trans first.closes later first.quiet
      (quietOn_trans second.closes third.closes second.quiet third.quiet (by simp) (by simp)) (by simp) (by simp)
  · rw [later.others _ (by simp) (by simp), first.active]
  · rw [third.closes.others _ (by simp) (by simp), second.active, first.closes.others _ (by simp) (by simp)]
  · rw [third.active, second.closes.others _ (by simp) (by simp), first.closes.others _ (by simp) (by simp)]

theorem getD_ite (p : Prop) [Decidable p] (x was : Bool) :
    (if p then some x else none).getD was = if p then x else was := by
  split <;> rfl

theorem closes_mono {r : Run} {few many : List ConditionId} {s t : State} (closes : Closes r few s t)
    (sub : few ⊆ many) : Closes r many s t :=
  { closes with others := fun j not => closes.others j fun listed => not (sub listed) }

theorem judgeSilence_of_heard {m : Nat} {r : Run} {c : Channel} {s : State}
    (heard : ¬m ≤ ((s.runPulse r).channel c).silence) : judgeSilence m r c s = s :=
  if_neg (by simp [heard])

/-- A close that restores nothing ends with PULSE_MISMATCH activated, or as it is (R10). -/
theorem judges_judgeMatching {k : WindowKind} {m : Nat} {r : Run} {s : State}
    (not : restores k m (s.runPulse r) = false) :
    Judges r (.run .pulseMismatch r) (if mismatches k m (s.runPulse r) then some true else none) (s.runPulse r) s
      (judgeMatching k m r s) := by
  unfold restores at not
  unfold judgeMatching mismatches
  cases k with
  | match_ =>
    have below : ¬m ≤ (s.runPulse r).matched := by simpa using not
    dsimp only
    rw [if_neg below]
    exact judges_none _ _ _
  | mismatch =>
    dsimp only
    by_cases reached : m ≤ (s.runPulse r).mismatch
    · rw [if_pos reached, if_pos (by simpa using reached)]
      exact judges_judge _ _ _ _
    · rw [if_neg reached, if_neg (by simpa using reached)]
      exact judges_none _ _ _
  | aSilent => exact judges_none _ _ _
  | bSilent => exact judges_none _ _ _

theorem judgeMatching_of_restores {k : WindowKind} {m : Nat} {r : Run} {s : State}
    (yes : restores k m (s.runPulse r) = true) :
    judgeMatching k m r s = judge (.run .pulseMismatch r) false (restore r .b (restore r .a s)) := by
  unfold restores at yes
  obtain ⟨kind, reached⟩ := (Bool.and_eq_true _ _).mp yes
  rw [of_decide_eq_true kind]
  exact if_pos (of_decide_eq_true reached)

/-- The judgements of R9 and R10 at a close. -/
def judgeLosses (k : WindowKind) (m : Nat) (r : Run) (s : State) : State :=
  judgeMatching k m r (judgeSilence m r .b (judgeSilence m r .a s))

theorem restores_silenced (k : WindowKind) (m : Nat) (p : RunPulse) : restores k m (silenced m p) = restores k m p := rfl

theorem mismatches_silenced (k : WindowKind) (m : Nat) (p : RunPulse) :
    mismatches k m (silenced m p) = mismatches k m p := rfl

section Losses

variable (k : WindowKind) (m : Nat) (r : Run) (s : State)

theorem runPulse_judgeSilences :
    (judgeSilence m r .b (judgeSilence m r .a s)).runPulse r = silenced m (s.runPulse r) := by
  have a := (judges_judgeSilence m r .a s).pulse
  have b := (judges_judgeSilence m r .b (judgeSilence m r .a s)).pulse
  rw [b, a]
  rfl

theorem closes_judgeMatching : Closes r (lossConditions r) s (judgeMatching k m r s) := by
  rcases restored : restores k m (s.runPulse r)
  · exact closes_mono (judges_judgeMatching restored).closes (by simp [lossConditions])
  · rw [judgeMatching_of_restores restored]
    exact closes_trans (judges_restore r .a s).closes
      (closes_trans (judges_restore r .b _).closes (closes_judge r _ false _))

theorem closes_judgeLosses : Closes r (lossConditions r) s (judgeLosses k m r s) := by
  have all := closes_trans (judges_judgeSilence m r .a s).closes
    (closes_trans (judges_judgeSilence m r .b _).closes (closes_judgeMatching k m r _))
  exact closes_mono all (by simp [lossConditions, lostKind])

theorem runPulse_judgeLosses : (judgeLosses k m r s).runPulse r = matchedPulse k m (s.runPulse r) := by
  have silent := runPulse_judgeSilences m r s
  unfold judgeLosses matchedPulse
  rcases restored : restores k m (s.runPulse r)
  · rw [(judges_judgeMatching (by rw [silent, restores_silenced, restored])).pulse, silent]
    rfl
  · rw [judgeMatching_of_restores (by rw [silent, restores_silenced, restored]), (judges_judge _ _ _ _).pulse,
      (judges_restore _ _ _).pulse, (judges_restore _ _ _).pulse, silent]
    rfl

/-- Where a channel that restores is not silent, each loss is judged once. -/
theorem judgeLosses_once (heard : k = .match_ → ¬m ≤ (s.runPulse r).a.silence ∧ ¬m ≤ (s.runPulse r).b.silence) :
    QuietOn (lossConditions r) s (judgeLosses k m r s) ∧
    (judgeLosses k m r s).active (.run .channelALost r) =
      lossJudged (restores k m (s.runPulse r)) m (s.runPulse r).a (s.active (.run .channelALost r)) ∧
    (judgeLosses k m r s).active (.run .channelBLost r) =
      lossJudged (restores k m (s.runPulse r)) m (s.runPulse r).b (s.active (.run .channelBLost r)) := by
  have silent := runPulse_judgeSilences m r s
  have firstPulse := (judges_judgeSilence m r .a s).pulse
  unfold judgeLosses lossJudged
  rcases restored : restores k m (s.runPulse r)
  · obtain ⟨-, quiet, a, b, -⟩ := judges_three (judges_judgeSilence m r .a s) (judges_judgeSilence m r .b _)
      (judges_judgeMatching (k := k) (m := m) (by rw [silent, restores_silenced, restored]))
    refine ⟨quiet, a.trans ?_, b.trans ?_⟩
    · rw [if_neg Bool.false_ne_true]
      exact getD_ite _ _ _
    · rw [if_neg Bool.false_ne_true, firstPulse]
      exact getD_ite _ _ _
  · have kind : k = .match_ := of_decide_eq_true ((Bool.and_eq_true _ _).mp restored).1
    rw [judgeSilence_of_heard (c := .a) (heard kind).1, judgeSilence_of_heard (c := .b) (heard kind).2,
      judgeMatching_of_restores restored]
    have restoredPulse := (judges_restore r .a s).pulse
    obtain ⟨-, quiet, a, b, -⟩ := judges_three (judges_restore r .a s) (judges_restore r .b _)
      (judges_judge r (.run .pulseMismatch r) false _)
    refine ⟨quiet, a.trans ?_, b.trans ?_⟩
    · rw [if_pos rfl]
      exact getD_ite _ _ _
    · rw [if_pos rfl, restoredPulse]
      exact getD_ite _ _ _

theorem judgeLosses_mismatch :
    (judgeLosses k m r s).active (.run .pulseMismatch r) =
      if restores k m (s.runPulse r) then false
      else if mismatches k m (s.runPulse r) then true else s.active (.run .pulseMismatch r) := by
  have silent := runPulse_judgeSilences m r s
  have before := (closes_trans (judges_judgeSilence m r .a s).closes
    (judges_judgeSilence m r .b (judgeSilence m r .a s)).closes).others (.run .pulseMismatch r) (by simp [lostKind])
      (by simp)
  unfold judgeLosses
  rcases restored : restores k m (s.runPulse r)
  · rw [(judges_judgeMatching (by rw [silent, restores_silenced, restored])).active, silent, mismatches_silenced, before]
    cases mismatches k m (s.runPulse r) <;> rfl
  · rw [judgeMatching_of_restores (by rw [silent, restores_silenced, restored]), judge_active_same]
    rfl

end Losses

end Sys2Proof.Proofs
end

section
/-! The pulse that closes a window. -/

namespace Sys2Proof.Proofs

open Sys2Proof Sys2Proof.Machine Sys2Proof.Safety Sys2Proof.Stated Sys2Proof.Laws

/-! ### The pulse state after a close (R6 to R11, R15) -/

/-- A fresh window under a RUN block (R6, R7). -/
def openedPulse (b : RunBlock) (p : RunPulse) : RunPulse :=
  { p with
    a := { p.a with window := 0, noise := 0 }, b := { p.b with window := 0, noise := 0 },
    w := b.w, l := b.l, noiseLimit := b.noiseLimit, testMark := false }

/-- The kind of the window that closes on a pulse state. -/
def closing (p : RunPulse) : WindowKind := windowKind p.a.window p.b.window p.l

/-- The pulse state with its tallies brought up by the kind of its window (R8). -/
def tallied (p : RunPulse) : RunPulse := updateTallies (closing p) p

def closedPulse (fault : Bool) (now : Nat) (b : RunBlock) (p : RunPulse) : RunPulse :=
  openedPulse b (tested fault now (matchedPulse (closing p) b.m (tallied p)))

theorem tallied_channel (p : RunPulse) (c : Channel) :
    ((tallied p).channel c).forward = (p.channel c).forward ∧ ((tallied p).channel c).reverse = (p.channel c).reverse ∧
    ((tallied p).channel c).qualifying = (p.channel c).qualifying ∧ ((tallied p).channel c).lost = (p.channel c).lost := by
  unfold tallied updateTallies
  cases closing p <;> cases c <;> exact ⟨rfl, rfl, rfl, rfl⟩

theorem tallied_frame (p : RunPulse) :
    (tallied p).a.noise = p.a.noise ∧ (tallied p).b.noise = p.b.noise ∧ (tallied p).noiseLimit = p.noiseLimit ∧
    (tallied p).counting = p.counting ∧ (tallied p).testMark = p.testMark ∧ (tallied p).lastTest = p.lastTest ∧
    (tallied p).lastTestTime = p.lastTestTime := by
  unfold tallied updateTallies
  cases closing p <;> exact ⟨rfl, rfl, rfl, rfl, rfl, rfl, rfl⟩

/-- The judgements of R9 and R10 set losses alone. -/
theorem matchedPulse_eq (k : WindowKind) (m : Nat) (p : RunPulse) :
    matchedPulse k m p =
      withLost .b (if restores k m p then false else p.b.lost || decide (m ≤ p.b.silence))
        (withLost .a (if restores k m p then false else p.a.lost || decide (m ≤ p.a.silence)) p) := by
  unfold matchedPulse
  cases restores k m p <;> rfl

/-- A test changes its result alone. -/
theorem tested_eq (fault : Bool) (now : Nat) (p : RunPulse) :
    tested fault now p = { p with
      lastTest := if p.testMark then (if fault then .fail else .pass) else p.lastTest
      lastTestTime := if p.testMark then some now else p.lastTestTime } := by
  obtain ⟨a, b, counting, w, l, noiseLimit, mismatch, matched, testMark, lastTest, lastTestTime⟩ := p
  cases testMark <;> rfl

section Closed

variable (fault : Bool) (now : Nat) (b : RunBlock) (p : RunPulse)

theorem closedPulse_channel (c : Channel) :
    ((closedPulse fault now b p).channel c).forward = (p.channel c).forward ∧
    ((closedPulse fault now b p).channel c).reverse = (p.channel c).reverse ∧
    ((closedPulse fault now b p).channel c).qualifying = (p.channel c).qualifying := by
  obtain ⟨forward, reverse, qualifying, -⟩ := tallied_channel p c
  unfold closedPulse
  rw [tested_eq, matchedPulse_eq]
  cases c <;> exact ⟨forward, reverse, qualifying⟩

theorem closedPulse_window :
    (closedPulse fault now b p).a.window = 0 ∧ (closedPulse fault now b p).b.window = 0 ∧
    (closedPulse fault now b p).a.noise = 0 ∧ (closedPulse fault now b p).b.noise = 0 ∧
    (closedPulse fault now b p).testMark = false ∧ (closedPulse fault now b p).w = b.w ∧
    (closedPulse fault now b p).l = b.l ∧ (closedPulse fault now b p).noiseLimit = b.noiseLimit ∧
    (closedPulse fault now b p).counting = p.counting := by
  obtain ⟨-, -, -, counting, -⟩ := tallied_frame p
  unfold closedPulse
  rw [tested_eq, matchedPulse_eq]
  exact ⟨rfl, rfl, rfl, rfl, rfl, rfl, rfl, rfl, counting⟩

theorem closedPulse_tallies :
    ((closedPulse fault now b p).a.silence, (closedPulse fault now b p).b.silence, (closedPulse fault now b p).mismatch,
        (closedPulse fault now b p).matched) =
      ((tallied p).a.silence, (tallied p).b.silence, (tallied p).mismatch, (tallied p).matched) := by
  unfold closedPulse
  rw [tested_eq, matchedPulse_eq]
  rfl

theorem closedPulse_lost :
    (closedPulse fault now b p).a.lost =
      (if restores (closing p) b.m (tallied p) then false else p.a.lost || decide (b.m ≤ (tallied p).a.silence)) ∧
    (closedPulse fault now b p).b.lost =
      (if restores (closing p) b.m (tallied p) then false else p.b.lost || decide (b.m ≤ (tallied p).b.silence)) := by
  obtain ⟨-, -, -, a⟩ := tallied_channel p .a
  obtain ⟨-, -, -, b'⟩ := tallied_channel p .b
  unfold closedPulse
  rw [tested_eq, matchedPulse_eq, show (tallied p).a.lost = p.a.lost from a, show (tallied p).b.lost = p.b.lost from b']
  exact ⟨rfl, rfl⟩

theorem closedPulse_test :
    (closedPulse fault now b p).lastTest = (if p.testMark then (if fault then .fail else .pass) else p.lastTest) ∧
    (closedPulse fault now b p).lastTestTime = if p.testMark then some now else p.lastTestTime := by
  obtain ⟨-, -, -, -, mark, result, time⟩ := tallied_frame p
  unfold closedPulse
  rw [tested_eq, matchedPulse_eq, ← mark, ← result, ← time]
  exact ⟨rfl, rfl⟩

end Closed

/-! ### The close -/

def closeConditions (r : Run) : List ConditionId :=
  lossConditions r ++ [.run .pulseNoise r, .run .comparatorFault r]

/-- What a close makes of the conditions it judges, and what else it may reach. -/
structure Closed (fault : Bool) (r : Run) (s t : State) : Prop where
  closes : Closes r (closeConditions r) s t
  pulse : t.runPulse r = closedPulse fault s.clock (s.runBlock r) (s.runPulse r)
  mismatch : t.active (.run .pulseMismatch r) =
    if restores (closing (s.runPulse r)) (s.runBlock r).m (tallied (s.runPulse r)) then false
    else if mismatches (closing (s.runPulse r)) (s.runBlock r).m (tallied (s.runPulse r)) then true
    else s.active (.run .pulseMismatch r)
  noise : t.active (.run .pulseNoise r) = true ↔
    (s.runPulse r).noiseLimit < (s.runPulse r).a.noise ∨ (s.runPulse r).noiseLimit < (s.runPulse r).b.noise
  test : t.active (.run .comparatorFault r) =
    if (s.runPulse r).testMark then fault else s.active (.run .comparatorFault r)
  once : 1 ≤ (s.runBlock r).m → QuietOn (closeConditions r) s t ∧
    t.active (.run .channelALost r) = lossJudged (restores (closing (s.runPulse r)) (s.runBlock r).m
      (tallied (s.runPulse r))) (s.runBlock r).m (tallied (s.runPulse r)).a (s.active (.run .channelALost r)) ∧
    t.active (.run .channelBLost r) = lossJudged (restores (closing (s.runPulse r)) (s.runBlock r).m
      (tallied (s.runPulse r))) (s.runBlock r).m (tallied (s.runPulse r)).b (s.active (.run .channelBLost r))

theorem closeWindow_eq (fault : Bool) (r : Run) (s : State) :
    closeWindow fault r s = openWindow r (evaluateTest fault r (judgeNoise r
      (judgeLosses (closing (s.runPulse r)) (s.runBlock r).m r (s.setRunPulse r (tallied (s.runPulse r)))))) := rfl

/-- A window that matches has no silent channel. -/
theorem tallied_heard {p : RunPulse} (kind : closing p = .match_) : (tallied p).a.silence = 0 ∧ (tallied p).b.silence = 0 := by
  unfold tallied
  rw [kind]
  exact ⟨rfl, rfl⟩

theorem closed_closeWindow (fault : Bool) (r : Run) (s : State) : Closed fault r s (closeWindow fault r s) := by
  rw [closeWindow_eq]
  generalize kind : closing (s.runPulse r) = k
  generalize level : (s.runBlock r).m = m
  have same : (s.setRunPulse r (tallied (s.runPulse r))).runPulse r = tallied (s.runPulse r) := runPulse_set_same _ _ _
  have set := closes_setRunPulse r (tallied (s.runPulse r)) s
  have losses := closes_judgeLosses k m r (s.setRunPulse r (tallied (s.runPulse r)))
  have lossPulse := runPulse_judgeLosses k m r (s.setRunPulse r (tallied (s.runPulse r)))
  have lossMismatch := judgeLosses_mismatch k m r (s.setRunPulse r (tallied (s.runPulse r)))
  have lossOnce := judgeLosses_once k m r (s.setRunPulse r (tallied (s.runPulse r)))
  rw [same] at lossPulse lossMismatch lossOnce
  generalize judgeLosses k m r (s.setRunPulse r (tallied (s.runPulse r))) = t at losses lossPulse lossMismatch lossOnce ⊢
  have noise := judges_judgeNoise r t
  have test := judges_evaluateTest fault r (judgeNoise r t)
  have opened := closes_setRunPulse r (openedPulse ((evaluateTest fault r (judgeNoise r t)).runBlock r)
    ((evaluateTest fault r (judgeNoise r t)).runPulse r)) (evaluateTest fault r (judgeNoise r t))
  have pair := closes_trans noise.closes test.closes
  have all := closes_trans set (closes_trans losses (closes_trans pair opened))
  have tail := (closes_trans pair opened).others
  have noiseFrame : (matchedPulse k m (tallied (s.runPulse r))).a.noise = (s.runPulse r).a.noise ∧
      (matchedPulse k m (tallied (s.runPulse r))).b.noise = (s.runPulse r).b.noise ∧
      (matchedPulse k m (tallied (s.runPulse r))).noiseLimit = (s.runPulse r).noiseLimit ∧
      (matchedPulse k m (tallied (s.runPulse r))).testMark = (s.runPulse r).testMark := by
    obtain ⟨a, b, limit, -, mark, -⟩ := tallied_frame (s.runPulse r)
    rw [matchedPulse_eq]
    exact ⟨a, b, limit, mark⟩
  obtain ⟨noiseA, noiseB, limit, mark⟩ := noiseFrame
  have clock : (judgeNoise r t).clock = s.clock := noise.closes.clock.trans losses.clock
  have block : (evaluateTest fault r (judgeNoise r t)).runBlock r = s.runBlock r :=
    (pair.runBlock r).trans (losses.runBlock r)
  have pulse : openedPulse ((evaluateTest fault r (judgeNoise r t)).runBlock r)
      ((evaluateTest fault r (judgeNoise r t)).runPulse r) =
      closedPulse fault s.clock (s.runBlock r) (s.runPulse r) := by
    rw [block, test.pulse, noise.pulse, lossPulse, clock]
    unfold closedPulse
    rw [kind, level]
  refine ⟨closes_mono all (by simp [closeConditions]), (runPulse_set_same r _ _).trans pulse, ?_, ?_, ?_,
    fun atLeast => ?_⟩
  · rw [kind, level]
    exact (tail _ (by simp) (by simp)).trans lossMismatch
  · have judged := noise.active
    rw [lossPulse, noiseA, noiseB, limit] at judged
    have is := ((closes_trans test.closes opened).others _ (by simp) (by simp)).trans judged
    exact (iff_of_eq (congrArg (· = true) is)).trans decide_eq_true_iff
  · have judged := test.active
    rw [noise.pulse, lossPulse, mark, getD_ite] at judged
    refine (opened.others _ (by simp) (by simp)).trans (judged.trans ?_)
    rw [noise.closes.others _ (by simp) (by simp), losses.others _ (by simp [lossConditions]) (by simp)]
    rfl
  · have heard : k = .match_ → ¬m ≤ (tallied (s.runPulse r)).a.silence ∧ ¬m ≤ (tallied (s.runPulse r)).b.silence :=
      fun isMatch => by
        obtain ⟨a, b⟩ := tallied_heard (kind.trans isMatch)
        rw [a, b]
        omega
    obtain ⟨quiet, lostA, lostB⟩ := lossOnce heard
    rw [kind, level]
    refine ⟨?_, (tail _ (by simp) (by simp)).trans lostA, (tail _ (by simp) (by simp)).trans lostB⟩
    have pairQuiet := quietOn_trans noise.closes test.closes noise.quiet test.quiet (by simp) (by simp)
    have quietTail := quietOn_trans pair opened pairQuiet (fun _ => rfl) (by simp) (by simp)
    have rest := quietOn_trans losses (closes_trans pair opened) quiet quietTail (by simp [lossConditions])
      (by simp [lossConditions])
    have whole := quietOn_trans set (closes_trans losses (closes_trans pair opened)) (fun _ => rfl) rest (by simp)
      (by simp [lossConditions])
    exact whole

end Sys2Proof.Proofs
end

section
/-! The pulse that closes a window: the statement. -/

namespace Sys2Proof.Proofs

open Sys2Proof Sys2Proof.Machine Sys2Proof.Safety Sys2Proof.Stated Sys2Proof.Laws

/-! ### The kind of a window (R7, R8) -/

theorem closing_match_iff (p : RunPulse) :
    closing p = .match_ ↔ p.a.window ≠ 0 ∧ p.b.window ≠ 0 ∧ absDiff p.a.window p.b.window ≤ p.l := by
  unfold closing windowKind comparatorMismatch
  split
  next a => exact iff_of_false nofun fun both => both.1 a
  next a =>
    split
    next b => exact iff_of_false nofun fun both => both.2.1 b
    next b =>
      split
      next differs => exact iff_of_false nofun fun both => absurd (of_decide_eq_true differs) (Nat.not_lt.mpr both.2.2)
      next agrees => exact iff_of_true rfl ⟨a, b, Nat.not_lt.mp (by simpa using agrees)⟩

theorem closing_mismatch_iff (p : RunPulse) :
    closing p = .mismatch ↔ p.a.window ≠ 0 ∧ p.b.window ≠ 0 ∧ p.l < absDiff p.a.window p.b.window := by
  unfold closing windowKind comparatorMismatch
  split
  next a => exact iff_of_false nofun fun both => both.1 a
  next a =>
    split
    next b => exact iff_of_false nofun fun both => both.2.1 b
    next b =>
      split
      next differs => exact iff_of_true rfl ⟨a, b, of_decide_eq_true differs⟩
      next agrees => exact iff_of_false nofun fun both => agrees (decide_eq_true both.2.2)

theorem tallied_tallies (p : RunPulse) :
    ((tallied p).a.silence, (tallied p).b.silence, (tallied p).mismatch, (tallied p).matched) =
      (if p.a.window = 0 then (up p.a.silence, 0, 0, 0)
       else if p.b.window = 0 then (0, up p.b.silence, 0, 0)
       else if p.l < absDiff p.a.window p.b.window then (0, 0, up p.mismatch, 0)
       else (0, 0, 0, up p.matched)) := by
  unfold tallied closing windowKind comparatorMismatch
  split
  · rfl
  split
  · rfl
  by_cases differs : p.l < absDiff p.a.window p.b.window
  · rw [if_pos differs, if_pos (decide_eq_true differs)]
    rfl
  · rw [if_neg differs, if_neg (by simpa using differs)]
    rfl

theorem restores_iff (m : Nat) (p x : RunPulse) :
    restores (closing p) m x = true ↔
      p.a.window ≠ 0 ∧ p.b.window ≠ 0 ∧ absDiff p.a.window p.b.window ≤ p.l ∧ m ≤ x.matched := by
  unfold restores
  rw [Bool.and_eq_true, decide_eq_true_iff, decide_eq_true_iff, closing_match_iff, and_assoc, and_assoc]

theorem mismatches_iff (m : Nat) (p x : RunPulse) :
    mismatches (closing p) m x = true ↔
      p.a.window ≠ 0 ∧ p.b.window ≠ 0 ∧ p.l < absDiff p.a.window p.b.window ∧ m ≤ x.mismatch := by
  unfold mismatches
  rw [Bool.and_eq_true, decide_eq_true_iff, decide_eq_true_iff, closing_mismatch_iff, and_assoc, and_assoc]

/-- A loss judged stands as the channel's loss where that has changed, and as it was elsewhere. -/
theorem lossJudged_eq (restored was : Bool) (m : Nat) (x : PulseChannel) :
    lossJudged restored m x was =
      if (if restored then false else x.lost || decide (m ≤ x.silence)) = x.lost then was
      else if restored then false else x.lost || decide (m ≤ x.silence) := by
  unfold lossJudged
  cases restored <;> cases x.lost <;> by_cases silent : m ≤ x.silence <;> simp [silent]

/-! ### The statement -/

theorem closeIfFull_of_full {fault : Bool} {r : Run} {s : State}
    (full : (s.runPulse r).w ≤ max (s.runPulse r).a.window (s.runPulse r).b.window) :
    closeIfFull fault r s = closeWindow fault r s := if_pos full

/-- A counted pulse changes its channel's counts and window alone. -/
theorem counted_frame (c : Channel) (dir : Bool) (p : RunPulse) :
    let q := p.setChannel c (counted dir (p.channel c))
    q.a.window = (p.a.window + if c = .a then 1 else 0) ∧ q.b.window = (p.b.window + if c = .b then 1 else 0) ∧
    (q.a.silence = p.a.silence ∧ q.b.silence = p.b.silence ∧ q.mismatch = p.mismatch ∧ q.matched = p.matched) ∧
    (q.a.lost = p.a.lost ∧ q.b.lost = p.b.lost) ∧ (q.a.noise = p.a.noise ∧ q.b.noise = p.b.noise) ∧
    (q.w = p.w ∧ q.l = p.l ∧ q.noiseLimit = p.noiseLimit ∧ q.counting = p.counting) ∧
    (q.testMark = p.testMark ∧ q.lastTest = p.lastTest ∧ q.lastTestTime = p.lastTestTime) := by
  cases c <;> exact ⟨rfl, rfl, ⟨rfl, rfl, rfl, rfl⟩, ⟨rfl, rfl⟩, ⟨rfl, rfl⟩, ⟨rfl, rfl, rfl, rfl⟩, rfl, rfl, rfl⟩

theorem pulse_of_granted {s t : State} (granted : Granted s t) : t.pulse = s.pulse := by
  rw [granted]
  rfl

theorem active_of_granted {s t : State} (granted : Granted s t) (i : ConditionId) : t.active i = s.active i := by
  unfold State.active
  rw [monitor_of_granted granted]

theorem active_of_onlyProving {s t : State} (only : OnlyProving s t) (i : ConditionId) : t.active i = s.active i := by
  unfold State.active
  rw [only]
  rfl

theorem runBlock_of_onlyProving {s t : State} (only : OnlyProving s t) (r : Run) : t.runBlock r = s.runBlock r := by
  rw [only]
  rfl

/-- Settles O28: the pulse delivered, the window closed, and what its judgements hand over. -/
theorem windowClose : Obligations.WindowClose := by
  intro dt r c fault dir s running p b taken wa wb d qualifying high direction full
  have only : OnlyProving taken (deliverPulse r c dir taken) := onlyProving_deliverPulse r c dir taken
  have delivered : Delivered r c dir taken (deliverPulse r c dir taken) := delivered_deliverPulse r c dir taken
  have pulse : (deliverPulse r c dir taken).runPulse r = p.setChannel c (counted dir (p.channel c)) :=
    (runPulse_of_onlyProving only r).trans (runPulse_countedState r c dir (later dt s))
  have closed := closed_closeWindow fault r (deliverPulse r c dir taken)
  have granted := granted_settle (later dt s) (closeWindow fault r (deliverPulse r c dir taken))
  have finalActive := active_of_granted granted
  have finalPulse := pulse_of_granted granted
  have before : ∀ i, (deliverPulse r c dir taken).active i = s.active i := fun i =>
    active_of_onlyProving only i
  have block : (deliverPulse r c dir taken).runBlock r = b := runBlock_of_onlyProving only r
  have clock : (deliverPulse r c dir taken).clock = s.clock := by
    rw [only]
    rfl
  obtain ⟨windowA, windowB, ⟨silenceA, silenceB, mismatch, matched⟩, ⟨lostA, lostB⟩, ⟨noiseA, noiseB⟩,
    ⟨w, l, noiseLimit, counting⟩, testMark, lastTest, lastTestTime⟩ := counted_frame c dir p
  have gives : Gives (.qualificationTimeExpiry dt r c fault) s
      (settle (later dt s) (closeWindow fault r (deliverPulse r c dir taken))) := by
    refine gives_whileRunning rfl running ?_
    rw [qualificationExpires_of_accepted (s := later dt s) qualifying high direction, closeIfFull_of_full]
    · rfl
    · refine (congrArg (fun x : RunPulse => x.w ≤ max x.a.window x.b.window) pulse).mpr ?_
      rw [windowA, windowB, w]
      exact full
  have closedPulseEq := closed.pulse
  have closedMismatch := closed.mismatch
  have closedNoise := closed.noise
  have closedTest := closed.test
  have closedOnce := closed.once
  have closes := closed.closes
  rw [pulse, block, clock] at closedPulseEq
  simp only [pulse, block, before] at closedMismatch closedNoise closedTest closedOnce
  generalize counted_ : p.setChannel c (counted dir (p.channel c)) = x at *
  have finalRun (q : Run) : (settle (later dt s) (closeWindow fault r (deliverPulse r c dir taken))).runPulse q =
      (closeWindow fault r (deliverPulse r c dir taken)).runPulse q := congrArg (·.runs.get q) finalPulse
  obtain ⟨silence1, silence2, mismatch1, matched1⟩ : _ ∧ _ ∧ _ ∧ _ := by
    simpa only [Prod.mk.injEq] using closedPulse_tallies fault s.clock b x
  have restored : restores (closing x) b.m (tallied x) = true ↔
      wa ≠ 0 ∧ wb ≠ 0 ∧ d ≤ p.l ∧ b.m ≤ (closedPulse fault s.clock b x).matched := by
    rw [restores_iff, windowA, windowB, l, matched1]
    rfl
  have mismatched : mismatches (closing x) b.m (tallied x) = true ↔
      wa ≠ 0 ∧ wb ≠ 0 ∧ p.l < d ∧ b.m ≤ (closedPulse fault s.clock b x).mismatch := by
    rw [mismatches_iff, windowA, windowB, l, mismatch1]
    rfl
  obtain ⟨lost1, lost2⟩ := closedPulse_lost fault s.clock b x
  have talliedA : (tallied x).a.lost = p.a.lost := (tallied_channel x .a).2.2.2.trans lostA
  have talliedB : (tallied x).b.lost = p.b.lost := (tallied_channel x .b).2.2.2.trans lostB
  rw [lostA, ← silence1] at lost1
  rw [lostB, ← silence2] at lost2
  refine ⟨_, closedPulse fault s.clock b x, deliverPulse r c dir taken, gives, (finalRun r).trans closedPulseEq,
    delivered, ?_, ?_, ?_, ?_, ?_, ?_, ?_, ?_, ?_, ?_, ?_, ?_, ?_, ?_, ?_, ?_⟩
  · rw [finalPulse]
    exact beside_trans (beside_of_judged closes.reaches) (beside_of_granted granted)
  · intro q other
    rw [finalRun, closes.runs q other, runPulse_of_onlyProving only]
    exact runPulse_set_other other _ _
  · rw [finalPulse, closes.d1, only]
    rfl
  · rw [finalPulse, closes.d2, only]
    rfl
  · intro atLeast same
    have quiet := (closedOnce atLeast).1 fun i _ => by
      rw [before, ← finalActive]
      exact same i
    rw [finalPulse, leaving_eq_settle, ← quiet]
    rfl
  · intro k
    have run : taken.runPulse r = x := (runPulse_countedState r c dir (later dt s)).trans counted_
    rw [run]
    exact closedPulse_channel fault s.clock b x k
  · have window := closedPulse_window fault s.clock b x
    rw [counting] at window
    exact window
  · rw [closedPulse_tallies, tallied_tallies, windowA, windowB, silenceA, silenceB, mismatch, matched, l]
    rfl
  · intro reached
    have yes := restored.mpr reached
    rw [if_pos yes] at lost1 lost2 closedMismatch
    exact ⟨lost1, lost2, (finalActive _).trans closedMismatch⟩
  · intro not
    rw [if_neg fun yes => not (restored.mp yes)] at lost1 lost2
    rw [lost1, lost2, Bool.or_eq_true, Bool.or_eq_true, decide_eq_true_iff, decide_eq_true_iff]
    exact ⟨Iff.rfl, Iff.rfl⟩
  · intro atLeast
    obtain ⟨-, onceA, onceB⟩ := closedOnce atLeast
    rw [lossJudged_eq, talliedA, ← silence1, ← lost1] at onceA
    rw [lossJudged_eq, talliedB, ← silence2, ← lost2] at onceB
    exact ⟨(finalActive _).trans onceA, (finalActive _).trans onceB⟩
  · intro reached
    obtain ⟨-, -, above, -⟩ := id reached
    have not : ¬restores (closing x) b.m (tallied x) = true := fun yes => by
      obtain ⟨-, -, within_, -⟩ := restored.mp yes
      omega
    rw [if_neg not, if_pos (mismatched.mpr reached)] at closedMismatch
    exact (finalActive _).trans closedMismatch
  · intro notMismatch notRestored
    rw [if_neg fun yes => notRestored (restored.mp yes), if_neg fun yes => notMismatch (mismatched.mp yes)]
      at closedMismatch
    exact (finalActive _).trans closedMismatch
  · rw [finalActive, closedNoise, noiseLimit, noiseA, noiseB]
  · intro marked
    obtain ⟨result, time⟩ := closedPulse_test fault s.clock b x
    rw [testMark, marked] at result time closedTest
    exact ⟨result, time, (finalActive _).trans closedTest⟩
  · intro unmarked
    obtain ⟨result, time⟩ := closedPulse_test fault s.clock b x
    rw [testMark, unmarked] at result time closedTest
    exact ⟨result.trans lastTest, time.trans lastTestTime, (finalActive _).trans closedTest⟩

end Sys2Proof.Proofs
end

section
/-! The stages of a boundary: what each reaches, and the credit of a period in every run. -/

namespace Sys2Proof.Proofs

open Sys2Proof Sys2Proof.Machine Sys2Proof.Safety Sys2Proof.Stated Sys2Proof.Laws

/-! ### The credit of a period (R53, R56, R74) -/

/-- A run's totals with a period credited, to the no-batch accumulators where no batch is active (R56, R57). -/
def creditedTotals (batched : Bool) (f : LastPeriod) (x : RunTotals) : RunTotals :=
  { x with
    cumulative := creditSplit f.flagged (splitResidues x.residues f).1 x.cumulative
    residues := (splitResidues x.residues f).2
    reverse := addTotal x.reverse f.reverse
    noBatch := if batched then x.noBatch else creditSplit f.flagged (splitResidues x.residues f).1 x.noBatch }

/-- The active batch with a run's period credited (R74). -/
def creditedIn (r : Run) (f : LastPeriod) (x : RunTotals) (b : ActiveBatch) : ActiveBatch :=
  { b with runs := b.runs.set r (creditBatchRun f (splitResidues x.residues f).1 (b.runs.get r)) }

theorem setActive_self {s : State} {x : Option ActiveBatch} (active : s.store.active = x) : s.setActive x = s := by
  subst active
  rfl

theorem creditRun_eq (figs : PerRun LastPeriod) (s : State) (r : Run) :
    creditRun figs s r = ((s.withStore { s.store with
        runs := s.store.runs.set r (creditedTotals s.store.active.isSome (figs.get r) (s.store.runs.get r))
        active := s.store.active.map (creditedIn r (figs.get r) (s.store.runs.get r)) }).withPulse
      { s.pulse with runs := s.pulse.runs.set r (zeroCounts (s.pulse.runs.get r)) }).withTotalizer
      { s.totalizer with last := s.totalizer.last.set r (some (figs.get r)) } := by
  rcases active : s.store.active with _ | b
  · conv => lhs; rw [← setActive_self active]
    rfl
  · unfold creditRun
    rw [active]
    rfl

/-- The active batch with every run's period credited. -/
def creditedBatch (figs : PerRun LastPeriod) (runs : PerRun RunTotals) (b : ActiveBatch) : ActiveBatch :=
  { b with runs := PerRun.tab fun r =>
      creditBatchRun (figs.get r) (splitResidues (runs.get r).residues (figs.get r)).1 (b.runs.get r) }

/-- s with the parts that a period's credit reaches. -/
def withCredit (s : State) (runs : PerRun RunTotals) (active : Option ActiveBatch) (pulses : PerRun RunPulse)
    (last : PerRun (Option LastPeriod)) : State :=
  ((s.withStore { s.store with runs := runs, active := active }).withPulse { s.pulse with runs := pulses }).withTotalizer
    { s.totalizer with last := last }

theorem creditRun_withCredit (figs : PerRun LastPeriod) (s : State) (runs : PerRun RunTotals)
    (active : Option ActiveBatch) (pulses : PerRun RunPulse) (last : PerRun (Option LastPeriod)) (r : Run) :
    creditRun figs (withCredit s runs active pulses last) r =
      withCredit s (runs.set r (creditedTotals active.isSome (figs.get r) (runs.get r)))
        (active.map (creditedIn r (figs.get r) (runs.get r))) (pulses.set r (zeroCounts (pulses.get r)))
        (last.set r (some (figs.get r))) := creditRun_eq figs _ r

theorem creditAll_eq (figs : PerRun LastPeriod) (s : State) :
    allRuns.foldl (creditRun figs) s = withCredit s
      (PerRun.tab fun r => creditedTotals s.store.active.isSome (figs.get r) (s.store.runs.get r))
      (s.store.active.map (creditedBatch figs s.store.runs)) (PerRun.tab fun r => zeroCounts (s.runPulse r))
      (PerRun.tab fun r => some (figs.get r)) := by
  have start : s = withCredit s s.store.runs s.store.active s.pulse.runs s.totalizer.last := rfl
  show creditRun figs (creditRun figs (creditRun figs (creditRun figs s .r1) .r2) .r3) .r4 = _
  conv => lhs; rw [start]
  rw [creditRun_withCredit, creditRun_withCredit, creditRun_withCredit, creditRun_withCredit]
  congr 1
  · rcases s.store.active with _ | b <;> rfl
  · rcases s.store.active with _ | b <;> rfl

/-- The figures of a period with their flags, as a boundary from s keeps them (R55). -/
def boundaryFigures (closing : Bool) (pe : Nat) (s : State) : PerRun LastPeriod :=
  flagFigures (PerRun.tab (periodFigures closing pe s)) (judgePeriod closing (PerRun.tab (periodFigures closing pe s)) s)

/-- The state with a period judged. -/
def judgedState (closing : Bool) (pe : Nat) (s : State) : State :=
  judgePeriod closing (PerRun.tab (periodFigures closing pe s)) s

theorem judged_judgedState (closing : Bool) (pe : Nat) (s : State) : Judged s (judgedState closing pe s) :=
  judged_judgePeriod _ _ _

/-- A credited state with the time of the boundary recorded, and no run marked for the period that begins (R44, R55). -/
def endedState (u : State) : State :=
  (u.withStore { u.store with lastBoundary := u.clock }).withTotalizer
    { u.totalizer with unsound := PerRun.tab fun _ => false }

/-- A period ended: judged, credited to every run and the batch, and its time recorded. -/
theorem endPeriod_eq_credited (closing : Bool) (pe : Nat) (s : State) :
    endPeriod closing pe s = endedState (withCredit (judgedState closing pe s)
      (PerRun.tab fun r =>
        creditedTotals s.store.active.isSome ((boundaryFigures closing pe s).get r) (s.store.runs.get r))
      (s.store.active.map (creditedBatch (boundaryFigures closing pe s) s.store.runs))
      (PerRun.tab fun r => zeroCounts (s.runPulse r))
      (PerRun.tab fun r => some ((boundaryFigures closing pe s).get r))) := by
  have judged := judged_judgedState closing pe s
  refine congrArg endedState ((creditAll_eq (boundaryFigures closing pe s) (judgedState closing pe s)).trans ?_)
  unfold State.runPulse
  rw [judged.active, judged.runs, judged.pulse]

/-! ### The stages after the credit -/

/-- t is s with its record holding the prover and the history of provings changed. -/
def RecordMoved (s t : State) : Prop :=
  t = s.withStore { s.store with record := t.store.record, history := t.store.history }

theorem RecordMoved.refl (s : State) : RecordMoved s s := rfl

theorem recordMoved_abortRecord (cause : EndCause) (s : State) : RecordMoved s (abortRecord cause s) := by
  unfold abortRecord endRecord
  split <;> rfl

theorem recordMoved_boundaryAbort (want : EndCause) (causes : List EndCause) (s : State) :
    RecordMoved s (boundaryAbort want causes s) := by
  unfold boundaryAbort
  split
  · exact recordMoved_abortRecord _ _
  · rfl

/-- t is s with its batch, queue and tickets changed, and a judgement handed over. -/
structure Sequenced (s t : State) : Prop where
  lines : t.lines = s.lines
  supply : t.supply = s.supply
  clock : t.clock = s.clock
  counter : t.counter = s.counter
  pulse : t.pulse = s.pulse
  scanner : t.scanner = s.scanner
  requests : t.requests = s.requests
  work : t.work = s.work
  link : t.link = s.link
  pending : t.pending = s.pending
  totalizer : t.totalizer = { s.totalizer with unsound := t.totalizer.unsound }
  store : t.store = { s.store with
    record := t.store.record, history := t.store.history, active := t.store.active, queue := t.store.queue,
    slots := t.store.slots, held := t.store.held, ticketCounter := t.store.ticketCounter }

theorem Sequenced.trans {s t u : State} (h : Sequenced s t) (g : Sequenced t u) : Sequenced s u where
  lines := g.lines.trans h.lines
  supply := g.supply.trans h.supply
  clock := g.clock.trans h.clock
  counter := g.counter.trans h.counter
  pulse := g.pulse.trans h.pulse
  scanner := g.scanner.trans h.scanner
  requests := g.requests.trans h.requests
  work := g.work.trans h.work
  link := g.link.trans h.link
  pending := g.pending.trans h.pending
  totalizer := by
    rw [g.totalizer, h.totalizer]
  store := by
    rw [g.store, h.store]

theorem Sequenced.of_judged {s t : State} (h : Judged s t) : Sequenced s t where
  lines := h.lines
  supply := h.supply
  clock := h.clock
  counter := h.counter
  pulse := h.pulse
  scanner := h.scanner
  requests := h.requests
  work := h.work
  link := h.link
  pending := h.pending
  totalizer := h.totalizer
  store := by
    rw [h.store]

theorem sequenced_store (s : State) (st : Store) (same : st = { s.store with
    record := st.record, history := st.history, active := st.active, queue := st.queue, slots := st.slots,
    held := st.held, ticketCounter := st.ticketCounter }) : Sequenced s (s.withStore st) :=
  ⟨rfl, rfl, rfl, rfl, rfl, rfl, rfl, rfl, rfl, rfl, rfl, same⟩

theorem sequenced_withChange (s : State) (x : BatchChange) : Sequenced s (s.withChange x) :=
  ⟨rfl, rfl, rfl, rfl, rfl, rfl, rfl, rfl, rfl, rfl, rfl, rfl⟩

theorem sequenced_closeBatch (cause : CloseCause) (s : State) : Sequenced s (closeBatch cause s) := by
  rw [closeBatch_frame]
  exact sequenced_store _ _ rfl

theorem sequenced_startBatch (s : State) : Sequenced s (startBatch s) := by
  rw [startBatch_frame]
  exact sequenced_store _ _ rfl

theorem sequenced_compareNomination (s : State) : Sequenced s (compareNomination s) := by
  unfold compareNomination
  split
  · exact .of_judged (.refl s)
  · exact sequenced_store _ _ rfl

theorem sequenced_sequence (s : State) : Sequenced s (Machine.sequence s).1 := by
  have compared := sequenced_compareNomination s
  unfold Machine.sequence
  dsimp only
  generalize compareNomination s = u at compared
  have done := compared.trans (sequenced_withChange u .none)
  have closed (cause : CloseCause) :
      Sequenced s (judge (.station .ticketStoreFull) false (closeBatch cause (u.withChange .none))) :=
    (done.trans (sequenced_closeBatch cause _)).trans (.of_judged (judged_judge _ _ _))
  split
  · exact done.trans (sequenced_startBatch _)
  · exact closed _
  · exact (closed _).trans (sequenced_startBatch _)
  · split
    · exact compared
    · split
      · split
        · exact (compared.trans (sequenced_closeBatch _ _)).trans (.of_judged (judged_judge _ _ _))
        · exact compared.trans (.of_judged (judged_judge _ _ _))
      · exact compared

/-- t is s with blocks, their codes, marks and work changed, the scanner turned to a new list, and judgements handed
over. -/
structure Applied (s t : State) : Prop where
  lines : t.lines = s.lines
  supply : t.supply = s.supply
  clock : t.clock = s.clock
  counter : t.counter = s.counter
  pulse : t.pulse = s.pulse
  change : t.change = s.change
  requests : t.requests = s.requests
  link : t.link = s.link
  pending : t.pending = s.pending
  totalizer : t.totalizer = { s.totalizer with unsound := t.totalizer.unsound }
  store : t.store = { s.store with
    record := t.store.record, history := t.store.history, station := t.store.station, prover := t.store.prover,
    points := t.store.points, runBlocks := t.store.runBlocks }

theorem Applied.trans {s t u : State} (h : Applied s t) (g : Applied t u) : Applied s u where
  lines := g.lines.trans h.lines
  supply := g.supply.trans h.supply
  clock := g.clock.trans h.clock
  counter := g.counter.trans h.counter
  pulse := g.pulse.trans h.pulse
  change := g.change.trans h.change
  requests := g.requests.trans h.requests
  link := g.link.trans h.link
  pending := g.pending.trans h.pending
  totalizer := by
    rw [g.totalizer, h.totalizer]
  store := by
    rw [g.store, h.store]

theorem Applied.of_judged {s t : State} (h : Judged s t) : Applied s t where
  lines := h.lines
  supply := h.supply
  clock := h.clock
  counter := h.counter
  pulse := h.pulse
  change := h.change
  requests := h.requests
  link := h.link
  pending := h.pending
  totalizer := h.totalizer
  store := by
    rw [h.store]

theorem Applied.refl (s : State) : Applied s s := .of_judged (.refl s)

theorem applied_withWork (s : State) (w : ConfigWork) : Applied s (s.withWork w) :=
  ⟨rfl, rfl, rfl, rfl, rfl, rfl, rfl, rfl, rfl, rfl, rfl⟩

theorem applied_withScanner (s : State) (x : Scanner) : Applied s (s.withScanner x) :=
  ⟨rfl, rfl, rfl, rfl, rfl, rfl, rfl, rfl, rfl, rfl, rfl⟩

theorem applied_withStore (s : State) (st : Store) (same : st = { s.store with
    record := st.record, history := st.history, station := st.station, prover := st.prover, points := st.points,
    runBlocks := st.runBlocks }) : Applied s (s.withStore st) :=
  ⟨rfl, rfl, rfl, rfl, rfl, rfl, rfl, rfl, rfl, rfl, same⟩

theorem Applied.foldl {α : Type} (f : State → α → State) (one : ∀ s x, Applied s (f s x)) (l : List α) (s : State) :
    Applied s (l.foldl f s) := by
  induction l generalizing s with
  | nil => exact .refl s
  | cons x rest ih => exact (one s x).trans (ih _)

theorem applied_setMark (b : BlockId) (x : Bool) (s : State) : Applied s (setMark b x s) := by
  cases b <;> exact applied_withWork s _

theorem applied_clearMark (b : BlockId) (s : State) : Applied s (clearMark b s) := by
  have set := applied_setMark b false s
  unfold clearMark
  split
  · dsimp only
    split
    · exact set.trans (.of_judged (judged_judge _ _ _))
    · split
      · exact set
      · exact set.trans (.of_judged (judged_judge _ _ _))
  · exact .refl s

theorem applied_verifyBlock (b : BlockId) (s : State) : Applied s (verifyBlock b s) := by
  unfold verifyBlock
  split
  · exact (applied_setMark b true s).trans (.of_judged (judged_judge _ _ _))
  · exact .refl s

theorem applied_applyStation (s : State) : Applied s (applyStation s) := by
  unfold applyStation
  split
  · exact .refl s
  · refine .trans ?_ (applied_clearMark _ _)
    refine .trans ?_ (.of_judged (judged_applyClasses _ _ _))
    exact (applied_withStore s _ rfl).trans (applied_withWork _ _)

theorem applied_applyProver (s : State) : Applied s (applyProver s) := by
  unfold applyProver
  split
  · exact .refl s
  · refine .trans ?_ (applied_clearMark _ _)
    exact (applied_withStore s _ rfl).trans (applied_withWork _ _)

theorem applied_scannerTakesPoints (s : State) : Applied s (scannerTakesPoints s) := by
  unfold scannerTakesPoints
  rw [nextConversion_eq]
  exact (applied_withScanner s _).trans (applied_withScanner _ _)

theorem applied_applyPoints (s : State) : Applied s (applyPoints s) := by
  unfold applyPoints
  split
  · exact .refl s
  · refine .trans (.trans ?_ (applied_scannerTakesPoints _)) (applied_clearMark _ _)
    exact (applied_withStore s _ rfl).trans (applied_withWork _ _)

theorem applied_applyRun (s : State) (r : Run) : Applied s (applyRun s r) := by
  unfold applyRun
  split
  · exact .refl s
  · have cleared (u : State) (set : Applied s u) : Applied s (clearMark (.run r) u) := set.trans (applied_clearMark _ _)
    dsimp only
    split
    · exact cleared _ ((applied_withStore s _ rfl).trans (applied_withWork _ _))
    · exact (cleared _ ((applied_withStore s _ rfl).trans (applied_withWork _ _))).trans (.of_judged (judged_judge _ _ _))

theorem applied_applyBlocks (s : State) : Applied s (applyBlocks s) :=
  ((applied_applyStation s).trans (applied_applyProver _)).trans
    ((applied_applyPoints _).trans (.foldl _ applied_applyRun _ _))

theorem applied_applyAndVerify (verifyFirst : Bool) (s : State) : Applied s (applyAndVerify verifyFirst s) := by
  have work (u : State) (x : BlockId) : Applied u (u.withWork { u.work with rotation := x }) :=
    applied_withWork _ _
  unfold applyAndVerify
  dsimp only
  split
  · exact ((applied_verifyBlock _ _).trans (applied_applyBlocks _)).trans (work _ _)
  · exact ((applied_applyBlocks _).trans (applied_verifyBlock _ _)).trans (work _ _)

end Sys2Proof.Proofs
end

section
/-! What a boundary is made of: the state that each of its stages leaves to the next. -/

namespace Sys2Proof.Proofs

open Sys2Proof Sys2Proof.Machine Sys2Proof.Safety Sys2Proof.Stated Sys2Proof.Laws

/-! ### Curves and services (R59, R134) -/

def withCurves (s : State) (curves : PerRun (List CurvePoint)) (pendings : PerRun (Option (List CurvePoint))) : State :=
  s.withStore { s.store with curves := curves, pendingCurves := pendings }

theorem applyCurve_withCurves (s : State) (curves : PerRun (List CurvePoint))
    (pendings : PerRun (Option (List CurvePoint))) (r : Run) :
    applyCurve (withCurves s curves pendings) r =
      withCurves s (curves.set r ((pendings.get r).getD (curves.get r))) (pendings.set r none) := by
  unfold applyCurve
  show (match pendings.get r with | none => _ | some c => _) = _
  rcases pending : pendings.get r with _ | c
  · have same : pendings.set r none = pendings := by rw [← pending, perRun_set_get_self]
    rw [same, Option.getD_none, perRun_set_get_self]
  · rfl

theorem applyCurves_eq (s : State) :
    allRuns.foldl applyCurve s = withCurves s
      (PerRun.tab fun r => (s.store.pendingCurves.get r).getD (s.store.curves.get r)) (PerRun.tab fun _ => none) := by
  have start : s = withCurves s s.store.curves s.store.pendingCurves := rfl
  show applyCurve (applyCurve (applyCurve (applyCurve s .r1) .r2) .r3) .r4 = _
  conv => lhs; rw [start]
  rw [applyCurve_withCurves, applyCurve_withCurves, applyCurve_withCurves, applyCurve_withCurves]
  rfl

/-- A run's totals with the pending service state in force (R59). -/
def serviced (x : RunTotals) : RunTotals :=
  { x with service := x.pendingService.getD x.service, pendingService := none }

def withRuns (s : State) (runs : PerRun RunTotals) : State := s.withStore { s.store with runs := runs }

theorem applyService_withRuns (s : State) (runs : PerRun RunTotals) (r : Run) :
    applyService (withRuns s runs) r = withRuns s (runs.set r (serviced (runs.get r))) := by
  unfold applyService
  show (match (runs.get r).pendingService with | none => _ | some v => _) = _
  rcases pending : (runs.get r).pendingService with _ | v
  · have same : serviced (runs.get r) = runs.get r := by
      unfold serviced
      rw [pending, Option.getD_none, ← pending]
    rw [same, perRun_set_get_self]
  · have same : serviced (runs.get r) = { runs.get r with service := v, pendingService := none } := by
      unfold serviced
      rw [pending]
      rfl
    rw [same]
    rfl

theorem applyServices_eq (s : State) :
    allRuns.foldl applyService s = withRuns s (PerRun.tab fun r => serviced (s.store.runs.get r)) := by
  have start : s = withRuns s s.store.runs := rfl
  show applyService (applyService (applyService (applyService s .r1) .r2) .r3) .r4 = _
  conv => lhs; rw [start]
  rw [applyService_withRuns, applyService_withRuns, applyService_withRuns, applyService_withRuns]
  rfl

/-! ### The deferred items -/

/-- The state once the sequencer's work at a boundary is done (R78, R111). -/
def sequencedState (e : State) : State := (Machine.sequence (checkStability e)).1

/-- The state once curves and services are in force. -/
def servicedState (e : State) : State := allRuns.foldl applyService (allRuns.foldl applyCurve (sequencedState e))

theorem servicedState_eq (e : State) :
    servicedState e = withRuns (withCurves (sequencedState e)
      (PerRun.tab fun r =>
        ((sequencedState e).store.pendingCurves.get r).getD ((sequencedState e).store.curves.get r))
      (PerRun.tab fun _ => none)) (PerRun.tab fun r => serviced ((sequencedState e).store.runs.get r)) := by
  unfold servicedState
  rw [applyServices_eq, applyCurves_eq]
  rfl

theorem sequenced_sequencedState (e : State) : Sequenced e (sequencedState e) := by
  have checked : Sequenced e (checkStability e) := by
    rw [checkStability_frame]
    exact sequenced_store _ _ rfl
  exact checked.trans (sequenced_sequence _)

/-- The causes a boundary finds for the record holding the prover (R117, R118). -/
def deferredCauses (e : State) : List EndCause :=
  boundaryCauses (Machine.sequence (checkStability e)).2 e (servicedState e)

theorem deferredItems_of_failedFirst {order : BoundaryOrder} (first : order.causeFirst = .runFailed) (e : State) :
    deferredItems order e =
      let u := applyAndVerify order.verifyFirst (servicedState e)
      if u.store.record.isSome then boundaryAbort order.causeFirst (deferredCauses e) u else u := if_pos first

theorem deferredItems_of_other {order : BoundaryOrder} (other : order.causeFirst ≠ .runFailed) (e : State) :
    deferredItems order e =
      applyAndVerify order.verifyFirst (boundaryAbort order.causeFirst (deferredCauses e) (servicedState e)) :=
  if_neg other

/-- The applications come from and lead to states that differ in the record alone. -/
theorem deferredItems_shape (order : BoundaryOrder) (e : State) :
    ∃ u, RecordMoved (servicedState e) u ∧ RecordMoved (applyAndVerify order.verifyFirst u) (deferredItems order e) := by
  by_cases first : order.causeFirst = .runFailed
  · refine ⟨servicedState e, .refl _, ?_⟩
    rw [deferredItems_of_failedFirst first]
    dsimp only
    split
    · exact recordMoved_boundaryAbort _ _ _
    · exact .refl _
  · refine ⟨_, recordMoved_boundaryAbort order.causeFirst (deferredCauses e) _, ?_⟩
    rw [deferredItems_of_other first]
    exact .refl _

/-! ### The beginning of the next period (R12) -/

/-- A run's pulse state with its counting channel fixed. -/
def fixedPulse (p : RunPulse) : RunPulse := { p with counting := countingOf p }

theorem setRecord_self {s : State} {x : Option ProvingRecord} (held : s.store.record = x) : s.setRecord x = s := by
  subst held
  rfl

theorem countingChanged_eq (run : Run) (s : State) :
    countingChanged run s = s.setRecord (s.store.record.map fun x =>
      if x.request.run = run then marked false true x else x) := by
  unfold countingChanged
  rcases held : s.store.record with _ | x
  · conv => lhs; rw [← setRecord_self held]
    rfl
  · dsimp only
    rw [Option.map_some]
    split
    · rw [marked_eq_markRound]
    · exact (setRecord_self held).symm

/-- The record after the counting channel of a run is fixed: its round marked where the channel changes (R112). -/
def fixedRecord (r : Run) (p : RunPulse) (x : ProvingRecord) : ProvingRecord :=
  if countingOf p ≠ p.counting ∧ x.request.run = r then marked false true x else x

def withFixed (s : State) (pulses : PerRun RunPulse) (record : Option ProvingRecord) : State :=
  (s.withPulse { s.pulse with runs := pulses }).setRecord record

theorem fixCounting_withFixed (s : State) (pulses : PerRun RunPulse) (record : Option ProvingRecord) (r : Run) :
    fixCounting (withFixed s pulses record) r =
      withFixed s (pulses.set r (fixedPulse (pulses.get r))) (record.map (fixedRecord r (pulses.get r))) := by
  show (if countingOf (pulses.get r) = (pulses.get r).counting then _ else _) = _
  unfold fixedRecord
  split
  next same =>
    have pulse : fixedPulse (pulses.get r) = pulses.get r := by
      unfold fixedPulse
      rw [same]
    have record' : (record.map fun x => if countingOf (pulses.get r) ≠ (pulses.get r).counting ∧ x.request.run = r then
        marked false true x else x) = record := by
      simp only [same, ne_eq, not_true_eq_false, false_and, if_false]
      exact Option.map_id'
    rw [pulse, perRun_set_get_self, record']
  next moved =>
    rw [countingChanged_eq]
    simp only [ne_eq, moved, not_false_eq_true, true_and]
    rfl

/-- The record with its round marked where its run's counting channel changes (R112). -/
def fixedRecords (pulse : Run → RunPulse) (x : ProvingRecord) : ProvingRecord :=
  fixedRecord x.request.run (pulse x.request.run) x

theorem fixedRecord_run (r : Run) (p : RunPulse) (x : ProvingRecord) :
    (fixedRecord r p x).request = x.request := by
  unfold fixedRecord
  split <;> rfl

theorem fixedRecord_other {r : Run} {x : ProvingRecord} (other : x.request.run ≠ r) (p : RunPulse) :
    fixedRecord r p x = x := if_neg fun both => other both.2

theorem fixCountings_eq (s : State) :
    allRuns.foldl fixCounting s = withFixed s (PerRun.tab fun r => fixedPulse (s.runPulse r))
      (s.store.record.map (fixedRecords s.runPulse)) := by
  have start : s = withFixed s s.pulse.runs s.store.record := rfl
  show fixCounting (fixCounting (fixCounting (fixCounting s .r1) .r2) .r3) .r4 = _
  conv => lhs; rw [start]
  rw [fixCounting_withFixed, fixCounting_withFixed, fixCounting_withFixed, fixCounting_withFixed]
  have record : (((s.store.record.map (fixedRecord .r1 (s.runPulse .r1))).map (fixedRecord .r2 (s.runPulse .r2))).map
      (fixedRecord .r3 (s.runPulse .r3))).map (fixedRecord .r4 (s.runPulse .r4)) =
      s.store.record.map (fixedRecords s.runPulse) := by
    rcases s.store.record with _ | x
    · rfl
    · simp only [Option.map_some]
      unfold fixedRecords
      rcases own : x.request.run <;>
        simp only [fixedRecord_other, fixedRecord_run, own, ne_eq, reduceCtorEq, not_false_eq_true]
  exact congrArg (withFixed s _) record

end Sys2Proof.Proofs
end

section
/-! A boundary as a whole: what it leaves, part by part. -/

namespace Sys2Proof.Proofs

open Sys2Proof Sys2Proof.Machine Sys2Proof.Safety Sys2Proof.Stated Sys2Proof.Laws

/-- The period timer started and the runs that are not SOUND marked (R42, R55). -/
def startedPeriod (u : State) : State :=
  u.withTotalizer { u.totalizer with
    periodLength := u.stationBlock.periodLength
    periodStart := u.counter
    unsound := PerRun.tab fun r => u.totalizer.unsound.get r || decide (u.integrity r ≠ .sound) }

/-- The next period begun: the counting channels fixed, then the period timer and the marks. -/
theorem beginPeriod_eq (d : State) :
    beginPeriod d = startedPeriod (withFixed d (PerRun.tab fun r => fixedPulse (d.runPulse r))
      (d.store.record.map (fixedRecords d.runPulse))) :=
  congrArg startedPeriod (fixCountings_eq d)

/-- t is d with its pulse states and record set, and the period timer and marks started. -/
structure Begun (pulses : PerRun RunPulse) (record : Option ProvingRecord) (d t : State) : Prop where
  lines : t.lines = d.lines
  supply : t.supply = d.supply
  clock : t.clock = d.clock
  counter : t.counter = d.counter
  requests : t.requests = d.requests
  link : t.link = d.link
  pending : t.pending = d.pending
  scanner : t.scanner = d.scanner
  change : t.change = d.change
  work : t.work = d.work
  monitor : t.monitor = d.monitor
  pulse : t.pulse = { d.pulse with runs := pulses }
  totalizer : t.totalizer = { d.totalizer with
    periodLength := d.stationBlock.periodLength
    periodStart := d.counter
    unsound := PerRun.tab fun r => d.totalizer.unsound.get r || decide (d.integrity r ≠ .sound) }
  store : t.store = { d.store with record := record }

theorem begun_startedPeriod (d : State) (pulses : PerRun RunPulse) (record : Option ProvingRecord) :
    Begun pulses record d (startedPeriod (withFixed d pulses record)) :=
  ⟨rfl, rfl, rfl, rfl, rfl, rfl, rfl, rfl, rfl, rfl, rfl, rfl, rfl, rfl⟩

theorem begun_beginPeriod (d : State) :
    Begun (PerRun.tab fun r => fixedPulse (d.runPulse r)) (d.store.record.map (fixedRecords d.runPulse)) d
      (beginPeriod d) := by
  rw [beginPeriod_eq]
  exact begun_startedPeriod _ _ _

/-- What a boundary leaves alone, and what it leaves of pulses, totals, curves and the period timer. -/
structure Bounded (closing : Bool) (pe : Nat) (s t : State) : Prop where
  lines : t.lines = s.lines
  supply : t.supply = s.supply
  clock : t.clock = s.clock
  counter : t.counter = s.counter
  requests : t.requests = s.requests
  link : t.link = s.link
  pending : t.pending = s.pending
  pulse : t.pulse = { s.pulse with runs := PerRun.tab fun r => fixedPulse (zeroCounts (s.runPulse r)) }
  change : t.change = (sequencedState (endPeriod closing pe s)).change
  totalizer : t.totalizer = { s.totalizer with
    periodLength := t.stationBlock.periodLength
    periodStart := t.counter
    unsound := t.totalizer.unsound
    last := PerRun.tab fun r => some ((boundaryFigures closing pe s).get r) }
  store : t.store = { s.store with
    runs := PerRun.tab fun r => serviced
      (creditedTotals s.store.active.isSome ((boundaryFigures closing pe s).get r) (s.store.runs.get r))
    lastBoundary := s.clock
    curves := PerRun.tab fun r => (s.store.pendingCurves.get r).getD (s.store.curves.get r)
    pendingCurves := PerRun.tab fun _ => none
    active := (sequencedState (endPeriod closing pe s)).store.active
    queue := (sequencedState (endPeriod closing pe s)).store.queue
    slots := (sequencedState (endPeriod closing pe s)).store.slots
    held := (sequencedState (endPeriod closing pe s)).store.held
    ticketCounter := (sequencedState (endPeriod closing pe s)).store.ticketCounter
    record := t.store.record, history := t.store.history
    station := t.store.station, prover := t.store.prover, points := t.store.points, runBlocks := t.store.runBlocks }

/-- e is s with totals, batch, pulse states and period results credited, from judgements that led to j. -/
structure Ended (j : State) (runs : PerRun RunTotals) (active : Option ActiveBatch) (pulses : PerRun RunPulse)
    (last : PerRun (Option LastPeriod)) (s e : State) : Prop where
  lines : e.lines = s.lines
  supply : e.supply = s.supply
  clock : e.clock = s.clock
  counter : e.counter = s.counter
  requests : e.requests = s.requests
  link : e.link = s.link
  pending : e.pending = s.pending
  scanner : e.scanner = s.scanner
  change : e.change = s.change
  work : e.work = s.work
  monitor : e.monitor = j.monitor
  pulse : e.pulse = { s.pulse with runs := pulses }
  totalizer : e.totalizer = { s.totalizer with unsound := PerRun.tab fun _ => false, last := last }
  store : e.store = { s.store with
    runs := runs, active := active, lastBoundary := s.clock, record := j.store.record, history := j.store.history }

theorem ended_endedState {j s : State} (judged : Judged s j) (runs : PerRun RunTotals) (active : Option ActiveBatch)
    (pulses : PerRun RunPulse) (last : PerRun (Option LastPeriod)) :
    Ended j runs active pulses last s (endedState (withCredit j runs active pulses last)) where
  lines := judged.lines
  supply := judged.supply
  clock := judged.clock
  counter := judged.counter
  requests := judged.requests
  link := judged.link
  pending := judged.pending
  scanner := judged.scanner
  change := judged.change
  work := judged.work
  monitor := rfl
  pulse := by
    show { j.pulse with runs := pulses } = _
    rw [judged.pulse]
  totalizer := by
    show { j.totalizer with unsound := PerRun.tab fun _ => false, last := last } = _
    rw [judged.totalizer]
  store := by
    show { j.store with runs := runs, active := active, lastBoundary := j.clock } = _
    rw [judged.store, judged.clock]

/-- The end of a period, by what it credits (R53, R56, R74). -/
theorem ended_endPeriod (closing : Bool) (pe : Nat) (s : State) :
    Ended (judgedState closing pe s)
      (PerRun.tab fun r =>
        creditedTotals s.store.active.isSome ((boundaryFigures closing pe s).get r) (s.store.runs.get r))
      (s.store.active.map (creditedBatch (boundaryFigures closing pe s) s.store.runs))
      (PerRun.tab fun r => zeroCounts (s.runPulse r))
      (PerRun.tab fun r => some ((boundaryFigures closing pe s).get r)) s (endPeriod closing pe s) := by
  rw [endPeriod_eq_credited]
  exact ended_endedState (judged_judgedState closing pe s) _ _ _ _

/-- The deferred items and the period that begins: d comes of the record's aborts and the applications from what the
sequencer, the curves and the services leave. -/
theorem boundary_eq (closing : Bool) (pe : Nat) (order : BoundaryOrder) (s : State) :
    boundary closing pe order s = beginPeriod (deferredItems order (endPeriod closing pe s)) := rfl

/-- What the deferred items reach, by what the sequencer leaves in q. -/
structure DeferredFrame (q d : State) : Prop where
  lines : d.lines = q.lines
  supply : d.supply = q.supply
  clock : d.clock = q.clock
  counter : d.counter = q.counter
  requests : d.requests = q.requests
  link : d.link = q.link
  pending : d.pending = q.pending
  pulse : d.pulse = q.pulse
  change : d.change = q.change
  totalizer : d.totalizer = { q.totalizer with unsound := d.totalizer.unsound }
  store : d.store = { q.store with
    runs := PerRun.tab fun r => serviced (q.store.runs.get r)
    curves := PerRun.tab fun r => (q.store.pendingCurves.get r).getD (q.store.curves.get r)
    pendingCurves := PerRun.tab fun _ => none
    record := d.store.record, history := d.store.history, station := d.store.station, prover := d.store.prover
    points := d.store.points, runBlocks := d.store.runBlocks }

theorem applied_of_recordMoved {s t : State} (moved : RecordMoved s t) : Applied s t := by
  rw [moved]
  exact applied_withStore s _ rfl

theorem deferredFrame_deferredItems (order : BoundaryOrder) (e : State) :
    DeferredFrame (sequencedState e) (deferredItems order e) := by
  obtain ⟨u, before, after⟩ := deferredItems_shape order e
  have applied : Applied (servicedState e) (deferredItems order e) :=
    ((applied_of_recordMoved before).trans (applied_applyAndVerify _ _)).trans (applied_of_recordMoved after)
  rw [servicedState_eq] at applied
  exact {
    lines := applied.lines
    supply := applied.supply
    clock := applied.clock
    counter := applied.counter
    requests := applied.requests
    link := applied.link
    pending := applied.pending
    pulse := applied.pulse
    change := applied.change
    totalizer := applied.totalizer
    store := applied.store }

theorem bounded_boundary (closing : Bool) (pe : Nat) (order : BoundaryOrder) (s : State) :
    Bounded closing pe s (boundary closing pe order s) := by
  have ended := ended_endPeriod closing pe s
  have sequenced := sequenced_sequencedState (endPeriod closing pe s)
  have deferred := deferredFrame_deferredItems order (endPeriod closing pe s)
  have begun := begun_beginPeriod (deferredItems order (endPeriod closing pe s))
  rw [boundary_eq]
  generalize beginPeriod (deferredItems order (endPeriod closing pe s)) = t at begun ⊢
  generalize deferredItems order (endPeriod closing pe s) = d at *
  have dPulse := deferred.pulse.trans (sequenced.pulse.trans ended.pulse)
  have tBlock : t.stationBlock = d.stationBlock := by
    unfold State.stationBlock
    rw [begun.store]
  exact {
    lines := begun.lines.trans (deferred.lines.trans (sequenced.lines.trans ended.lines))
    supply := begun.supply.trans (deferred.supply.trans (sequenced.supply.trans ended.supply))
    clock := begun.clock.trans (deferred.clock.trans (sequenced.clock.trans ended.clock))
    counter := begun.counter.trans (deferred.counter.trans (sequenced.counter.trans ended.counter))
    requests := begun.requests.trans (deferred.requests.trans (sequenced.requests.trans ended.requests))
    link := begun.link.trans (deferred.link.trans (sequenced.link.trans ended.link))
    pending := begun.pending.trans (deferred.pending.trans (sequenced.pending.trans ended.pending))
    pulse := by
      rw [begun.pulse]
      unfold State.runPulse
      rw [dPulse]
      simp only [PerRun.get_tab]
      rfl
    change := begun.change.trans deferred.change
    totalizer := by
      rw [begun.totalizer, tBlock, begun.counter, deferred.totalizer, sequenced.totalizer, ended.totalizer]
    store := by
      rw [begun.store, deferred.store, sequenced.store, ended.store]
      simp only [PerRun.get_tab] }

end Sys2Proof.Proofs
end

section
/-! Judgements handed one after another: the judgements of a period. -/

namespace Sys2Proof.Proofs

open Sys2Proof Sys2Proof.Machine Sys2Proof.Safety Sys2Proof.Stated Sys2Proof.Laws

/-! ### A list of judgements -/

/-- The judgements of a list handed in its order. -/
def judgeAll (l : List (ConditionId × Bool)) (s : State) : State := l.foldl (fun s j => judge j.1 j.2 s) s

theorem judgeAll_cons (j : ConditionId × Bool) (l : List (ConditionId × Bool)) (s : State) :
    judgeAll (j :: l) s = judgeAll l (judge j.1 j.2 s) := rfl

theorem judgeAll_append (l m : List (ConditionId × Bool)) (s : State) :
    judgeAll (l ++ m) s = judgeAll m (judgeAll l s) := List.foldl_append

theorem judged_judgeAll (l : List (ConditionId × Bool)) (s : State) : Judged s (judgeAll l s) :=
  judged_foldl _ (fun _ _ => judged_judge _ _ _) _ _

/-- The records outside a set are whole. -/
def Whole (reached : ConditionId → Prop) (s t : State) : Prop :=
  ∀ j, ¬reached j → t.monitor.table.get j = s.monitor.table.get j

theorem Whole.trans {reached : ConditionId → Prop} {s t u : State} (h : Whole reached s t) (g : Whole reached t u) :
    Whole reached s u := fun j not => (g j not).trans (h j not)

theorem Whole.mono {few many : ConditionId → Prop} {s t : State} (whole : Whole few s t) (sub : ∀ j, few j → many j) :
    Whole many s t := fun j not => whole j fun reached => not (sub j reached)

theorem Whole.of_table {reached : ConditionId → Prop} {s t : State} (same : t.monitor.table = s.monitor.table) :
    Whole reached s t := fun j _ => by rw [same]

theorem Whole.active {reached : ConditionId → Prop} {s t : State} (whole : Whole reached s t) {j : ConditionId}
    (not : ¬reached j) : t.active j = s.active j := congrArg _ (whole j not)

theorem whole_judge (i : ConditionId) (on : Bool) (s : State) :
    Whole (fun j => j = i ∨ j = .station .externalTrip) s (judge i on s) := fun j not => by
  rw [not_or] at not
  exact judge_get_other not.1 not.2 on s

theorem whole_judgeAll (l : List (ConditionId × Bool)) (s : State) :
    Whole (fun j => j ∈ l.map (·.1) ∨ j = .station .externalTrip) s (judgeAll l s) := by
  induction l generalizing s with
  | nil => exact .of_table rfl
  | cons j rest ih =>
    refine Whole.trans ((whole_judge j.1 j.2 s).mono ?_) ((ih _).mono ?_)
    · rintro i (own | trip)
      · exact .inl (own ▸ List.mem_cons_self)
      · exact .inr trip
    · rintro i (later | trip)
      · exact .inl (List.mem_cons_of_mem _ later)
      · exact .inr trip

/-- A condition judged once stands as it was judged. -/
theorem judgeAll_active_of_mem {l : List (ConditionId × Bool)} (once : (l.map (·.1)).Nodup) {i : ConditionId} {on : Bool}
    (judged : (i, on) ∈ l) (notTrip : i ≠ .station .externalTrip) (s : State) : (judgeAll l s).active i = on := by
  induction l generalizing s with
  | nil => nomatch judged
  | cons j rest ih =>
    obtain ⟨notAgain, onceRest⟩ := List.nodup_cons.mp once
    rw [judgeAll_cons]
    rcases List.mem_cons.mp judged with own | later
    · subst own
      rw [(whole_judgeAll rest _).active (not_or.mpr ⟨notAgain, notTrip⟩), judge_active_same]
    · exact ih onceRest later _

/-! ### The marks of the period that ends (R55) -/

theorem integrity_sound_iff (s : State) (r : Run) :
    s.integrity r = .sound ↔ ∀ i, Counts r i → s.active i = true → conditionClass s.stationBlock i = .note := by
  refine (integrityStates s r).2.2.trans ⟨fun none_ i counts active => ?_, fun all => ⟨?_, ?_⟩⟩
  · obtain ⟨noTrip, noFlag⟩ := none_
    cases class_ : conditionClass s.stationBlock i with
    | note => rfl
    | flag => exact absurd ⟨i, counts, active, class_⟩ noFlag
    | trip => exact absurd ⟨i, counts, active, class_⟩ noTrip
  · rintro ⟨i, counts, active, class_⟩
    rw [all i counts active] at class_
    nomatch class_
  · rintro ⟨i, counts, active, class_⟩
    rw [all i counts active] at class_
    nomatch class_

/-- Integrity states handed on step by step. -/
abbrev Follows : State → State → Prop := Path Followed

theorem follows_judge (i : ConditionId) (on : Bool) (s : State) : Follows s (judge i on s) := by
  by_cases agrees : s.active i = on
  · rw [judge_of_agrees i on s agrees]
    exact .refl
  · cases on with
    | true =>
      obtain ⟨-, -, -, -, followed⟩ := activation_taken (by simpa using agrees)
      exact .single followed
    | false =>
      rw [judge_off (by simpa using agrees)]
      exact .tail (.single (followed_setCondition _ _ _)) (followed_releaseIfFree _)

theorem follows_judgeAll (l : List (ConditionId × Bool)) (s : State) : Follows s (judgeAll l s) := by
  induction l generalizing s with
  | nil => exact .refl
  | cons j rest ih => exact (follows_judge _ _ s).trans (ih _)

theorem unsound_of_follows {s t : State} (follows : Follows s t) {r : Run} (marked_ : s.totalizer.unsound.get r = true) :
    t.totalizer.unsound.get r = true := by
  induction follows with
  | refl => exact marked_
  | tail _ followed ih =>
    rw [followed.1, ih]
    rfl

/-- A run that is SOUND, its period not marked. -/
def Clean (r : Run) (s : State) : Prop := s.integrity r = .sound ∧ s.totalizer.unsound.get r = false

theorem clean_of_followed {r : Run} {s t : State} (clean : Clean r s) (followed : Followed s t)
    (sound : t.integrity r = .sound) : Clean r t := by
  refine ⟨sound, ?_⟩
  rw [followed.1, clean.2, sound]
  simp

theorem clean_setCondition_off {r : Run} {s : State} (clean : Clean r s) (i : ConditionId) :
    Clean r (setCondition i false s) := by
  refine clean_of_followed clean (followed_setCondition i false s) ((integrity_sound_iff _ r).mpr fun j counts active => ?_)
  rw [(judged_setCondition i false s).stationBlock]
  exact (integrity_sound_iff s r).mp clean.1 j counts (active_of_setCondition_off active)

theorem clean_releaseIfFree {r : Run} {s : State} (clean : Clean r s) : Clean r (releaseIfFree s) := by
  refine clean_of_followed clean (followed_releaseIfFree s) ((integrity_sound_iff _ r).mpr fun j counts active => ?_)
  rw [(judged_releaseIfFree s).stationBlock]
  exact (integrity_sound_iff s r).mp clean.1 j counts (active_of_releaseIfFree active)

/-- A judgement that cannot make a run worse leaves it clean. -/
theorem clean_judge {r : Run} {s : State} (clean : Clean r s) {i : ConditionId} {on : Bool}
    (harmless : on = true → Counts r i → conditionClass s.stationBlock i = .note) : Clean r (judge i on s) := by
  by_cases agrees : s.active i = on
  · rwa [judge_of_agrees i on s agrees]
  · cases on with
    | true =>
      obtain ⟨-, -, -, -, followed⟩ := activation_taken (by simpa using agrees)
      refine clean_of_followed clean followed ((integrity_sound_iff _ r).mpr fun j counts active => ?_)
      rw [(judged_judge i true s).stationBlock]
      by_cases own : j = i
      · rw [own]
        exact harmless rfl (own ▸ counts)
      · rw [judge_on_active_other own] at active
        exact (integrity_sound_iff s r).mp clean.1 j counts active
    | false =>
      rw [judge_off (by simpa using agrees)]
      exact clean_releaseIfFree (clean_setCondition_off clean i)

theorem clean_judgeAll {r : Run} {l : List (ConditionId × Bool)} {s : State} (clean : Clean r s)
    (harmless : ∀ j ∈ l, j.2 = true → Counts r j.1 → conditionClass s.stationBlock j.1 = .note) :
    Clean r (judgeAll l s) := by
  induction l generalizing s with
  | nil => exact clean
  | cons j rest ih =>
    refine ih (clean_judge clean (harmless j List.mem_cons_self)) fun k later => ?_
    rw [(judged_judge _ _ _).stationBlock]
    exact harmless k (List.mem_cons_of_mem _ later)

/-! ### The judgements of a period (R4, R54, R129, R194) -/

/-- The judgements of one run's period. -/
def runJudgements (s : State) (r : Run) (f : LastPeriod) : List (ConditionId × Bool) :=
  (periodJudgements (s.runBlock r) (s.store.curves.get r) f).map fun j => (.run j.1 r, j.2)

theorem judgeRunPeriod_eq (s : State) (r : Run) (f : LastPeriod) :
    judgeRunPeriod s r f = judgeAll (runJudgements s r f) s := by
  unfold judgeRunPeriod judgeAll runJudgements
  rw [List.foldl_map]

theorem runJudgements_of_judged {s t : State} (judged : Judged s t) (r : Run) (f : LastPeriod) :
    runJudgements t r f = runJudgements s r f := by
  unfold runJudgements
  rw [runBlock_of_judged judged, judged.curves]

/-- The judgements at the end of a period: each run's, the water's and, at the end of a first full period, the power's. -/
def endJudgements (closing : Bool) (figs : PerRun LastPeriod) (s : State) : List (ConditionId × Bool) :=
  allRuns.flatMap (fun r => runJudgements s r (figs.get r)) ++
    ((.station .waterSubstituted, decide (figs.r1.wStatus ≠ .good)) ::
      if s.supply.firstPeriod && !closing then [(.station .powerInterrupted, false)] else [])

theorem judgeRunPeriods_eq (figs : PerRun LastPeriod) (l : List Run) (s : State) :
    l.foldl (fun s r => judgeRunPeriod s r (figs.get r)) s =
      judgeAll (l.flatMap fun r => runJudgements s r (figs.get r)) s := by
  induction l generalizing s with
  | nil => rfl
  | cons r rest ih =>
    have judged := judged_judgeAll (runJudgements s r (figs.get r)) s
    rw [List.foldl_cons, ih, List.flatMap_cons, judgeAll_append, judgeRunPeriod_eq]
    simp only [runJudgements_of_judged judged]

theorem judgePeriod_eq (closing : Bool) (figs : PerRun LastPeriod) (s : State) :
    judgePeriod closing figs s = judgeAll (endJudgements closing figs s) s := by
  unfold judgePeriod endJudgements
  dsimp only
  rw [judgeRunPeriods_eq, judgeAll_append]
  have judged := judged_judgeAll (allRuns.flatMap fun r => runJudgements s r (figs.get r)) s
  have supply := (judged.trans (judged_judge (.station .waterSubstituted) (decide (figs.r1.wStatus ≠ .good)) _)).supply
  rw [supply]
  generalize judgeAll _ s = u
  split
  · rfl
  · rfl

/-- The conditions that the end of a period judges, each once. -/
def endIds : List ConditionId :=
  allRuns.flatMap (fun r => [.run .reverseFlow r, .run .temperatureSubstituted r, .run .pressureSubstituted r,
    .run .rateOutOfRange r, .run .curveExtrapolated r, .run .unscheduledFlow r]) ++
  [.station .waterSubstituted, .station .powerInterrupted]

theorem endJudgements_ids (closing : Bool) (figs : PerRun LastPeriod) (s : State) :
    ((endJudgements closing figs s).map (·.1)).Sublist endIds := by
  unfold endJudgements endIds
  rw [List.map_append, List.map_flatMap]
  refine .append (.refl _) ?_
  rw [List.map_cons]
  refine .cons_cons _ ?_
  split
  · exact .refl _
  · exact List.nil_sublist _

theorem endJudgements_once (closing : Bool) (figs : PerRun LastPeriod) (s : State) :
    ((endJudgements closing figs s).map (·.1)).Nodup := (endJudgements_ids closing figs s).nodup (by decide)

/-- A judgement of the end of a period stands once they are all handed. -/
theorem judgePeriod_active {closing : Bool} {figs : PerRun LastPeriod} {s : State} {i : ConditionId} {on : Bool}
    (judged : (i, on) ∈ endJudgements closing figs s) : (judgePeriod closing figs s).active i = on := by
  have listed : i ∈ endIds := (endJudgements_ids closing figs s).subset (List.mem_map_of_mem judged)
  have notListed : ConditionId.station .externalTrip ∉ endIds := by decide
  rw [judgePeriod_eq]
  exact judgeAll_active_of_mem (endJudgements_once closing figs s) judged (fun is => notListed (is ▸ listed)) s

theorem whole_judgePeriod (closing : Bool) (figs : PerRun LastPeriod) (s : State) :
    Whole (fun j => j ∈ endIds ∨ j = .station .externalTrip) s (judgePeriod closing figs s) := by
  rw [judgePeriod_eq]
  exact (whole_judgeAll _ s).mono fun j => .imp_left fun listed => (endJudgements_ids closing figs s).subset listed

theorem mem_endJudgements_run {closing : Bool} {figs : PerRun LastPeriod} {s : State} {r : Run}
    {j : ConditionId × Bool} (listed : j ∈ runJudgements s r (figs.get r)) : j ∈ endJudgements closing figs s :=
  List.mem_append_left _ (List.mem_flatMap.mpr ⟨r, mem_allRuns r, listed⟩)

theorem mem_endJudgements_water (closing : Bool) (figs : PerRun LastPeriod) (s : State) :
    (.station .waterSubstituted, decide (figs.r1.wStatus ≠ .good)) ∈ endJudgements closing figs s :=
  List.mem_append_right _ List.mem_cons_self

theorem mem_endJudgements_power {figs : PerRun LastPeriod} {s : State} (first : s.supply.firstPeriod = true) :
    (.station .powerInterrupted, false) ∈ endJudgements false figs s := by
  refine List.mem_append_right _ (List.mem_cons_of_mem _ ?_)
  rw [first]
  exact List.mem_singleton.mpr rfl

end Sys2Proof.Proofs
end

section
/-! The period boundary as an event, and what it credits and judges. -/

namespace Sys2Proof.Proofs

open Sys2Proof Sys2Proof.Machine Sys2Proof.Safety Sys2Proof.Stated Sys2Proof.Laws

/-! ### The event -/

/-- The period's length in counts. -/
def periodCounts (s : State) : Nat := s.totalizer.periodLength * 10000

/-- The boundary from a state, with the first full period ended (R42, R194). -/
def madeBoundary (order : BoundaryOrder) (s : State) : State :=
  let u := boundary false (periodCounts s) order s
  u.withSupply { u.supply with firstPeriod := false }

theorem periodBoundary_of_ends {dt : Nat} {order : BoundaryOrder} {s : State} (running : s.running = true)
    (ends : Ends dt s) : Gives (.periodBoundary dt order) s (settle s (madeBoundary order (later dt s))) := by
  refine gives_whileRunning rfl running ?_
  have made : ordinaryBoundary order (later dt s) = settle (later dt s) (madeBoundary order (later dt s)) := by
    refine if_neg ?_
    rw [Bool.or_eq_true, not_or]
    refine ⟨fun reset => ends.1 ((resetInstant_iff_atReset _).mp reset), fun start => ends.2 (of_decide_eq_true start).symm⟩
  exact made

theorem totalizer_of_granted {s t : State} (granted : Granted s t) : t.totalizer = s.totalizer := by
  rw [granted]
  rfl

theorem store_of_granted {s t : State} (granted : Granted s t) :
    t.store = { s.store with
      record := t.store.record, history := t.store.history, provingCounter := t.store.provingCounter } := by
  have store := congrArg State.store granted
  exact store

/-! ### The flag of a period (R55) -/

theorem boundaryFigures_get (closing : Bool) (pe : Nat) (s : State) (r : Run) :
    (boundaryFigures closing pe s).get r = { periodFigures closing pe s r with
      flagged := (judgedState closing pe s).totalizer.unsound.get r ||
        decide ((judgedState closing pe s).integrity r ≠ .sound) } := by
  unfold boundaryFigures flagFigures judgedState
  rw [PerRun.get_tab, PerRun.get_tab]

/-- The conditions a period is judged by are those handed at its end. -/
theorem periodConditions_eq (closing : Bool) (pe : Nat) (s : State) (r : Run) :
    periodConditions s r ((boundaryFigures closing pe s).get r) =
      runJudgements s r (periodFigures closing pe s r) ++
        [(.station .waterSubstituted, decide ((periodFigures closing pe s .r1).wStatus ≠ .good))] := by
  have curve : decide (0 < (periodFigures closing pe s r).q ∧ (s.store.curves.get r = [] ∨
        (∃ p ∈ (s.store.curves.get r).head?, (periodFigures closing pe s r).q < p.rate) ∨
        (∃ p ∈ (s.store.curves.get r).getLast?, p.rate < (periodFigures closing pe s r).q))) =
      extrapolated (s.store.curves.get r) (periodFigures closing pe s r).q :=
    Bool.eq_iff_iff.mpr (decide_eq_true_iff.trans (extrapolated_iff _ _).symm)
  unfold periodConditions
  rw [boundaryFigures_get]
  dsimp only
  rw [curve]
  rfl

theorem judgedState_eq (closing : Bool) (pe : Nat) (s : State) :
    judgedState closing pe s =
      judgeAll (endJudgements closing (PerRun.tab (periodFigures closing pe s)) s) s := judgePeriod_eq _ _ _

theorem mem_endJudgements_of_periodConditions {closing : Bool} {pe : Nat} {s : State} {r : Run} {j : ConditionId × Bool}
    (listed : j ∈ periodConditions s r ((boundaryFigures closing pe s).get r)) :
    j ∈ endJudgements closing (PerRun.tab (periodFigures closing pe s)) s := by
  rw [periodConditions_eq, List.mem_append, List.mem_singleton] at listed
  rcases listed with own | water
  · exact mem_endJudgements_run (r := r) (by rw [PerRun.get_tab]; exact own)
  · rw [water]
    exact mem_endJudgements_water _ _ _

theorem counts_of_periodConditions {s : State} {r : Run} {f : LastPeriod} {j : ConditionId × Bool}
    (listed : j ∈ periodConditions s r f) : Counts r j.1 := by
  simp only [periodConditions, List.mem_cons, List.not_mem_nil, or_false] at listed
  rcases listed with rfl | rfl | rfl | rfl | rfl | rfl | rfl
  all_goals first | exact .inl ⟨_, rfl⟩ | exact .inr ⟨_, rfl⟩

/-- Of the judgements at the end of a period, those that count for a run and activate are of its period's conditions. -/
theorem periodConditions_of_counts {closing : Bool} {pe : Nat} {s : State} {r : Run} {j : ConditionId × Bool}
    (listed : j ∈ endJudgements closing (PerRun.tab (periodFigures closing pe s)) s) (on : j.2 = true)
    (counts : Counts r j.1) : j ∈ periodConditions s r ((boundaryFigures closing pe s).get r) := by
  rw [periodConditions_eq, List.mem_append, List.mem_singleton]
  rcases List.mem_append.mp listed with ofRun | ofStation
  · obtain ⟨q, -, own⟩ := List.mem_flatMap.mp ofRun
    rw [PerRun.get_tab] at own
    obtain ⟨k, judged, is⟩ := List.mem_map.mp own
    subst is
    rcases counts with ⟨k', same⟩ | ⟨k', same⟩
    · injection same with _ run
      subst run
      exact .inl own
    · nomatch same
  · rcases List.mem_cons.mp ofStation with water | power
    · exact .inr water
    · split at power
      · rw [List.mem_singleton.mp power] at on
        nomatch on
      · nomatch power

/-- A period is FLAGGED where its run was marked, or is not SOUND by the judgements of its end (R55). -/
theorem flagged_iff {closing : Bool} {pe : Nat} {s : State} (flagged : Flagged s) (r : Run) :
    ((boundaryFigures closing pe s).get r).flagged = true ↔ s.totalizer.unsound.get r = true ∨
      ∃ j ∈ periodConditions s r ((boundaryFigures closing pe s).get r),
        j.2 = true ∧ conditionClass s.stationBlock j.1 ≠ .note := by
  have flag : ((boundaryFigures closing pe s).get r).flagged =
      ((judgedState closing pe s).totalizer.unsound.get r ||
        decide ((judgedState closing pe s).integrity r ≠ .sound)) := by rw [boundaryFigures_get]
  rw [flag, Bool.or_eq_true, decide_eq_true_iff, judgedState_eq]
  constructor
  · intro marked_
    refine Classical.byContradiction fun neither => ?_
    rw [not_or] at neither
    obtain ⟨unmarked, none_⟩ := neither
    have sound : s.integrity r = .sound := by
      refine Classical.byContradiction fun unsound => ?_
      exact unmarked (flagged r unsound)
    have clean : Clean r (judgeAll (endJudgements closing (PerRun.tab (periodFigures closing pe s)) s) s) := by
      refine clean_judgeAll ⟨sound, by simpa using unmarked⟩ fun j listed on counts => ?_
      refine Classical.byContradiction fun class_ => ?_
      exact none_ ⟨j, periodConditions_of_counts listed on counts, on, class_⟩
    rcases marked_ with mark | unsound
    · rw [clean.2] at mark
      nomatch mark
    · exact unsound clean.1
  · rintro (mark | ⟨j, listed, on, class_⟩)
    · exact .inl (unsound_of_follows (follows_judgeAll _ _) mark)
    · refine .inr fun sound => class_ ?_
      have handed := mem_endJudgements_of_periodConditions listed
      have active : (judgedState closing pe s).active j.1 = true := judgePeriod_active (on := true) (by
        rw [← on]
        exact handed)
      rw [judgedState_eq] at active
      have note := (integrity_sound_iff _ r).mp sound j.1 (counts_of_periodConditions listed) active
      rwa [(judged_judgeAll _ s).stationBlock] at note

theorem flagged_of_marked {closing : Bool} {pe : Nat} {s : State} {r : Run}
    (marked_ : s.totalizer.unsound.get r = true) : ((boundaryFigures closing pe s).get r).flagged = true := by
  have kept : (judgedState closing pe s).totalizer.unsound.get r = true := by
    rw [judgedState_eq]
    exact unsound_of_follows (follows_judgeAll _ _) marked_
  rw [boundaryFigures_get, kept]
  rfl

end Sys2Proof.Proofs
end

section
/-! The conditions records that a boundary's deferred items may reach. -/

namespace Sys2Proof.Proofs

open Sys2Proof Sys2Proof.Machine Sys2Proof.Safety Sys2Proof.Stated Sys2Proof.Laws

/-- The records the applications and the verification judge: the marks' conditions and, of the runs whose temperature point
changes, TEMPERATURE_DEVIATION; and EXTERNAL_TRIP, where a deactivation releases the line. -/
def AppliedIds (j : ConditionId) : Prop :=
  (∃ b, j = checkCondition b) ∨ (∃ r, j = .run .temperatureDeviation r) ∨ j = .station .externalTrip

theorem whole_judge_of {reached : ConditionId → Prop} {i : ConditionId} (own : reached i)
    (trip : reached (.station .externalTrip)) (on : Bool) (s : State) : Whole reached s (judge i on s) :=
  (whole_judge i on s).mono fun j is => by
    rcases is with rfl | rfl
    · exact own
    · exact trip

theorem appliedIds_trip : AppliedIds (.station .externalTrip) := .inr (.inr rfl)

theorem appliedIds_check (b : BlockId) : AppliedIds (checkCondition b) := .inl ⟨b, rfl⟩

theorem whole_setMark (reached : ConditionId → Prop) (b : BlockId) (x : Bool) (s : State) :
    Whole reached s (setMark b x s) := by
  cases b <;> exact .of_table rfl

/-- Whether no mark of those that drive a block's condition is left. -/
def lastMark (b : BlockId) (s : State) : Bool :=
  match b with
  | .run _ => true
  | _ => !s.stationMarks

theorem ite_bnot {α : Type} (c : Bool) (x y : α) : (if !c then x else y) = if c then y else x := by
  cases c <;> rfl

theorem clearMark_eq (b : BlockId) (s : State) :
    clearMark b s = if s.mark b then
        (if lastMark b (setMark b false s) then judge (checkCondition b) false (setMark b false s) else setMark b false s)
      else s := by
  unfold clearMark lastMark
  cases b with
  | run r => rfl
  | _ =>
    rw [ite_bnot]
    rfl

theorem whole_clearMark (b : BlockId) (s : State) :
    Whole (fun j => j = checkCondition b ∨ j = .station .externalTrip) s (clearMark b s) := by
  have set := whole_setMark (fun j => j = checkCondition b ∨ j = .station .externalTrip) b false s
  have judged := set.trans (whole_judge (checkCondition b) false _)
  rw [clearMark_eq]
  split
  · split
    · exact judged
    · exact set
  · exact .of_table rfl

theorem appliedIds_of_check {b : BlockId} {j : ConditionId} (is : j = checkCondition b ∨ j = .station .externalTrip) :
    AppliedIds j := by
  rcases is with rfl | rfl
  · exact appliedIds_check b
  · exact appliedIds_trip

theorem whole_verifyBlock (b : BlockId) (s : State) :
    Whole (fun j => j = checkCondition b ∨ j = .station .externalTrip) s (verifyBlock b s) := by
  unfold verifyBlock
  split
  · exact (whole_setMark _ b true s).trans (whole_judge _ _ _)
  · exact .of_table rfl

theorem handChanges_table (old : PerRun Integrity) (s : State) :
    (handChanges old s).monitor.table = s.monitor.table := congrArg Monitor.table (handChanges_monitor old s)

theorem whole_withdraw (reached : ConditionId → Prop) (s : State) : Whole reached s (withdraw s) := .of_table rfl

theorem whole_applyClasses (oldBlock : StationBlock) (old : PerRun Integrity) (s : State) :
    Whole (fun j => j = .station .externalTrip) s (applyClasses oldBlock old s) := by
  have handed : Whole (fun j => j = .station .externalTrip) s (handChanges old s) := .of_table (handChanges_table old s)
  unfold applyClasses
  dsimp only
  split
  · exact handed.trans (whole_withdraw _ _)
  · exact handed.trans fun j not => releaseIfFree_get_other not _

theorem whole_withStore (reached : ConditionId → Prop) (s : State) (st : Store) : Whole reached s (s.withStore st) :=
  .of_table rfl

theorem whole_withWork (reached : ConditionId → Prop) (s : State) (x : ConfigWork) : Whole reached s (s.withWork x) :=
  .of_table rfl

theorem whole_applyStation (s : State) :
    Whole (fun j => j = .station .stationConfigCheck ∨ j = .station .externalTrip) s (applyStation s) := by
  unfold applyStation
  split
  · exact .of_table rfl
  · dsimp only
    refine Whole.trans ?_ (whole_clearMark .station _)
    refine Whole.trans ?_ ((whole_applyClasses _ _ _).mono fun j => .inr)
    exact (whole_withStore _ _ _).trans (whole_withWork _ _ _)

theorem whole_applyProver (s : State) :
    Whole (fun j => j = .station .stationConfigCheck ∨ j = .station .externalTrip) s (applyProver s) := by
  unfold applyProver
  split
  · exact .of_table rfl
  · exact ((whole_withStore _ _ _).trans (whole_withWork _ _ _)).trans (whole_clearMark .prover _)

theorem whole_scannerTakesPoints (reached : ConditionId → Prop) (s : State) : Whole reached s (scannerTakesPoints s) := by
  unfold scannerTakesPoints
  rw [nextConversion_eq]
  exact .of_table rfl

theorem whole_applyPoints (s : State) :
    Whole (fun j => j = .station .stationConfigCheck ∨ j = .station .externalTrip) s (applyPoints s) := by
  unfold applyPoints
  split
  · exact .of_table rfl
  · exact (((whole_withStore _ _ _).trans (whole_withWork _ _ _)).trans (whole_scannerTakesPoints _ _)).trans
      (whole_clearMark .points _)

/-- What the application of a RUN block may reach. -/
def RunIds (r : Run) (j : ConditionId) : Prop :=
  j = .run .runConfigCheck r ∨ j = .run .temperatureDeviation r ∨ j = .station .externalTrip

theorem whole_applyRun (s : State) (r : Run) : Whole (RunIds r) s (applyRun s r) := by
  unfold applyRun
  split
  · exact .of_table rfl
  · have cleared (u : State) (set : Whole (RunIds r) s u) : Whole (RunIds r) s (clearMark (.run r) u) :=
      set.trans ((whole_clearMark (.run r) u).mono fun j => .imp_right .inr)
    dsimp only
    split
    · exact cleared _ ((whole_withStore _ _ _).trans (whole_withWork _ _ _))
    · exact (cleared _ ((whole_withStore _ _ _).trans (whole_withWork _ _ _))).trans
        (whole_judge_of (.inr (.inl rfl)) (.inr (.inr rfl)) _ _)

theorem whole_foldl {α : Type} {reached : ConditionId → Prop} (f : State → α → State)
    (one : ∀ s x, Whole reached s (f s x)) (l : List α) (s : State) : Whole reached s (l.foldl f s) := by
  induction l generalizing s with
  | nil => exact .of_table rfl
  | cons x rest ih => exact (one s x).trans (ih _)

theorem appliedIds_of_station {j : ConditionId} (is : j = .station .stationConfigCheck ∨ j = .station .externalTrip) :
    AppliedIds j := appliedIds_of_check (b := .station) is

theorem appliedIds_of_run {r : Run} {j : ConditionId} (is : RunIds r j) : AppliedIds j := by
  rcases is with rfl | rfl | rfl
  · exact appliedIds_check (.run r)
  · exact .inr (.inl ⟨r, rfl⟩)
  · exact appliedIds_trip

theorem whole_applyBlocks (s : State) : Whole AppliedIds s (applyBlocks s) := by
  have station {s t : State} (whole : Whole (fun j => j = .station .stationConfigCheck ∨ j = .station .externalTrip) s t) :
      Whole AppliedIds s t := whole.mono fun _ => appliedIds_of_station
  exact (((station (whole_applyStation s)).trans (station (whole_applyProver _))).trans
    (station (whole_applyPoints _))).trans
    (whole_foldl _ (fun s r => (whole_applyRun s r).mono fun _ => appliedIds_of_run) _ _)

theorem whole_applyAndVerify (verifyFirst : Bool) (s : State) : Whole AppliedIds s (applyAndVerify verifyFirst s) := by
  have verified (b : BlockId) (u : State) : Whole AppliedIds u (verifyBlock b u) :=
    (whole_verifyBlock b u).mono fun _ => appliedIds_of_check
  unfold applyAndVerify
  dsimp only
  split
  · exact ((verified _ _).trans (whole_applyBlocks _)).trans (whole_withWork _ _ _)
  · exact ((whole_applyBlocks _).trans (verified _ _)).trans (whole_withWork _ _ _)

theorem monitor_of_recordMoved {s t : State} (moved : RecordMoved s t) : t.monitor = s.monitor := by
  rw [moved]
  rfl

theorem monitor_servicedState (e : State) : (servicedState e).monitor = (sequencedState e).monitor := by
  rw [servicedState_eq]
  rfl

/-- From the sequencer's work on, a boundary reaches the records of the applications alone. -/
theorem whole_deferred (order : BoundaryOrder) (e : State) :
    Whole AppliedIds (sequencedState e) (beginPeriod (deferredItems order e)) := by
  obtain ⟨u, before, after⟩ := deferredItems_shape order e
  have start : Whole AppliedIds (sequencedState e) u :=
    .of_table (congrArg Monitor.table ((monitor_of_recordMoved before).trans (monitor_servicedState e)))
  refine (start.trans (whole_applyAndVerify order.verifyFirst u)).trans (.of_table ?_)
  exact congrArg Monitor.table ((begun_beginPeriod _).monitor.trans (monitor_of_recordMoved after))

/-- The sequencer judges TICKET_STORE_FULL alone. -/
theorem whole_sequencedState (e : State) :
    Whole (fun j => j = .station .ticketStoreFull ∨ j = .station .externalTrip) e (sequencedState e) := by
  have compared : Whole (fun j => j = .station .ticketStoreFull ∨ j = .station .externalTrip) e
      (compareNomination (checkStability e)) := by
    refine .of_table ?_
    have first : (checkStability e).monitor.table = e.monitor.table := by
      rw [checkStability_frame]
      rfl
    rw [← first]
    unfold compareNomination
    split <;> rfl
  have closed (cause : CloseCause) (u : State) :
      Whole (fun j => j = .station .ticketStoreFull ∨ j = .station .externalTrip) u
        (judge (.station .ticketStoreFull) false (closeBatch cause u)) := by
    refine Whole.trans ?_ (whole_judge _ _ _)
    rw [closeBatch_frame]
    exact .of_table rfl
  have started (u : State) : Whole (fun j => j = .station .ticketStoreFull ∨ j = .station .externalTrip) u
      (startBatch u) := by
    rw [startBatch_frame]
    exact .of_table rfl
  unfold sequencedState Machine.sequence
  dsimp only
  generalize compareNomination (checkStability e) = u at compared
  have done := compared.trans (Whole.of_table (t := u.withChange .none) rfl)
  split
  · exact done.trans (started _)
  · exact done.trans (closed _ _)
  · exact (done.trans (closed _ _)).trans (started _)
  · split
    · exact compared
    · split
      · split
        · exact compared.trans (closed _ _)
        · exact compared.trans (whole_judge _ _ _)
      · exact compared

end Sys2Proof.Proofs
end

section
/-! The sequencer's work at a boundary, and the tickets it makes. -/

namespace Sys2Proof.Proofs

open Sys2Proof Sys2Proof.Machine Sys2Proof.Safety Sys2Proof.Stated Sys2Proof.Laws

/-! ### The nomination (R80) -/

theorem nominationReached_eq (b : ActiveBatch) : nominationReached b = nominated b := by
  unfold nominationReached nominated
  rcases b.entry.nomination with _ | n <;> rfl

/-- The active batch with the flag of its nomination set (R80). -/
def comparedBatch (b : ActiveBatch) : ActiveBatch := { b with reached := nominated b }

theorem compareNomination_of_active {s : State} {b : ActiveBatch} (active : s.store.active = some b) :
    compareNomination s = s.setActive (some (comparedBatch b)) := by
  unfold compareNomination comparedBatch
  rw [active, ← nominationReached_eq]

theorem compareNomination_of_none {s : State} (free : s.store.active = none) : compareNomination s = s := by
  unfold compareNomination
  rw [free]

theorem compareNomination_change (s : State) : (compareNomination s).change = s.change := by
  unfold compareNomination
  split <;> rfl

theorem compareNomination_active (s : State) : (compareNomination s).store.active = s.store.active.map comparedBatch := by
  rcases active : s.store.active with _ | b
  · rw [compareNomination_of_none active, active]
    rfl
  · rw [compareNomination_of_active active]
    rfl

/-! ### A batch credited (R74) -/

/-- One choice by equivalent tests. -/
theorem if_of_iff {α : Type} {p q : Prop} [Decidable p] [Decidable q] {x y z w : α} (same : p ↔ q) (yes : x = z)
    (no : y = w) : (if p then x else y) = if q then z else w :=
  ite_congr (propext same) (fun _ => yes) (fun _ => no)

theorem append_of_eq {α : Type} {a b c d : List α} (first : a = c) (second : b = d) : a ++ b = c ++ d := by
  rw [first, second]

theorem if_and_eq {α : Type} (p q : Prop) [Decidable p] [Decidable q] (x y : α) :
    (if p ∧ q then x else y) = if p then if q then x else y else y := by
  by_cases first : p
  · rw [if_pos first]
    exact if_of_iff ⟨And.right, And.intro first⟩ rfl rfl
  · rw [if_neg first, if_neg fun both => first both.1]

theorem creditBatchRun_eq (f : LastPeriod) (i : Increments) (z : BatchRun) :
    creditBatchRun f i z =
      { opening := z.opening
        acc := creditSplit f.flagged i z.acc
        sums := { iv := z.sums.iv + f.iv, tIV := z.sums.tIV + ofMilli f.t * f.iv,
                  pIV := z.sums.pIV + ofMilli f.p * f.iv, mfIV := z.sums.mfIV + (f.mf : Rat) / 10000 * f.iv,
                  gsv := z.sums.gsv + f.gsv, wGSV := z.sums.wGSV + ofMilli f.wc * f.gsv }
        periods := if 0 < f.n ∧ z.periods < 4294967295 then z.periods + 1 else z.periods
        flaggedPeriods :=
          if 0 < f.n ∧ f.flagged = true ∧ z.flaggedPeriods < 4294967295 then z.flaggedPeriods + 1
          else z.flaggedPeriods } := by
  have periods : (if 0 < f.n then countUp 4294967295 z.periods else z.periods) =
      if 0 < f.n ∧ z.periods < 4294967295 then z.periods + 1 else z.periods := by
    rw [countUp_eq, if_and_eq]
  have flaggedPeriods : (if 0 < f.n ∧ f.flagged = true then countUp 4294967295 z.flaggedPeriods else z.flaggedPeriods) =
      if 0 < f.n ∧ f.flagged = true ∧ z.flaggedPeriods < 4294967295 then z.flaggedPeriods + 1 else z.flaggedPeriods := by
    rw [countUp_eq, if_and_eq, if_and_eq, if_and_eq]
  unfold creditBatchRun
  rw [periods, flaggedPeriods]
  rfl

/-- The batch credited, as the statements write it. -/
theorem credited_eq {s t : State} {figs : PerRun LastPeriod}
    (last : t.totalizer.last = PerRun.tab fun r => some (figs.get r)) (b : ActiveBatch) :
    credited s t b = creditedBatch figs s.store.runs b := by
  unfold credited creditedBatch
  rw [last]
  congr 1
  refine PerRun.ext_get _ _ fun r => ?_
  rw [PerRun.get_tab, PerRun.get_tab, PerRun.get_tab, creditBatchRun_eq]

/-! ### A close and a start (R73, R78, R86 to R89) -/

/-- The store once a batch has closed with a ticket (R86, R90). -/
def closedStore (k : Ticket) (st : Store) : Store :=
  if st.slots.length < 12 then
    { st with active := none, ticketCounter := st.ticketCounter + 1, slots := st.slots ++ [k] }
  else { st with active := none, ticketCounter := st.ticketCounter + 1, held := some k }

/-- The ticket of a batch that closes in a state. -/
def ticketOf (cause : CloseCause) (b : ActiveBatch) (s : State) : Ticket :=
  formTicket s.store.ticketCounter s.clock cause (fun r => (s.store.runs.get r).cumulative) b

theorem closeBatch_of_active {cause : CloseCause} {s : State} {b : ActiveBatch} (active : s.store.active = some b) :
    closeBatch cause s = s.withStore (closedStore (ticketOf cause b s) s.store) := by
  unfold closeBatch closedStore
  rw [active]
  dsimp only
  split
  next room => rw [if_pos (by exact room)]; rfl
  next full => rw [if_neg (by exact full)]; rfl

theorem closedStore_frame (k : Ticket) (st : Store) :
    (closedStore k st).active = none ∧ (closedStore k st).queue = st.queue ∧
    (closedStore k st).ticketCounter = st.ticketCounter + 1 ∧
    (if st.slots.length < 12 then (closedStore k st).slots = st.slots ++ [k] ∧ (closedStore k st).held = st.held
      else (closedStore k st).slots = st.slots ∧ (closedStore k st).held = some k) := by
  unfold closedStore
  split
  next room => exact ⟨rfl, rfl, rfl, rfl, rfl⟩
  next full => exact ⟨rfl, rfl, rfl, rfl, rfl⟩

theorem startBatch_of_queue {s : State} {e : BatchEntry} {rest : List BatchEntry} (queue : s.store.queue = e :: rest) :
    startBatch s = s.withStore { s.store with queue := rest, active := some (startedBatch e s) } := by
  unfold startBatch
  rw [queue]

/-! ### The sequencer (R78, R80, R81) -/

section Sequence

variable {v : State}

theorem sequence_of_start (change : v.change = .start) :
    Machine.sequence v = (startBatch ((compareNomination v).withChange .none), .started) := by
  have same := (compareNomination_change v).trans change
  unfold Machine.sequence
  dsimp only
  rw [same]

theorem sequence_of_ends (change : v.change = .ends) :
    Machine.sequence v = (judge (.station .ticketStoreFull) false
      (closeBatch .hostEnd ((compareNomination v).withChange .none)), .ended) := by
  have same := (compareNomination_change v).trans change
  unfold Machine.sequence
  dsimp only
  rw [same]

theorem sequence_of_cutover (change : v.change = .cutover) :
    Machine.sequence v = (startBatch (judge (.station .ticketStoreFull) false
      (closeBatch .hostCutover ((compareNomination v).withChange .none))), .cutover) := by
  have same := (compareNomination_change v).trans change
  unfold Machine.sequence
  dsimp only
  rw [same]

theorem sequence_of_free (change : v.change = .none) (free : v.store.active = none) :
    Machine.sequence v = (v, .none) := by
  unfold Machine.sequence
  dsimp only
  rw [compareNomination_of_none free, change]
  dsimp only
  rw [free]

theorem sequence_of_active {b : ActiveBatch} (change : v.change = .none) (active : v.store.active = some b) :
    Machine.sequence v =
      let u := v.setActive (some (comparedBatch b))
      if nominated b then
        if v.store.held.isNone then (judge (.station .ticketStoreFull) false (closeBatch .nomination u), .nominated)
        else (judge (.station .ticketStoreFull) true u, .none)
      else (u, .none) := by
  unfold Machine.sequence
  dsimp only
  rw [compareNomination_of_active active]
  show (match v.change with | .start => _ | .ends => _ | .cutover => _ | .none => _) = _
  rw [change]
  rfl

end Sequence

end Sys2Proof.Proofs
end

section
/-! The period a boundary credits and judges. -/

namespace Sys2Proof.Proofs

open Sys2Proof Sys2Proof.Machine Sys2Proof.Safety Sys2Proof.Stated Sys2Proof.Laws

/-! ### The state after the boundary's event -/

/-- The first full period ended (R194). -/
def withFirstEnded (u : State) : State := u.withSupply { u.supply with firstPeriod := false }

/-- What the grant after a boundary that led from s to u leaves, beside the first full period (R101, R194). -/
structure AfterBoundary (s u t : State) : Prop where
  granted : Granted (withFirstEnded u) t
  bounded : Bounded false (periodCounts s) s u

theorem afterBoundary_settle (order : BoundaryOrder) (s v : State) :
    AfterBoundary s (boundary false (periodCounts s) order s) (settle v (madeBoundary order s)) :=
  ⟨granted_settle _ _, bounded_boundary _ _ _ _⟩

section After

variable {s u t : State}

theorem AfterBoundary.store (after : AfterBoundary s u t) : t.store = { u.store with
    record := t.store.record, history := t.store.history, provingCounter := t.store.provingCounter } := by
  have store := store_of_granted after.granted
  exact store

theorem AfterBoundary.totalizer (after : AfterBoundary s u t) : t.totalizer = u.totalizer := by
  have totalizer := totalizer_of_granted after.granted
  exact totalizer

theorem AfterBoundary.pulse (after : AfterBoundary s u t) : t.pulse = u.pulse := by
  have pulse := pulse_of_granted after.granted
  exact pulse

theorem AfterBoundary.monitor (after : AfterBoundary s u t) : t.monitor = u.monitor := by
  have monitor := monitor_of_granted after.granted
  exact monitor

theorem AfterBoundary.store_runs (after : AfterBoundary s u t) (r : Run) :
    t.store.runs.get r = serviced (creditedTotals s.store.active.isSome
      ((boundaryFigures false (periodCounts s) s).get r) (s.store.runs.get r)) := by
  rw [after.store, after.bounded.store]
  exact PerRun.get_tab _ r

theorem AfterBoundary.last (after : AfterBoundary s u t) :
    t.totalizer.last = PerRun.tab fun r => some ((boundaryFigures false (periodCounts s) s).get r) := by
  rw [after.totalizer, after.bounded.totalizer]

theorem AfterBoundary.last_get (after : AfterBoundary s u t) (r : Run) :
    t.totalizer.last.get r = some ((boundaryFigures false (periodCounts s) s).get r) := by
  rw [after.last]
  exact PerRun.get_tab _ r

theorem AfterBoundary.runPulse (after : AfterBoundary s u t) (r : Run) :
    t.runPulse r = fixedPulse (zeroCounts (s.runPulse r)) := by
  unfold State.runPulse
  rw [after.pulse, after.bounded.pulse]
  exact PerRun.get_tab _ r

theorem AfterBoundary.active (after : AfterBoundary s u t) :
    t.store.active = (sequencedState (endPeriod false (periodCounts s) s)).store.active := by
  rw [after.store, after.bounded.store]

end After

/-! ### What the end of a period leaves to the sequencer -/

theorem checkStability_store (e : State) :
    (checkStability e).store = { e.store with record := (checkStability e).store.record } := by
  conv => lhs; rw [checkStability_frame]
  rfl

theorem checkStability_change (e : State) : (checkStability e).change = e.change := by
  rw [checkStability_frame]
  rfl

theorem checkStability_monitor (e : State) : (checkStability e).monitor = e.monitor := by
  rw [checkStability_frame]
  rfl

theorem checkStability_clock (e : State) : (checkStability e).clock = e.clock := by
  rw [checkStability_frame]
  rfl

/-- The state the sequencer takes up at a boundary from s. -/
def checkedState (closing : Bool) (pe : Nat) (s : State) : State := checkStability (endPeriod closing pe s)

theorem checkedState_active (closing : Bool) (pe : Nat) (s : State) :
    (checkedState closing pe s).store.active =
      s.store.active.map (creditedBatch (boundaryFigures closing pe s) s.store.runs) := by
  unfold checkedState
  rw [checkStability_store, (ended_endPeriod closing pe s).store]

theorem checkedState_change (closing : Bool) (pe : Nat) (s : State) : (checkedState closing pe s).change = s.change :=
  (checkStability_change _).trans (ended_endPeriod closing pe s).change

theorem nominated_creditedBatch_of_none {b : ActiveBatch} (reached : b.reached = false)
    (nomination : b.entry.nomination = none) (figs : PerRun LastPeriod) (runs : PerRun RunTotals) :
    nominated (creditedBatch figs runs b) = false := by
  unfold nominated creditedBatch
  dsimp only
  rw [reached, nomination]
  rfl

/-- A batch with its nomination not reached and no change pending stays (R80). -/
theorem sequencedState_of_stays {closing : Bool} {pe : Nat} {s : State} {a : ActiveBatch} (change : s.change = .none)
    (active : s.store.active = some a)
    (stays : nominated (creditedBatch (boundaryFigures closing pe s) s.store.runs a) = false) :
    sequencedState (endPeriod closing pe s) = (checkedState closing pe s).setActive
      (some (comparedBatch (creditedBatch (boundaryFigures closing pe s) s.store.runs a))) := by
  have credited : (checkedState closing pe s).store.active =
      some (creditedBatch (boundaryFigures closing pe s) s.store.runs a) := by
    rw [checkedState_active, active]
    rfl
  unfold sequencedState
  refine (congrArg Prod.fst (sequence_of_active ((checkedState_change closing pe s).trans change) credited)).trans ?_
  dsimp only
  rw [stays]
  rfl

theorem setActive_active (s : State) (x : Option ActiveBatch) : (s.setActive x).store.active = x := rfl

theorem AfterBoundary.active_of_stays {s u t : State} (after : AfterBoundary s u t) {a : ActiveBatch}
    (change : s.change = .none) (active : s.store.active = some a)
    (stays : nominated (creditedBatch (boundaryFigures false (periodCounts s) s) s.store.runs a) = false) :
    t.store.active = some (comparedBatch (creditedBatch (boundaryFigures false (periodCounts s) s) s.store.runs a)) := by
  rw [after.active, sequencedState_of_stays change active stays, setActive_active]

/-- Settles O32: the figures are those of the period, and the credit that of every run. -/
theorem boundaryCreditsEveryRun : Obligations.BoundaryCreditsEveryRun := by
  intro dt order r s running ends x b
  have after := afterBoundary_settle order (later dt s) s
  have figures := boundaryFigures_get false (periodCounts (later dt s)) (later dt s) r
  refine ⟨_, (boundaryFigures false (periodCounts (later dt s)) (later dt s)).get r, periodBoundary_of_ends running ends,
    after.last_get r, ?_, ?_, ⟨?_, ?_, fun marked_ => flagged_of_marked marked_, fun flags => ?_⟩, ?_, ?_⟩
  · rw [figures]
    exact ⟨rfl, rfl, rfl, rfl, rfl, rfl⟩
  · rw [figures]
    exact ⟨rfl, rfl, rfl, rfl, rfl, rfl, rfl, rfl, rfl, rfl, rfl, rfl, rfl⟩
  · rw [figures]
    rfl
  · rw [figures]
    rfl
  · exact flagged_iff (s := later dt s) (flags running) r
  · have totals := after.store_runs r
    refine ⟨?_, ?_, ?_, ?_, fun a active change reached nomination => ?_⟩
    · rw [totals]
      rfl
    · rw [totals]
      rfl
    · rw [totals]
      rfl
    · rw [totals]
      rfl
    · refine ⟨_, after.active_of_stays change active (nominated_creditedBatch_of_none reached nomination _ _), ?_⟩
      refine (PerRun.get_tab _ r).trans ?_
      rw [creditBatchRun_eq]
      rfl
  · rw [after.runPulse r]
    exact ⟨rfl, rfl, rfl, rfl⟩

end Sys2Proof.Proofs
end

section
/-! The judgements of a period, as the period that begins finds them. -/

namespace Sys2Proof.Proofs

open Sys2Proof Sys2Proof.Machine Sys2Proof.Safety Sys2Proof.Stated Sys2Proof.Laws

/-- The records that a boundary may reach after the judgements of its period. -/
def lateIds : List ConditionId :=
  allRuns.flatMap (fun r => [.run .runConfigCheck r, .run .temperatureDeviation r]) ++
    [.station .stationConfigCheck, .station .ticketStoreFull, .station .externalTrip]

theorem mem_lateIds_of_applied {j : ConditionId} (applied : AppliedIds j) : j ∈ lateIds := by
  rcases applied with ⟨b, rfl⟩ | ⟨r, rfl⟩ | rfl
  · rcases b with _ | _ | _ | _ | r
    all_goals try (cases r)
    all_goals decide
  · cases r <;> decide
  · decide

/-- After the judgements of the period, a boundary leaves every record whole but those of late judgements. -/
theorem whole_late (closing : Bool) (pe : Nat) (order : BoundaryOrder) (s : State) :
    Whole (· ∈ lateIds) (judgedState closing pe s) (boundary closing pe order s) := by
  have ended : Whole (· ∈ lateIds) (judgedState closing pe s) (endPeriod closing pe s) :=
    .of_table (congrArg Monitor.table (ended_endPeriod closing pe s).monitor)
  have sequenced := (whole_sequencedState (endPeriod closing pe s)).mono (many := (· ∈ lateIds)) fun j is => by
    rcases is with rfl | rfl
    · decide
    · decide
  exact (ended.trans sequenced).trans ((whole_deferred order _).mono fun j => mem_lateIds_of_applied)

theorem not_late_of_endIds {j : ConditionId} (listed : j ∈ endIds) : j ∉ lateIds := by
  have all : ∀ j ∈ endIds, j ∉ lateIds := by decide
  exact all j listed

/-- A judgement of the end of a period stands in the period that begins. -/
theorem boundary_active_of_judged {closing : Bool} {pe : Nat} {order : BoundaryOrder} {s : State} {i : ConditionId}
    {on : Bool} (judged : (i, on) ∈ endJudgements closing (PerRun.tab (periodFigures closing pe s)) s) :
    (boundary closing pe order s).active i = on := by
  have listed : i ∈ endIds := (endJudgements_ids closing _ s).subset (List.mem_map_of_mem judged)
  rw [(whole_late closing pe order s).active (not_late_of_endIds listed)]
  exact judgePeriod_active judged

theorem active_of_monitor {s t : State} (monitor : t.monitor = s.monitor) (i : ConditionId) : t.active i = s.active i := by
  unfold State.active
  rw [monitor]

/-- The conditions of a run's period, each named with the proposition it is judged by (R4, R54, R129). -/
theorem mem_periodConditions (s : State) (r : Run) (f : LastPeriod) :
    let b := s.runBlock r
    let c := s.store.curves.get r
    (.run .reverseFlow r, decide (b.reverseLimit < f.reverse)) ∈ periodConditions s r f ∧
    (.run .temperatureSubstituted r, decide (s.pointStatus (pointIndex b.tempPoint) ≠ .good)) ∈ periodConditions s r f ∧
    (.run .pressureSubstituted r, decide (s.pointStatus (pointIndex b.pressPoint) ≠ .good)) ∈ periodConditions s r f ∧
    (.station .waterSubstituted, decide (s.pointStatus (pointIndex s.stationBlock.waterPoint) ≠ .good)) ∈
      periodConditions s r f ∧
    (.run .rateOutOfRange r, decide (0 < f.q ∧ (f.q < b.minRate ∨ b.maxRate < f.q))) ∈ periodConditions s r f ∧
    (.run .unscheduledFlow r, decide ((s.store.runs.get r).service = .closed ∧ 0 < f.n)) ∈ periodConditions s r f ∧
    (.run .curveExtrapolated r, decide (0 < f.q ∧ (c = [] ∨ (∃ p ∈ c.head?, f.q < p.rate) ∨
      (∃ p ∈ c.getLast?, p.rate < f.q)))) ∈ periodConditions s r f := by
  unfold periodConditions
  refine ⟨?_, ?_, ?_, ?_, ?_, ?_, ?_⟩
  all_goals simp only [List.mem_cons, true_or, or_true]

/-- Settles O33: the judgements handed at the end of the period stand, and the one of a first full period with them. -/
theorem boundaryJudgesThePeriod : Obligations.BoundaryJudgesThePeriod := by
  intro dt order r s running ends b c
  have after := afterBoundary_settle order (later dt s) s
  have same := active_of_monitor after.monitor
  have stands {i : ConditionId} {p : Prop} [Decidable p]
      (listed : (i, decide p) ∈ periodConditions (later dt s) r
        ((boundaryFigures false (periodCounts (later dt s)) (later dt s)).get r)) :
      (settle s (madeBoundary order (later dt s))).active i = true ↔ p := by
    rw [same, boundary_active_of_judged (mem_endJudgements_of_periodConditions listed)]
    exact decide_eq_true_iff
  obtain ⟨reverse, temperature, pressure, water, rate, unscheduled, curve⟩ := mem_periodConditions (later dt s) r
    ((boundaryFigures false (periodCounts (later dt s)) (later dt s)).get r)
  refine ⟨_, _, periodBoundary_of_ends running ends, after.last_get r, stands reverse, stands temperature,
    stands pressure, stands water, stands rate, stands unscheduled, stands curve, fun first => ?_, ?_⟩
  · rw [same]
    exact boundary_active_of_judged (mem_endJudgements_power (s := later dt s) first)
  · rw [after.granted]
    rfl

end Sys2Proof.Proofs
end

section
/-! What a boundary makes of the batch, its queue and its tickets. -/

namespace Sys2Proof.Proofs

open Sys2Proof Sys2Proof.Machine Sys2Proof.Safety Sys2Proof.Stated Sys2Proof.Laws

/-! ### What the sequencer takes up and leaves -/

/-- v holds what the sequencer of a boundary from s takes up: the change and the tickets of s, with the period credited. -/
structure TakenUp (figs : PerRun LastPeriod) (s v : State) : Prop where
  change : v.change = s.change
  active : v.store.active = s.store.active.map (creditedBatch figs s.store.runs)
  queue : v.store.queue = s.store.queue
  slots : v.store.slots = s.store.slots
  held : v.store.held = s.store.held
  ticketCounter : v.store.ticketCounter = s.store.ticketCounter
  clock : v.clock = s.clock
  cumulative : ∀ r, (v.store.runs.get r).cumulative =
    (creditedTotals s.store.active.isSome (figs.get r) (s.store.runs.get r)).cumulative

theorem takenUp_checkedState (closing : Bool) (pe : Nat) (s : State) :
    TakenUp (boundaryFigures closing pe s) s (checkedState closing pe s) := by
  have ended := ended_endPeriod closing pe s
  have store : (checkedState closing pe s).store =
      { (endPeriod closing pe s).store with record := (checkedState closing pe s).store.record } := by
    unfold checkedState
    exact checkStability_store (endPeriod closing pe s)
  rw [ended.store] at store
  have clock : (checkedState closing pe s).clock = s.clock := by
    unfold checkedState
    rw [checkStability_clock]
    exact ended.clock
  refine ⟨checkedState_change closing pe s, ?_, ?_, ?_, ?_, ?_, clock, fun r => ?_⟩
  all_goals rw [store]
  rw [PerRun.get_tab]

/-- t has the pending change, the batch, the queue and the tickets of u. -/
structure SameBatch (u t : State) : Prop where
  change : t.change = u.change
  active : t.store.active = u.store.active
  queue : t.store.queue = u.store.queue
  slots : t.store.slots = u.store.slots
  held : t.store.held = u.store.held
  ticketCounter : t.store.ticketCounter = u.store.ticketCounter

theorem SameBatch.trans {s t u : State} (h : SameBatch s t) (g : SameBatch t u) : SameBatch s u where
  change := g.change.trans h.change
  active := g.active.trans h.active
  queue := g.queue.trans h.queue
  slots := g.slots.trans h.slots
  held := g.held.trans h.held
  ticketCounter := g.ticketCounter.trans h.ticketCounter

theorem SameBatch.of_judged {s t : State} (judged : Judged s t) : SameBatch s t where
  change := judged.change
  active := judged.active
  queue := by rw [judged.store]
  slots := by rw [judged.store]
  held := by rw [judged.store]
  ticketCounter := by rw [judged.store]

theorem Bounded.sameBatch {closing : Bool} {pe : Nat} {s t : State} (bounded : Bounded closing pe s t) :
    SameBatch (sequencedState (endPeriod closing pe s)) t where
  change := bounded.change
  active := by rw [bounded.store]
  queue := by rw [bounded.store]
  slots := by rw [bounded.store]
  held := by rw [bounded.store]
  ticketCounter := by rw [bounded.store]

/-! ### Starts, closes and tickets as the statements name them -/

/-- The batch of a queue entry, started at a boundary from s to t (R73). -/
def StartedWith (e : BatchEntry) (s t : State) : Prop :=
  ∃ b, t.store.active = some b ∧ b.entry = e ∧ b.start = s.clock ∧ b.interruptions = 0 ∧ b.outage = 0 ∧
    b.reached = false ∧ ∀ r, (b.runs.get r).opening = (t.store.runs.get r).cumulative ∧
      (b.runs.get r).acc = zeroSplit ∧ (b.runs.get r).sums = zeroSums ∧ (b.runs.get r).periods = 0 ∧
      (b.runs.get r).flaggedPeriods = 0

/-- The ticket of the credited batch c joins the slots, or the held record while they are full (R86, R90). -/
def ClosedWith (cause : CloseCause) (c : ActiveBatch) (s t : State) : Prop :=
  ∃ k : Ticket, TicketOf cause c s t k ∧ t.store.ticketCounter = s.store.ticketCounter + 1 ∧
    (if s.store.slots.length < 12 then t.store.slots = s.store.slots ++ [k] ∧ t.store.held = s.store.held
     else t.store.slots = s.store.slots ∧ t.store.held = some k)

/-- The tickets of a boundary with no close. -/
def TicketsKept (s t : State) : Prop :=
  t.store.slots = s.store.slots ∧ t.store.held = s.store.held ∧ t.store.ticketCounter = s.store.ticketCounter

theorem ticketOf_comparedBatch {cause : CloseCause} {c : ActiveBatch} {s t u : State}
    (number : u.store.ticketCounter = s.store.ticketCounter) (clock : u.clock = s.clock)
    (cumulative : ∀ r, (t.store.runs.get r).cumulative = (u.store.runs.get r).cumulative) :
    TicketOf cause c s t (ticketOf cause (comparedBatch c) u) := by
  refine ⟨number, rfl, rfl, clock, rfl, rfl, rfl, rfl, fun r => ?_, ⟨rfl, rfl, rfl, rfl, rfl⟩, ⟨rfl, rfl, rfl, rfl, rfl⟩,
    ⟨rfl, rfl, rfl, rfl, rfl⟩, rfl, rfl, rfl⟩
  rw [cumulative]
  refine (PerRun.get_tab _ r).trans ?_
  rfl

theorem startedWith_startedBatch {e : BatchEntry} {s t u : State} (active : t.store.active = some (startedBatch e u))
    (clock : u.clock = s.clock)
    (cumulative : ∀ r, (t.store.runs.get r).cumulative = (u.store.runs.get r).cumulative) : StartedWith e s t := by
  refine ⟨_, active, rfl, clock, rfl, rfl, rfl, fun r => ?_⟩
  rw [cumulative]
  unfold startedBatch
  dsimp only
  rw [PerRun.get_tab]
  exact ⟨rfl, rfl, rfl, rfl, rfl⟩

theorem comparedBatch_of_not_nominated {b : ActiveBatch} (no : nominated b = false) : comparedBatch b = b := by
  have unreached : b.reached = false := (Bool.or_eq_false_iff.mp no).1
  unfold comparedBatch
  rw [no, ← unreached]

/-! ### The sequencer's outcomes -/

section Outcomes

variable {figs : PerRun LastPeriod} {s v t : State}

/-- The state in which a batch with its period credited closes, the change taken. -/
def takenState (v : State) (c : ActiveBatch) : State := (v.setActive (some (comparedBatch c))).withChange .none

/-- The credited batch closed with its ticket. -/
def closedState (cause : CloseCause) (c : ActiveBatch) (v : State) : State :=
  (takenState v c).withStore (closedStore (ticketOf cause (comparedBatch c) (takenState v c)) (takenState v c).store)

theorem closeBatch_takenState (cause : CloseCause) (c : ActiveBatch) (v : State) :
    closeBatch cause (takenState v c) = closedState cause c v := closeBatch_of_active rfl

theorem TakenUp.closedWith (taken : TakenUp figs s v) {cause : CloseCause} {c : ActiveBatch}
    (slots : t.store.slots = (closedState cause c v).store.slots) (held : t.store.held = (closedState cause c v).store.held)
    (counter : t.store.ticketCounter = (closedState cause c v).store.ticketCounter)
    (cumulative : ∀ r, (t.store.runs.get r).cumulative = (v.store.runs.get r).cumulative) : ClosedWith cause c s t := by
  have frame := closedStore_frame (ticketOf cause (comparedBatch c) (takenState v c)) (takenState v c).store
  obtain ⟨-, -, number, filing⟩ := frame
  have sameSlots : (takenState v c).store.slots = s.store.slots := taken.slots
  have sameHeld : (takenState v c).store.held = s.store.held := taken.held
  have sameCounter : (takenState v c).store.ticketCounter = s.store.ticketCounter := taken.ticketCounter
  rw [sameSlots, sameHeld] at filing
  rw [sameCounter] at number
  refine ⟨_, ticketOf_comparedBatch sameCounter taken.clock cumulative, counter.trans number, ?_⟩
  rw [slots, held]
  exact filing

theorem TakenUp.started (taken : TakenUp figs s v) {e : BatchEntry} {u : State}
    (active : t.store.active = some (startedBatch e u)) (clock : u.clock = v.clock)
    (runs : u.store.runs = v.store.runs)
    (cumulative : ∀ r, (t.store.runs.get r).cumulative = (v.store.runs.get r).cumulative) : StartedWith e s t :=
  startedWith_startedBatch active (clock.trans taken.clock) fun r => by rw [cumulative, runs]

theorem compareNomination_store (v : State) :
    (compareNomination v).store = { v.store with active := (compareNomination v).store.active } := by
  unfold compareNomination
  split <;> rfl

theorem compareNomination_clock (v : State) : (compareNomination v).clock = v.clock := by
  unfold compareNomination
  split <;> rfl

theorem TakenUp.of_start (taken : TakenUp figs s v) (same : SameBatch (Machine.sequence v).1 t)
    (cumulative : ∀ r, (t.store.runs.get r).cumulative = (v.store.runs.get r).cumulative) {e : BatchEntry}
    {rest : List BatchEntry} (change : s.change = .start) (queue : s.store.queue = e :: rest) :
    StartedWith e s t ∧ t.store.queue = rest ∧ TicketsKept s t := by
  have store := compareNomination_store v
  have held : ((compareNomination v).withChange .none).store.queue = e :: rest := by
    show (compareNomination v).store.queue = _
    rw [store, ← queue, ← taken.queue]
  rw [sequence_of_start (taken.change.trans change)] at same
  dsimp only at same
  rw [startBatch_of_queue held] at same
  have runs : ((compareNomination v).withChange .none).store.runs = v.store.runs := by
    show (compareNomination v).store.runs = _
    rw [store]
  refine ⟨taken.started same.active (compareNomination_clock v) runs cumulative, same.queue,
    same.slots.trans ?_, same.held.trans ?_, same.ticketCounter.trans ?_⟩
  · exact (congrArg Store.slots store).trans taken.slots
  · exact (congrArg Store.held store).trans taken.held
  · exact (congrArg Store.ticketCounter store).trans taken.ticketCounter

/-- The close of the credited batch, its change taken. -/
theorem TakenUp.close_eq (taken : TakenUp figs s v) (cause : CloseCause) {b : ActiveBatch}
    (active : s.store.active = some b) :
    closeBatch cause ((compareNomination v).withChange .none) =
      closedState cause (creditedBatch figs s.store.runs b) v := by
  have credited : v.store.active = some (creditedBatch figs s.store.runs b) := by
    rw [taken.active, active]
    rfl
  rw [compareNomination_of_active credited]
  exact closeBatch_takenState cause _ v

theorem closedState_active (cause : CloseCause) (c : ActiveBatch) (v : State) :
    (closedState cause c v).store.active = none :=
  (closedStore_frame (ticketOf cause (comparedBatch c) (takenState v c)) (takenState v c).store).1

theorem closedState_queue (cause : CloseCause) (c : ActiveBatch) (v : State) :
    (closedState cause c v).store.queue = v.store.queue :=
  (closedStore_frame (ticketOf cause (comparedBatch c) (takenState v c)) (takenState v c).store).2.1

theorem closedState_runs (cause : CloseCause) (c : ActiveBatch) (v : State) :
    (closedState cause c v).store.runs = v.store.runs := by
  unfold closedState closedStore
  split <;> rfl

theorem TakenUp.of_ends (taken : TakenUp figs s v) (same : SameBatch (Machine.sequence v).1 t)
    (cumulative : ∀ r, (t.store.runs.get r).cumulative = (v.store.runs.get r).cumulative) {b : ActiveBatch}
    (change : s.change = .ends) (active : s.store.active = some b) :
    t.store.active = none ∧ ClosedWith .hostEnd (creditedBatch figs s.store.runs b) s t ∧
      t.store.queue = s.store.queue := by
  rw [sequence_of_ends (taken.change.trans change), taken.close_eq _ active] at same
  have closed := SameBatch.trans (.of_judged (judged_judge _ _ _)) same
  exact ⟨closed.active.trans (closedState_active _ _ _),
    taken.closedWith closed.slots closed.held closed.ticketCounter cumulative,
    closed.queue.trans ((closedState_queue _ _ _).trans taken.queue)⟩

theorem TakenUp.of_cutover (taken : TakenUp figs s v) (same : SameBatch (Machine.sequence v).1 t)
    (cumulative : ∀ r, (t.store.runs.get r).cumulative = (v.store.runs.get r).cumulative) {b : ActiveBatch} {e : BatchEntry}
    {rest : List BatchEntry} (change : s.change = .cutover) (active : s.store.active = some b)
    (queue : s.store.queue = e :: rest) :
    StartedWith e s t ∧ ClosedWith .hostCutover (creditedBatch figs s.store.runs b) s t ∧ t.store.queue = rest := by
  rw [sequence_of_cutover (taken.change.trans change), taken.close_eq _ active] at same
  dsimp only at same
  have judged := judged_judge (.station .ticketStoreFull) false
    (closedState .hostCutover (creditedBatch figs s.store.runs b) v)
  have closed := SameBatch.of_judged judged
  have clock := judged.clock
  have runs := judged.runs
  generalize judge _ _ _ = u at same closed clock runs
  have held : u.store.queue = e :: rest := by
    rw [closed.queue, closedState_queue, taken.queue, queue]
  rw [startBatch_of_queue held] at same
  exact ⟨taken.started same.active clock (runs.trans (closedState_runs _ _ _)) cumulative,
    taken.closedWith (same.slots.trans closed.slots) (same.held.trans closed.held)
      (same.ticketCounter.trans closed.ticketCounter) cumulative, same.queue⟩

theorem withChange_self {u : State} {x : BatchChange} (change : u.change = x) : u.withChange x = u := by
  rw [← change]
  rfl

/-- With no change pending, an active batch stays or closes by its nomination (R80, R81). -/
theorem TakenUp.of_active (taken : TakenUp figs s v) (same : SameBatch (Machine.sequence v).1 t)
    (cumulative : ∀ r, (t.store.runs.get r).cumulative = (v.store.runs.get r).cumulative) {b : ActiveBatch}
    (change : s.change = .none) (active : s.store.active = some b) :
    let c := creditedBatch figs s.store.runs b
    t.store.queue = s.store.queue ∧
      (nominated c = false → t.store.active = some (comparedBatch c) ∧ TicketsKept s t) ∧
      (nominated c = true → s.store.held ≠ none → t.store.active = some (comparedBatch c) ∧ TicketsKept s t) ∧
      (nominated c = true → s.store.held = none → t.store.active = none ∧ ClosedWith .nomination c s t) := by
  intro c
  have credited : v.store.active = some c := by
    rw [taken.active, active]
    rfl
  have keeps {u : State} (judged : Judged (v.setActive (some (comparedBatch c))) u) (same : SameBatch u t) :
      t.store.queue = s.store.queue ∧ t.store.active = some (comparedBatch c) ∧ TicketsKept s t := by
    have all := SameBatch.trans (.of_judged judged) same
    exact ⟨all.queue.trans taken.queue, all.active, all.slots.trans taken.slots, all.held.trans taken.held,
      all.ticketCounter.trans taken.ticketCounter⟩
  rw [sequence_of_active (taken.change.trans change) credited] at same
  dsimp only at same
  have free : v.store.held.isNone = s.store.held.isNone := by rw [taken.held]
  rw [free] at same
  by_cases reached : nominated c = true
  · rw [if_pos reached] at same
    rcases held : s.store.held with _ | k
    · rw [held] at same
      have shape : v.setActive (some (comparedBatch c)) = takenState v c :=
        (withChange_self (u := v.setActive (some (comparedBatch c))) (taken.change.trans change)).symm
      have closing := same
      rw [shape] at closing
      dsimp only [Option.isNone] at closing
      rw [if_pos rfl, closeBatch_takenState] at closing
      have closed := SameBatch.trans (.of_judged (judged_judge _ _ _)) closing
      refine ⟨closed.queue.trans ((closedState_queue _ _ _).trans taken.queue), ?_, ?_, fun _ _ =>
        ⟨closed.active.trans (closedState_active _ _ _),
          taken.closedWith closed.slots closed.held closed.ticketCounter cumulative⟩⟩
      · rw [reached]; nofun
      · exact fun _ no => absurd rfl no
    · rw [held] at same
      obtain ⟨queue, active, kept⟩ := keeps (judged_judge (.station .ticketStoreFull) true _) same
      refine ⟨queue, ?_, fun _ _ => ⟨active, kept⟩, fun _ no => nomatch no⟩
      rw [reached]; nofun
  · rw [if_neg reached] at same
    obtain ⟨queue, active, kept⟩ := keeps (.refl _) same
    exact ⟨queue, fun _ => ⟨active, kept⟩, fun is => absurd is reached, fun is => absurd is reached⟩

theorem TakenUp.of_free (taken : TakenUp figs s v) (same : SameBatch (Machine.sequence v).1 t)
    (change : s.change = .none) (free : s.store.active = none) :
    t.store.active = none ∧ t.store.queue = s.store.queue ∧ TicketsKept s t := by
  have none_ : v.store.active = none := by
    rw [taken.active, free]
    rfl
  rw [sequence_of_free (taken.change.trans change) none_] at same
  exact ⟨same.active.trans none_, same.queue.trans taken.queue, same.slots.trans taken.slots,
    same.held.trans taken.held, same.ticketCounter.trans taken.ticketCounter⟩

theorem startBatch_change (u : State) : (startBatch u).change = u.change := by
  unfold startBatch
  split <;> rfl

/-- The sequencer leaves no change pending (R78). -/
theorem sequence_change (v : State) : (Machine.sequence v).1.change = .none := by
  have closed (cause : CloseCause) {u : State} (was : u.change = .none) :
      (judge (.station .ticketStoreFull) false (closeBatch cause u)).change = .none :=
    (judged_judge _ _ _).change.trans ((Proofs.closeBatch_change cause u).trans was)
  cases change : v.change with
  | start =>
    rw [sequence_of_start change]
    exact startBatch_change _
  | ends =>
    rw [sequence_of_ends change]
    exact closed _ rfl
  | cutover =>
    rw [sequence_of_cutover change]
    exact (startBatch_change _).trans (closed _ rfl)
  | none =>
    rcases active : v.store.active with _ | b
    · rw [sequence_of_free change active]
      exact change
    · rw [sequence_of_active change active]
      have was : (v.setActive (some (comparedBatch b))).change = .none := change
      dsimp only
      split
      · split
        · exact closed _ was
        · exact (judged_judge _ _ _).change.trans was
      · exact was

/-- What a boundary makes of the batch, from what its sequencer takes up and leaves. -/
theorem TakenUp.batchChanged (taken : TakenUp figs s v) (same : SameBatch (Machine.sequence v).1 t)
    (cumulative : ∀ r, (t.store.runs.get r).cumulative = (v.store.runs.get r).cumulative)
    (last : t.totalizer.last = PerRun.tab fun r => some (figs.get r)) : BatchChanged s t := by
  have credited (b : ActiveBatch) : credited s t b = creditedBatch figs s.store.runs b := credited_eq last b
  refine ⟨same.change.trans (sequence_change v), fun e rest => taken.of_start same cumulative, fun b change active => ?_,
    fun b e rest change active queue => ?_, fun b change active => ?_, taken.of_free same⟩
  · have ended := taken.of_ends same cumulative change active
    rw [← credited b] at ended
    exact ended
  · have cut := taken.of_cutover same cumulative change active queue
    rw [← credited b] at cut
    exact cut
  · have went := taken.of_active same cumulative change active
    rw [← credited b] at went
    obtain ⟨queue, stays, defers, closes⟩ := went
    refine ⟨queue, fun no => ?_, fun reached held => ?_, closes⟩
    · have left := stays no
      rw [comparedBatch_of_not_nominated no] at left
      exact left
    · refine ⟨(defers reached held).1.trans ?_, (defers reached held).2⟩
      rw [comparedBatch, reached]

end Outcomes

/-! ### TICKET_STORE_FULL (R81) -/

section Full

variable {v : State}

theorem startBatch_monitor (u : State) : (startBatch u).monitor = u.monitor := by
  unfold startBatch
  split <;> rfl

theorem compareNomination_monitor (u : State) : (compareNomination u).monitor = u.monitor := by
  unfold compareNomination
  split <;> rfl

theorem sequence_full_of_start (change : v.change = .start) :
    (Machine.sequence v).1.active (.station .ticketStoreFull) = v.active (.station .ticketStoreFull) := by
  have compared : ((compareNomination v).withChange .none).monitor = v.monitor := compareNomination_monitor v
  rw [sequence_of_start change]
  exact active_of_monitor ((startBatch_monitor _).trans compared) _

theorem sequence_full_of_close (change : v.change = .ends ∨ v.change = .cutover) :
    (Machine.sequence v).1.active (.station .ticketStoreFull) = false := by
  rcases change with ends | cutover
  · rw [sequence_of_ends ends]
    exact judge_active_same _ _ _
  · rw [sequence_of_cutover cutover]
    exact (active_of_monitor (startBatch_monitor _) _).trans (judge_active_same _ _ _)

theorem sequence_full_of_active {b : ActiveBatch} (change : v.change = .none) (active : v.store.active = some b) :
    (Machine.sequence v).1.active (.station .ticketStoreFull) =
      if nominated b = false then v.active (.station .ticketStoreFull) else decide (v.store.held ≠ none) := by
  rw [sequence_of_active change active]
  dsimp only
  rcases reached : nominated b with _ | _
  · exact active_of_monitor rfl _
  · rcases held : v.store.held with _ | k
    · exact judge_active_same (.station .ticketStoreFull) false _
    · exact judge_active_same (.station .ticketStoreFull) true _

end Full

/-- Up to the sequencer's work a boundary leaves TICKET_STORE_FULL, and the later work leaves the sequencer's. -/
theorem checkedState_full (closing : Bool) (pe : Nat) (s : State) :
    (checkedState closing pe s).active (.station .ticketStoreFull) = s.active (.station .ticketStoreFull) := by
  have ended : (endPeriod closing pe s).monitor = (judgedState closing pe s).monitor := (ended_endPeriod closing pe s).monitor
  have checked : (checkedState closing pe s).monitor = (endPeriod closing pe s).monitor := checkStability_monitor _
  rw [active_of_monitor (checked.trans ended)]
  exact (whole_judgePeriod closing _ s).active (by decide)

theorem boundary_full (closing : Bool) (pe : Nat) (order : BoundaryOrder) (s : State) :
    (boundary closing pe order s).active (.station .ticketStoreFull) =
      (Machine.sequence (checkedState closing pe s)).1.active (.station .ticketStoreFull) := by
  refine (whole_deferred order (endPeriod closing pe s)).active ?_
  rintro (⟨b, is⟩ | ⟨r, is⟩ | is)
  · cases b <;> nomatch is
  · nomatch is
  · nomatch is

/-- What any boundary makes of the batch, with the grant that follows it. -/
theorem Bounded.batchChanged {closing : Bool} {pe : Nat} {s u t : State} (bounded : Bounded closing pe s u)
    (same : SameBatch u t) (runs : t.store.runs = u.store.runs) (last : t.totalizer.last = u.totalizer.last) :
    BatchChanged s t := by
  have taken := takenUp_checkedState closing pe s
  refine taken.batchChanged (bounded.sameBatch.trans same) (fun r => ?_) (last.trans ?_)
  · rw [taken.cumulative, runs, bounded.store]
    dsimp only
    rw [PerRun.get_tab]
    rfl
  · rw [bounded.totalizer]

theorem AfterBoundary.batchChanged {s u t : State} (after : AfterBoundary s u t) : BatchChanged s t := by
  have change : t.change = u.change := by
    rw [after.granted]
    rfl
  have store := after.store
  refine after.bounded.batchChanged ⟨change, ?_, ?_, ?_, ?_, ?_⟩ ?_ (by rw [after.totalizer])
  all_goals rw [store]

theorem batchChanged_of_later {dt : Nat} {s t : State} (changed : BatchChanged (later dt s) t) : BatchChanged s t := by
  unfold BatchChanged at changed ⊢
  exact changed

/-- TICKET_STORE_FULL after a boundary from s to t, by the change that was pending and the batch (R81). -/
def FullJudged (s t : State) : Prop :=
  (s.change = .ends ∨ s.change = .cutover → t.active (.station .ticketStoreFull) = false) ∧
  (s.change = .start → t.active (.station .ticketStoreFull) = s.active (.station .ticketStoreFull)) ∧
  (s.change = .none → s.store.active = none →
    t.active (.station .ticketStoreFull) = s.active (.station .ticketStoreFull)) ∧
  (∀ b, s.change = .none → s.store.active = some b → t.active (.station .ticketStoreFull) =
    if nominated (credited s t b) = false then s.active (.station .ticketStoreFull)
    else decide (s.store.held ≠ none))

theorem fullJudged_of_later {dt : Nat} {s t : State} (judged : FullJudged (later dt s) t) : FullJudged s t := by
  unfold FullJudged at judged ⊢
  exact judged

theorem fullJudged_boundary (pe : Nat) (order : BoundaryOrder) {s t : State}
    (last : t.totalizer.last = PerRun.tab fun r => some ((boundaryFigures false pe s).get r))
    (monitor : t.monitor = (boundary false pe order s).monitor) : FullJudged s t := by
  unfold FullJudged
  have taken := takenUp_checkedState false pe s
  rw [active_of_monitor monitor, boundary_full, ← checkedState_full false pe s]
  refine ⟨fun closes => ?_, fun start => ?_, fun none_ free => ?_, fun b none_ active => ?_⟩
  · exact sequence_full_of_close (by rw [taken.change]; exact closes)
  · exact sequence_full_of_start (taken.change.trans start)
  · rw [sequence_of_free (taken.change.trans none_) (by rw [taken.active, free]; rfl)]
  · have held : (checkedState false pe s).store.active =
        some (creditedBatch (boundaryFigures false pe s) s.store.runs b) := by
      rw [taken.active, active]
      rfl
    rw [credited_eq last, sequence_full_of_active (taken.change.trans none_) held, taken.held]

/-- Settles O35: the sequencer's outcomes, on the batch with its period credited. -/
theorem boundaryChangesTheBatch : Obligations.BoundaryChangesTheBatch := by
  intro dt order s running ends full
  have after := afterBoundary_settle order (later dt s) s
  exact ⟨_, periodBoundary_of_ends running ends, batchChanged_of_later after.batchChanged,
    fullJudged_of_later (fullJudged_boundary _ order after.last after.monitor)⟩

end Sys2Proof.Proofs
end

section
/-! The configuration unit's work at a boundary: staged copies, mismatch marks, the rotation, and the conditions that
follow the marks. -/

namespace Sys2Proof.Proofs

open Sys2Proof Sys2Proof.Machine Sys2Proof.Safety Sys2Proof.Stated Sys2Proof.Laws

/-! ### Marks -/

theorem mark_of_work {s t : State} (work : t.work = s.work) (b : BlockId) : t.mark b = s.mark b := by
  cases b <;> simp only [State.mark, work]

theorem staged_of_work {s t : State} (work : t.work = s.work) (b : BlockId) : t.staged b = s.staged b := by
  cases b <;> simp only [State.staged, work]

theorem mark_setMark_same (b : BlockId) (x : Bool) (s : State) : (setMark b x s).mark b = x := by
  cases b with
  | run r => exact PerRun.get_set_same _ _ _
  | _ => rfl

theorem mark_setMark_other {b c : BlockId} (other : c ≠ b) (x : Bool) (s : State) :
    (setMark b x s).mark c = s.mark c := by
  cases b with
  | run r =>
    cases c with
    | run q => exact PerRun.get_set_other _ _ _ _ fun same => other (congrArg _ same)
    | _ => rfl
  | _ => cases c <;> first | rfl | exact absurd rfl other

theorem staged_setMark (b c : BlockId) (x : Bool) (s : State) : (setMark b x s).staged c = s.staged c := by
  cases b <;> cases c <;> rfl

theorem rotation_setMark (b : BlockId) (x : Bool) (s : State) : (setMark b x s).work.rotation = s.work.rotation := by
  cases b <;> rfl

theorem mark_setMark (b c : BlockId) (x : Bool) (s : State) :
    (setMark b x s).mark c = if c = b then x else s.mark c := by
  split
  next same => rw [same, mark_setMark_same]
  next other => exact mark_setMark_other other x s

/-! ### Blocks gone through -/

/-- t is s with the marks and the staged copies of some blocks gone. -/
def Rid (gone : BlockId → Bool) (s t : State) : Prop :=
  t.work.rotation = s.work.rotation ∧
  ∀ b, t.mark b = (s.mark b && !gone b) ∧ t.staged b = (s.staged b && !gone b)

theorem Rid.of_work {s t : State} (work : t.work = s.work) : Rid (fun _ => false) s t :=
  ⟨by rw [work], fun b => ⟨by rw [mark_of_work work, Bool.not_false, Bool.and_true],
    by rw [staged_of_work work, Bool.not_false, Bool.and_true]⟩⟩

theorem Rid.trans {f g : BlockId → Bool} {s t u : State} (h : Rid f s t) (k : Rid g t u) :
    Rid (fun b => f b || g b) s u := by
  refine ⟨k.1.trans h.1, fun b => ?_⟩
  obtain ⟨mark, staged⟩ := h.2 b
  obtain ⟨mark', staged'⟩ := k.2 b
  rw [mark', mark, staged', staged, Bool.not_or, Bool.and_assoc, Bool.and_assoc]
  exact ⟨rfl, rfl⟩

theorem Rid.congr {f g : BlockId → Bool} {s t : State} (h : Rid f s t) (same : ∀ b, f b = g b) : Rid g s t := by
  rwa [← funext same]

theorem Rid.of_judged {s t : State} (judged : Judged s t) : Rid (fun _ => false) s t := .of_work judged.work

/-- A block's mark cleared and its staged copy gone. -/
theorem Rid.cleared {b : BlockId} {s t : State} (rotation : t.work.rotation = s.work.rotation)
    (marks : ∀ c, t.mark c = s.mark c) (staged : ∀ c, t.staged c = (s.staged c && !decide (c = b))) :
    Rid (fun c => decide (c = b)) s (clearMark b t) := by
  have set : Rid (fun c => decide (c = b)) s (setMark b false t) := by
    refine ⟨(rotation_setMark b false t).trans rotation, fun c => ⟨?_, (staged_setMark b c false t).trans (staged c)⟩⟩
    rw [mark_setMark, marks]
    split <;> simp [*]
  have judged (u : State) (on : Bool) (gone : Rid (fun c => decide (c = b)) s u) :
      Rid (fun c => decide (c = b)) s (judge (checkCondition b) on u) :=
    (gone.trans (.of_judged (judged_judge _ on _))).congr fun c => Bool.or_false _
  rw [clearMark_eq]
  split
  · split
    · exact judged _ _ set
    · exact set
  next unmarked =>
    refine ⟨rotation, fun c => ⟨?_, staged c⟩⟩
    rw [marks]
    by_cases same : c = b
    · rw [same]
      rw [marks] at unmarked
      simp [unmarked]
    · simp [same]

/-- A block's application rids it of its mark and its staged copy where it was commit-pending (R162, R164). -/
theorem rid_applyStation (s : State) :
    Rid (fun b => decide (b = .station) && s.store.station.pending.isSome) s (applyStation s) := by
  unfold applyStation
  split
  next none_ => exact (Rid.of_work rfl).congr fun b => by rw [none_]; exact (Bool.and_false _).symm
  next x some_ =>
    rw [some_]
    dsimp only
    refine Rid.congr (Rid.cleared (b := .station) ?_ (fun c => ?_) fun c => ?_) fun b => (Bool.and_true _).symm
    · rw [(judged_applyClasses _ _ _).work]
      rfl
    · rw [mark_of_work (judged_applyClasses _ _ _).work]
      cases c <;> rfl
    · rw [staged_of_work (judged_applyClasses _ _ _).work]
      cases c <;> simp [State.staged]

theorem rid_applyProver (s : State) :
    Rid (fun b => decide (b = .prover) && s.store.prover.pending.isSome) s (applyProver s) := by
  unfold applyProver
  split
  next none_ => exact (Rid.of_work rfl).congr fun b => by rw [none_]; exact (Bool.and_false _).symm
  next x some_ =>
    rw [some_]
    refine Rid.congr (Rid.cleared (b := .prover) rfl (fun c => ?_) fun c => ?_) fun b => (Bool.and_true _).symm
    · cases c <;> rfl
    · cases c <;> simp [State.staged]

theorem scannerTakesPoints_work (s : State) : (scannerTakesPoints s).work = s.work := by
  unfold scannerTakesPoints
  rw [nextConversion_eq]
  rfl

theorem rid_applyPoints (s : State) :
    Rid (fun b => decide (b = .points) && s.store.points.pending.isSome) s (applyPoints s) := by
  unfold applyPoints
  split
  next none_ => exact (Rid.of_work rfl).congr fun b => by rw [none_]; exact (Bool.and_false _).symm
  next x some_ =>
    rw [some_]
    refine Rid.congr (Rid.cleared (b := .points) ?_ (fun c => ?_) fun c => ?_) fun b => (Bool.and_true _).symm
    · rw [scannerTakesPoints_work]
      rfl
    · rw [mark_of_work (scannerTakesPoints_work _)]
      cases c <;> rfl
    · rw [staged_of_work (scannerTakesPoints_work _)]
      cases c <;> simp [State.staged]

/-- A RUN block's copy in force, its staged copy gone, before its mark is cleared (R162). -/
def takenRun (r : Run) (x : RunBlock) (s : State) : State :=
  let slot : Slot RunBlock := { current := x, pending := none, code := runBlockCode x }
  (s.withStore { s.store with runBlocks := s.store.runBlocks.set r slot }).withWork
    { s.work with stagedRuns := s.work.stagedRuns.set r none }

theorem applyRun_of_some {s : State} {r : Run} {x : RunBlock} (some_ : (s.store.runBlocks.get r).pending = some x) :
    applyRun s r =
      let t := clearMark (.run r) (takenRun r x s)
      if x.tempPoint = (s.runBlock r).tempPoint then t
      else judge (.run .temperatureDeviation r) (decide (t.pointStatus (pointIndex x.tempPoint) = .deviation)) t := by
  unfold applyRun
  rw [some_]
  rfl

theorem applyRun_of_none {s : State} {r : Run} (none_ : (s.store.runBlocks.get r).pending = none) : applyRun s r = s := by
  unfold applyRun
  rw [none_]

theorem rid_takenRun_cleared (s : State) (r : Run) (x : RunBlock) :
    Rid (fun b => decide (b = .run r)) s (clearMark (.run r) (takenRun r x s)) := by
  refine Rid.cleared (b := .run r) rfl (fun c => ?_) fun c => ?_
  · cases c <;> rfl
  · cases c with
    | run q =>
      by_cases same : q = r
      · subst same
        simp [State.staged, takenRun, State.withWork]
      · simp [State.staged, takenRun, State.withWork, same, PerRun.get_set_other _ _ _ _ same]
    | _ => simp [State.staged, takenRun, State.withWork, State.withStore]

theorem rid_applyRun (s : State) (r : Run) :
    Rid (fun b => decide (b = .run r) && (s.store.runBlocks.get r).pending.isSome) s (applyRun s r) := by
  rcases pending : (s.store.runBlocks.get r).pending with _ | x
  · rw [applyRun_of_none pending]
    exact (Rid.of_work rfl).congr fun b => (Bool.and_false _).symm
  · rw [applyRun_of_some pending]
    have cleared := rid_takenRun_cleared s r x
    refine Rid.congr (f := fun b => decide (b = .run r)) ?_ fun b => (Bool.and_true _).symm
    dsimp only
    split
    · exact cleared
    · exact (cleared.trans (.of_judged (judged_judge _ _ _))).congr fun b => Bool.or_false _

theorem rid_applyRuns (s : State) :
    Rid (fun b => match b with | .run r => (s.store.runBlocks.get r).pending.isSome | _ => false) s
      (allRuns.foldl applyRun s) := by
  obtain ⟨-, -, -, runs1⟩ := applyRun_blocks s .r1
  obtain ⟨-, -, -, runs2⟩ := applyRun_blocks (applyRun s .r1) .r2
  obtain ⟨-, -, -, runs3⟩ := applyRun_blocks (applyRun (applyRun s .r1) .r2) .r3
  have all := (((rid_applyRun s .r1).trans (rid_applyRun _ .r2)).trans (rid_applyRun _ .r3)).trans (rid_applyRun _ .r4)
  refine all.congr fun b => ?_
  rw [runs3, runs2, runs1]
  cases b with
  | run r => cases r <;> simp [PerRun.set, PerRun.get]
  | _ => simp

theorem rid_applyBlocks (s : State) : Rid s.commitPending s (applyBlocks s) := by
  obtain ⟨-, prover, points, runs⟩ := applyStation_blocks s
  obtain ⟨-, -, points1, runs1⟩ := applyProver_blocks (applyStation s)
  obtain ⟨-, -, -, runs2⟩ := applyPoints_blocks (applyProver (applyStation s))
  have all := ((rid_applyStation s).trans (rid_applyProver _)).trans ((rid_applyPoints _).trans (rid_applyRuns _))
  refine all.congr fun b => ?_
  rw [runs2, runs1, runs, points1, points, prover]
  cases b <;> simp [State.commitPending]

/-! ### The verification (R165) -/

theorem mark_verifyBlock (b c : BlockId) (s : State) :
    (verifyBlock b s).mark c = (s.mark c || decide (c = b) && s.mismatch c) := by
  unfold verifyBlock raiseMark
  split
  next differs =>
    rw [mark_of_work (judged_judge _ _ _).work, mark_setMark]
    split
    next same =>
      subst same
      simp [differs]
    next other => simp [other]
  next agrees =>
    by_cases same : c = b
    · subst same
      simp [Bool.eq_false_iff.mpr agrees]
    · simp [same]

theorem staged_verifyBlock (b c : BlockId) (s : State) : (verifyBlock b s).staged c = s.staged c := by
  unfold verifyBlock raiseMark
  split
  · rw [staged_of_work (judged_judge _ _ _).work, staged_setMark]
  · rfl

theorem rotation_verifyBlock (b : BlockId) (s : State) : (verifyBlock b s).work.rotation = s.work.rotation := by
  unfold verifyBlock raiseMark
  split
  · rw [(judged_judge _ _ _).work, rotation_setMark]
  · rfl

theorem commitPending_of_sameBlocks {s t : State} (same : SameBlocks s t) (b : BlockId) :
    t.commitPending b = s.commitPending b := by
  obtain ⟨station, prover, points, runs⟩ := same
  cases b <;> simp only [State.commitPending, station, prover, points, runs]

/-- t has the blocks of s, their codes, and its grades. -/
structure SameContents (s t : State) : Prop where
  blocks : SameBlocks s t
  grades : t.store.grades = s.store.grades
  gradesCode : t.store.gradesCode = s.store.gradesCode

theorem mismatch_of_sameContents {s t : State} (same : SameContents s t) (b : BlockId) : t.mismatch b = s.mismatch b := by
  obtain ⟨⟨station, prover, points, runs⟩, grades, gradesCode⟩ := same
  cases b <;> simp only [State.mismatch, State.contentsCode, State.storedCode, State.stationBlock, State.proverBlock,
    State.pointsBlock, State.runBlock, station, prover, points, runs, grades, gradesCode] <;> rfl

/-- A block's code agrees with a copy just applied (R162). -/
theorem code_takenSlot {α : Type} (code : α → Code) (x : Slot α) :
    (decide (code (takenSlot code x).current ≠ (takenSlot code x).code)) =
      (decide (code x.current ≠ x.code) && !x.pending.isSome) := by
  rcases pending : x.pending with _ | y
  · rw [takenSlot_of_none pending]
    exact (Bool.and_true _).symm
  · rw [takenSlot_of_some pending]
    simp

theorem mismatch_applyBlocks (s : State) (b : BlockId) :
    (applyBlocks s).mismatch b = (s.mismatch b && !s.commitPending b) := by
  obtain ⟨station, prover, points, runs⟩ := applyBlocks_taken s
  have store := (applied_applyBlocks s).store
  have grades : (applyBlocks s).store.grades = s.store.grades := by rw [store]
  have gradesCode : (applyBlocks s).store.gradesCode = s.store.gradesCode := by rw [store]
  have slot {α : Type} (code : α → Code) {x y : Slot α} (taken : y = takenSlot code x) :
      (decide (code y.current ≠ y.code) || false) = ((decide (code x.current ≠ x.code) || false) && !x.pending.isSome) := by
    rw [taken, code_takenSlot, Bool.or_false, Bool.or_false]
  cases b with
  | station => exact slot stationBlockCode station
  | prover => exact slot proverBlockCode prover
  | points => exact slot pointsBlockCode points
  | run r => exact slot runBlockCode (runs r)
  | grades =>
    refine Eq.trans ?_ (Bool.and_true _).symm
    unfold State.mismatch State.contentsCode State.storedCode
    rw [grades, gradesCode]

/-- What the applications and the verification leave of the configuration unit's work. -/
structure Reworked (s t : State) : Prop where
  rotation : t.work.rotation = nextBlock s.work.rotation
  staged : ∀ b, t.staged b = (s.staged b && !s.commitPending b)
  mark : ∀ b, t.mark b = (!s.commitPending b && (s.mark b || decide (b = s.work.rotation) && s.mismatch b))

theorem verified_applied : ∀ marked_ own differs pending : Bool, (marked_ && !pending || own && (differs && !pending)) =
    (!pending && (marked_ || own && differs)) := by decide

theorem reworked_applyAndVerify (verifyFirst : Bool) (s : State) : Reworked s (applyAndVerify verifyFirst s) := by
  unfold applyAndVerify
  dsimp only
  split
  · obtain ⟨-, gone⟩ := rid_applyBlocks (verifyBlock s.work.rotation s)
    have pending := commitPending_of_sameBlocks (sameBlocks_verifyBlock s.work.rotation s)
    refine ⟨rfl, fun b => ?_, fun b => ?_⟩
    · refine (by cases b <;> rfl : _ = (applyBlocks (verifyBlock s.work.rotation s)).staged b).trans ?_
      rw [(gone b).2, staged_verifyBlock, pending]
    · refine (by cases b <;> rfl : _ = (applyBlocks (verifyBlock s.work.rotation s)).mark b).trans ?_
      rw [(gone b).1, mark_verifyBlock, pending, Bool.and_comm]
  · obtain ⟨-, gone⟩ := rid_applyBlocks s
    refine ⟨rfl, fun b => ?_, fun b => ?_⟩
    · refine (by cases b <;> rfl : _ = (verifyBlock s.work.rotation (applyBlocks s)).staged b).trans ?_
      rw [staged_verifyBlock, (gone b).2]
    · refine (by cases b <;> rfl : _ = (verifyBlock s.work.rotation (applyBlocks s)).mark b).trans ?_
      rw [mark_verifyBlock, (gone b).1, mismatch_applyBlocks]
      exact verified_applied _ _ _ _

/-! ### The conditions that follow the marks (R164) -/

/-- Whether the marks that drive a block's condition have one set. -/
def driven (s : State) : BlockId → Bool
  | .run r => s.mark (.run r)
  | _ => s.stationMarks

/-- A block's condition follows its marks. -/
def FollowsMarks (s : State) (b : BlockId) : Prop := s.active (checkCondition b) = driven s b

/-- From s to t, the conditions that follow the marks still do. -/
def KeepsChecks (s t : State) : Prop := ∀ b, FollowsMarks s b → FollowsMarks t b

theorem KeepsChecks.trans {s t u : State} (h : KeepsChecks s t) (k : KeepsChecks t u) : KeepsChecks s u :=
  fun b follows => k b (h b follows)

theorem stationMarks_eq (s : State) :
    s.stationMarks = (s.mark .station || s.mark .prover || s.mark .points || s.mark .grades) := rfl

theorem driven_of_marks {s t : State} (marks : ∀ b, t.mark b = s.mark b) (b : BlockId) : driven t b = driven s b := by
  cases b <;> simp only [driven, stationMarks_eq, marks]

theorem driven_of_same_condition {b c : BlockId} (same : checkCondition c = checkCondition b) (s : State) :
    driven s c = driven s b := by
  cases b with
  | run r =>
    cases c with
    | run q =>
      injection same with _ run
      rw [run]
    | _ => nomatch same
  | _ =>
    cases c with
    | run q => nomatch same
    | _ => rfl

theorem driven_setMark_other {b c : BlockId} (other : checkCondition c ≠ checkCondition b) (x : Bool) (s : State) :
    driven (setMark b x s) c = driven s c := by
  have apart (d : BlockId) (same : checkCondition d = checkCondition c) : d ≠ b := fun is => other (is ▸ same.symm)
  cases c with
  | run q => exact mark_setMark_other (apart _ rfl) x s
  | _ =>
    show (setMark b x s).stationMarks = s.stationMarks
    rw [stationMarks_eq, stationMarks_eq, mark_setMark_other (apart .station rfl), mark_setMark_other (apart .prover rfl),
      mark_setMark_other (apart .points rfl), mark_setMark_other (apart .grades rfl)]

theorem checkCondition_ne_trip (b : BlockId) : checkCondition b ≠ .station .externalTrip := by
  cases b <;> nofun

theorem keepsChecks_of_whole {s t : State} {reached : ConditionId → Prop} (marks : ∀ b, t.mark b = s.mark b)
    (whole : Whole reached s t) (not : ∀ b, ¬reached (checkCondition b)) : KeepsChecks s t := by
  intro b follows
  unfold FollowsMarks
  rw [whole.active (not b), driven_of_marks marks]
  exact follows

/-- A judgement of a block's condition by its marks, once a mark has been set or cleared. -/
theorem keepsChecks_judge {b : BlockId} {x : Bool} {s : State} (by_ : driven (setMark b x s) b = x) :
    KeepsChecks s (judge (checkCondition b) x (setMark b x s)) := by
  intro c follows
  unfold FollowsMarks
  rw [driven_of_marks (mark_of_work (judged_judge _ _ _).work)]
  by_cases same : checkCondition c = checkCondition b
  · rw [same, judge_active_same, driven_of_same_condition same, by_]
  · rw [judge_active_other same (checkCondition_ne_trip c), driven_setMark_other same]
    have still : (setMark b x s).active (checkCondition c) = s.active (checkCondition c) :=
      (whole_setMark (fun _ => False) b x s).active nofun
    rw [still]
    exact follows

theorem driven_of_mark {s : State} {b : BlockId} (marked_ : s.mark b = true) : driven s b = true := by
  cases b with
  | run r => exact marked_
  | _ =>
    show s.stationMarks = true
    simp [stationMarks_eq, marked_]

theorem keepsChecks_verifyBlock (b : BlockId) (s : State) : KeepsChecks s (verifyBlock b s) := by
  unfold verifyBlock raiseMark
  split
  · exact keepsChecks_judge (driven_of_mark (mark_setMark_same b true s))
  · exact fun c follows => follows

theorem driven_of_lastMark {s : State} {b : BlockId} (unmarked : s.mark b = false) (last : lastMark b s = true) :
    driven s b = false := by
  cases b with
  | run r => exact unmarked
  | _ => exact (Bool.not_eq_true' _).mp last

theorem driven_of_not_lastMark {s : State} {b : BlockId} (more : ¬lastMark b s = true) : driven s b = true := by
  cases b with
  | run r => exact absurd rfl more
  | _ =>
    show s.stationMarks = true
    refine Classical.byContradiction fun none_ => ?_
    exact more ((Bool.not_eq_true' _).mpr (Bool.eq_false_iff.mpr none_))

theorem keepsChecks_clearMark (b : BlockId) (s : State) : KeepsChecks s (clearMark b s) := by
  rw [clearMark_eq]
  split
  next was =>
    split
    next last => exact keepsChecks_judge (driven_of_lastMark (mark_setMark_same b false s) last)
    next more =>
      intro c follows
      have still : (setMark b false s).active (checkCondition c) = s.active (checkCondition c) :=
        (whole_setMark (fun _ => False) b false s).active nofun
      unfold FollowsMarks at follows ⊢
      rw [still, follows]
      by_cases same : checkCondition c = checkCondition b
      · rw [driven_of_same_condition same, driven_of_same_condition same, driven_of_mark was, driven_of_not_lastMark more]
      · exact (driven_setMark_other same false s).symm
  · exact fun c follows => follows

end Sys2Proof.Proofs
end

section
/-! The items deferred to a boundary, performed. -/

namespace Sys2Proof.Proofs

open Sys2Proof Sys2Proof.Machine Sys2Proof.Safety Sys2Proof.Stated Sys2Proof.Laws

/-! ### The conditions of the marks, through the applications -/

theorem not_false_check (b : BlockId) : ¬(fun _ : ConditionId => False) (checkCondition b) := nofun

theorem keepsChecks_applyStation (s : State) : KeepsChecks s (applyStation s) := by
  unfold applyStation
  split
  · exact fun b follows => follows
  · refine KeepsChecks.trans (keepsChecks_of_whole (reached := fun j => j = .station .externalTrip) (fun b => ?_) ?_
      checkCondition_ne_trip) (keepsChecks_clearMark .station _)
    · rw [mark_of_work (judged_applyClasses _ _ _).work]
      cases b <;> rfl
    · exact ((whole_withStore _ _ _).trans (whole_withWork _ _ _)).trans (whole_applyClasses _ _ _)

theorem keepsChecks_applyProver (s : State) : KeepsChecks s (applyProver s) := by
  unfold applyProver
  split
  · exact fun b follows => follows
  · refine KeepsChecks.trans (keepsChecks_of_whole (reached := fun _ => False) (fun b => ?_)
      ((whole_withStore _ _ _).trans (whole_withWork _ _ _)) not_false_check) (keepsChecks_clearMark .prover _)
    cases b <;> rfl

theorem keepsChecks_applyPoints (s : State) : KeepsChecks s (applyPoints s) := by
  unfold applyPoints
  split
  · exact fun b follows => follows
  · refine KeepsChecks.trans (keepsChecks_of_whole (reached := fun _ => False) (fun b => ?_) (((whole_withStore _ _ _).trans
      (whole_withWork _ _ _)).trans (whole_scannerTakesPoints _ _)) not_false_check) (keepsChecks_clearMark .points _)
    rw [mark_of_work (scannerTakesPoints_work _)]
    cases b <;> rfl

theorem keepsChecks_applyRun (s : State) (r : Run) : KeepsChecks s (applyRun s r) := by
  rcases pending : (s.store.runBlocks.get r).pending with _ | x
  · rw [applyRun_of_none pending]
    exact fun b follows => follows
  · rw [applyRun_of_some pending]
    have taken : KeepsChecks s (takenRun r x s) :=
      keepsChecks_of_whole (reached := fun _ => False) (fun b => by cases b <;> rfl) (.of_table rfl) not_false_check
    have cleared := taken.trans (keepsChecks_clearMark (.run r) _)
    dsimp only
    split
    · exact cleared
    · refine cleared.trans (keepsChecks_of_whole (mark_of_work (judged_judge _ _ _).work) (whole_judge _ _ _) fun b is => ?_)
      rcases is with deviation | trip
      · cases b <;> nomatch deviation
      · exact checkCondition_ne_trip b trip

theorem keepsChecks_foldl {α : Type} (f : State → α → State) (one : ∀ s x, KeepsChecks s (f s x)) (l : List α) (s : State) :
    KeepsChecks s (l.foldl f s) := by
  induction l generalizing s with
  | nil => exact fun b follows => follows
  | cons x rest ih => exact (one s x).trans (ih _)

theorem keepsChecks_applyBlocks (s : State) : KeepsChecks s (applyBlocks s) :=
  (((keepsChecks_applyStation s).trans (keepsChecks_applyProver _)).trans (keepsChecks_applyPoints _)).trans
    (keepsChecks_foldl _ keepsChecks_applyRun _ _)

theorem keepsChecks_applyAndVerify (verifyFirst : Bool) (s : State) : KeepsChecks s (applyAndVerify verifyFirst s) := by
  have turned (u : State) (b : BlockId) : KeepsChecks u (u.withWork { u.work with rotation := b }) :=
    keepsChecks_of_whole (reached := fun _ => False) (fun b => by cases b <;> rfl) (.of_table rfl) not_false_check
  unfold applyAndVerify
  dsimp only
  split
  · exact ((keepsChecks_verifyBlock _ _).trans (keepsChecks_applyBlocks _)).trans (turned _ _)
  · exact ((keepsChecks_applyBlocks _).trans (keepsChecks_verifyBlock _ _)).trans (turned _ _)

/-! ### The work of a boundary -/

theorem SameContents.trans {s t u : State} (h : SameContents s t) (k : SameContents t u) : SameContents s u :=
  ⟨h.blocks.trans k.blocks, k.grades.trans h.grades, k.gradesCode.trans h.gradesCode⟩

/-- Curves and services leave the blocks, the grades and the configuration unit's work. -/
theorem servicedState_contents (e : State) :
    SameContents (sequencedState e) (servicedState e) ∧ (servicedState e).work = (sequencedState e).work := by
  rw [servicedState_eq]
  generalize sequencedState e = q
  exact ⟨⟨⟨rfl, rfl, rfl, rfl⟩, rfl, rfl⟩, rfl⟩

/-- Up to the services a boundary leaves the blocks, the grades and the configuration unit's work. -/
theorem sameContents_servicedState (closing : Bool) (pe : Nat) (s : State) :
    SameContents s (servicedState (endPeriod closing pe s)) := by
  have ended := (ended_endPeriod closing pe s).store
  have sequenced := (sequenced_sequencedState (endPeriod closing pe s)).store
  have first : SameContents s (endPeriod closing pe s) := by
    refine ⟨sameBlocks_endPeriod closing pe s, ?_, ?_⟩
    all_goals rw [ended]
  have second : SameContents (endPeriod closing pe s) (sequencedState (endPeriod closing pe s)) := by
    refine ⟨⟨?_, ?_, ?_, ?_⟩, ?_, ?_⟩
    all_goals rw [sequenced]
  exact (first.trans second).trans (servicedState_contents _).1

theorem servicedState_work (closing : Bool) (pe : Nat) (s : State) :
    (servicedState (endPeriod closing pe s)).work = s.work := by
  rw [(servicedState_contents _).2, (sequenced_sequencedState _).work, (ended_endPeriod closing pe s).work]

/-- The records that a boundary may reach before the applications. -/
def earlyIds : List ConditionId := endIds ++ [.station .externalTrip, .station .ticketStoreFull]

theorem whole_servicedState (closing : Bool) (pe : Nat) (s : State) :
    Whole (· ∈ earlyIds) s (servicedState (endPeriod closing pe s)) := by
  have judged := (whole_judgePeriod closing (PerRun.tab (periodFigures closing pe s)) s).mono
    (many := (· ∈ earlyIds)) fun j is => by
      rcases is with listed | rfl
      · exact List.mem_append_left _ listed
      · decide
  have ended : Whole (· ∈ earlyIds) (judgedState closing pe s) (endPeriod closing pe s) :=
    .of_table (congrArg Monitor.table (ended_endPeriod closing pe s).monitor)
  have sequenced := (whole_sequencedState (endPeriod closing pe s)).mono (many := (· ∈ earlyIds)) fun j is => by
    rcases is with rfl | rfl
    · decide
    · decide
  exact ((judged.trans ended).trans sequenced).trans (.of_table (congrArg Monitor.table (monitor_servicedState _)))

theorem not_early_check (b : BlockId) : ¬checkCondition b ∈ earlyIds := by
  rcases b with _ | _ | _ | _ | r
  all_goals try (cases r)
  all_goals decide

theorem work_of_recordMoved {s t : State} (moved : RecordMoved s t) : t.work = s.work := by
  rw [moved]
  rfl

theorem sameContents_of_recordMoved {s t : State} (moved : RecordMoved s t) : SameContents s t := by
  rw [moved]
  exact ⟨⟨rfl, rfl, rfl, rfl⟩, rfl, rfl⟩

theorem Reworked.of_work {s t u : State} (reworked : Reworked s t) (work : u.work = t.work) : Reworked s u :=
  ⟨by rw [work, reworked.rotation], fun b => by rw [staged_of_work work, reworked.staged],
    fun b => by rw [mark_of_work work, reworked.mark]⟩

theorem Reworked.of_before {s t u : State} (reworked : Reworked t u) (same : SameContents s t) (work : t.work = s.work) :
    Reworked s u := by
  refine ⟨?_, fun b => ?_, fun b => ?_⟩
  · rw [reworked.rotation, work]
  · rw [reworked.staged, staged_of_work work, commitPending_of_sameBlocks same.blocks]
  · rw [reworked.mark, mark_of_work work, commitPending_of_sameBlocks same.blocks, mismatch_of_sameContents same, work]

theorem keepsChecks_of_monitor {s t : State} (work : t.work = s.work) (monitor : t.monitor = s.monitor) :
    KeepsChecks s t :=
  keepsChecks_of_whole (reached := fun _ => False) (mark_of_work work) (.of_table (congrArg Monitor.table monitor))
    not_false_check

/-- A boundary leaves the configuration unit's work reworked, and its conditions following the marks. -/
theorem reworked_boundary (closing : Bool) (pe : Nat) (order : BoundaryOrder) (s : State) :
    Reworked s (boundary closing pe order s) ∧ KeepsChecks s (boundary closing pe order s) := by
  obtain ⟨u, before, after⟩ := deferredItems_shape order (endPeriod closing pe s)
  have begun := begun_beginPeriod (deferredItems order (endPeriod closing pe s))
  have early := whole_servicedState closing pe s
  have contents := (sameContents_servicedState closing pe s).trans (sameContents_of_recordMoved before)
  have work := (work_of_recordMoved before).trans (servicedState_work closing pe s)
  have checks : KeepsChecks s u := (keepsChecks_of_whole (reached := (· ∈ earlyIds))
    (mark_of_work (servicedState_work closing pe s)) early not_early_check).trans
      (keepsChecks_of_monitor (work_of_recordMoved before) (monitor_of_recordMoved before))
  have laterWork := begun.work.trans (work_of_recordMoved after)
  have laterMonitor := begun.monitor.trans (monitor_of_recordMoved after)
  rw [boundary_eq]
  exact ⟨((reworked_applyAndVerify order.verifyFirst u).of_before contents work).of_work laterWork,
    (checks.trans (keepsChecks_applyAndVerify order.verifyFirst u)).trans (keepsChecks_of_monitor laterWork laterMonitor)⟩

/-! ### The deferred items -/

theorem entryMismatch_iff (grades : Vector (Option GradeEntry) 16) :
    grades.toList.any entryMismatch = true ↔
      ∃ (k : Fin 16) (e : GradeEntry), grades[k] = some e ∧ gradeEntryCode e.name e.alpha e.f e.rho ≠ e.code := by
  rw [List.any_eq_true]
  constructor
  · rintro ⟨entry, listed, differs⟩
    obtain ⟨k, inside, at_⟩ := List.getElem_of_mem listed
    rcases entry with _ | e
    · nomatch differs
    · refine ⟨⟨k, by simpa using inside⟩, e, ?_, of_decide_eq_true differs⟩
      simpa using at_
  · rintro ⟨k, e, at_, differs⟩
    refine ⟨some e, ?_, decide_eq_true differs⟩
    rw [← at_]
    simp

theorem mismatch_iff (s : State) (b : BlockId) :
    s.mismatch b = true ↔ s.contentsCode b ≠ s.storedCode b ∨
      b = .grades ∧ ∃ (k : Fin 16) (e : GradeEntry), s.store.grades[k] = some e ∧
        gradeEntryCode e.name e.alpha e.f e.rho ≠ e.code := by
  unfold State.mismatch
  rw [Bool.or_eq_true, decide_eq_true_iff]
  refine or_congr Iff.rfl ?_
  cases b with
  | grades => exact (entryMismatch_iff _).trans ⟨fun is => ⟨rfl, is⟩, fun is => is.2⟩
  | _ => exact ⟨nofun, fun is => nomatch is.1⟩

theorem commitPending_of_taken {s t : State} (taken : BlocksTaken s t) (b : BlockId) : t.commitPending b = false := by
  obtain ⟨station, prover, points, runs⟩ := taken
  cases b with
  | station => simp only [State.commitPending, station, takenSlot_pending, Option.isSome]
  | prover => simp only [State.commitPending, prover, takenSlot_pending, Option.isSome]
  | points => simp only [State.commitPending, points, takenSlot_pending, Option.isSome]
  | grades => rfl
  | run r => simp only [State.commitPending, runs, takenSlot_pending, Option.isSome]

theorem counting_fixedPulse_zeroCounts (p : RunPulse) : (fixedPulse (zeroCounts p)).counting =
    if p.a.lost = true ∧ p.b.lost = false then .b else .a := by
  have same : (p.a.lost && !p.b.lost) = decide (p.a.lost = true ∧ p.b.lost = false) := by
    cases p.a.lost <;> cases p.b.lost <;> rfl
  show (if p.a.lost && !p.b.lost then Channel.b else .a) = _
  rw [same]
  exact if_of_iff decide_eq_true_iff rfl rfl

/-- What any boundary performs of what was deferred to it, with what follows it. -/
theorem Bounded.deferred {closing : Bool} {pe : Nat} {s u t : State} (bounded : Bounded closing pe s u)
    (taken : BlocksTaken s u) (reworked : Reworked s u)
    (store : t.store = { u.store with
      record := t.store.record, history := t.store.history, provingCounter := t.store.provingCounter })
    (work : t.work = u.work) (totalizer : t.totalizer = u.totalizer) (counter : t.counter = u.counter)
    (counting : ∀ r, (t.runPulse r).counting = (u.runPulse r).counting) : Deferred s t := by
  have same : SameBlocks u t := by
    refine ⟨?_, ?_, ?_, ?_⟩
    all_goals rw [store]
  have takenBy := taken.of_same (.refl s) same
  have done := reworked.of_work work
  have stays := store.trans (congrArg (fun st : Store => { st with
    record := t.store.record, history := t.store.history, provingCounter := t.store.provingCounter }) bounded.store)
  have pending := commitPending_of_taken takenBy
  obtain ⟨station, prover, points, runs⟩ := takenBy
  refine ⟨fun r => ⟨?_, ?_, ?_, ?_, ?_, ?_⟩, ⟨?_, ?_⟩, ⟨?_, ?_⟩, ⟨?_, ?_⟩, fun b => ⟨pending b, ?_, ?_⟩, fun r => ?_, ?_,
    done.rotation, ?_, ?_⟩
  · rw [stays]
    dsimp only
    rw [PerRun.get_tab]
    rfl
  · rw [stays]
    dsimp only
    rw [PerRun.get_tab]
    rfl
  · rw [stays]
    exact PerRun.get_tab _ r
  · rw [stays]
    exact PerRun.get_tab _ r
  · unfold State.runBlock
    rw [runs, takenSlot_current]
    rfl
  · rw [runs, takenSlot_code]
  · unfold State.stationBlock
    rw [station, takenSlot_current]
    rfl
  · rw [station, takenSlot_code]
  · unfold State.proverBlock
    rw [prover, takenSlot_current]
    rfl
  · rw [prover, takenSlot_code]
  · unfold State.pointsBlock
    rw [points, takenSlot_current]
    rfl
  · rw [points, takenSlot_code]
  · rw [done.staged, Bool.and_eq_true, Bool.not_eq_true']
  · rw [done.mark, Bool.and_eq_true, Bool.not_eq_true', Bool.or_eq_true, Bool.and_eq_true, decide_eq_true_iff,
      mismatch_iff]
  · rw [counting]
    unfold State.runPulse
    rw [bounded.pulse]
    dsimp only
    rw [PerRun.get_tab]
    exact counting_fixedPulse_zeroCounts _
  · rw [stays]
  · have block : t.stationBlock = u.stationBlock := congrArg Slot.current same.1
    rw [block, totalizer, bounded.totalizer]
  · rw [totalizer, bounded.totalizer, counter]

theorem AfterBoundary.work {s u t : State} (after : AfterBoundary s u t) : t.work = u.work := by
  rw [after.granted]
  rfl

theorem AfterBoundary.counter {s u t : State} (after : AfterBoundary s u t) : t.counter = u.counter := by
  rw [after.granted]
  rfl

theorem deferred_of_later {dt : Nat} {s t : State} (deferred : Deferred (later dt s) t) : Deferred s t := by
  unfold Deferred at deferred ⊢
  exact deferred

theorem deferred_afterBoundary {order : BoundaryOrder} {s t : State}
    (after : AfterBoundary s (boundary false (periodCounts s) order s) t) : Deferred s t := by
  refine after.bounded.deferred (boundary_taken _ _ _ _) (reworked_boundary _ _ _ _).1 after.store after.work
    after.totalizer after.counter fun r => ?_
  unfold State.runPulse
  rw [after.pulse]

theorem followsMarks_later (dt : Nat) (s : State) (b : BlockId) : FollowsMarks (later dt s) b ↔ FollowsMarks s b := by
  cases b <;> exact Iff.rfl

/-- Settles O34: the deferred items of a boundary, and the conditions that follow the marks. -/
theorem boundaryPerformsDeferredItems : Obligations.BoundaryPerformsDeferredItems := by
  intro dt order s running ends any
  have after := afterBoundary_settle order (later dt s) s
  have checks : KeepsChecks (later dt s) (settle s (madeBoundary order (later dt s))) :=
    (reworked_boundary _ _ _ _).2.trans (keepsChecks_of_monitor after.work after.monitor)
  have kept (b : BlockId) (follows : FollowsMarks s b) : FollowsMarks (settle s (madeBoundary order (later dt s))) b :=
    checks b ((followsMarks_later dt s b).mpr follows)
  exact ⟨_, periodBoundary_of_ends running ends, deferred_of_later (deferred_afterBoundary after),
    fun r => kept (.run r), kept .station⟩

end Sys2Proof.Proofs
end

section
/-! What the judgements of a boundary do to the permit line and to the record holding the prover, each step the same way. -/

namespace Sys2Proof.Proofs

open Sys2Proof Sys2Proof.Machine Sys2Proof.Safety Sys2Proof.Stated Sys2Proof.Laws

/-! ### Marks on a round -/

theorem marked_marked (flow flow' degraded degraded' : Bool) (x : ProvingRecord) :
    marked flow' degraded' (marked flow degraded x) = marked (flow || flow') (degraded || degraded') x := by
  obtain ⟨number, request, grade, k, vb, gamma, g, chain, granted, state, timerStart, cause, ended, attempts, accepted,
    rounds, current, result, decision, decided⟩ := x
  cases current <;> simp [marked, Bool.or_assoc]

theorem marked_false_false (x : ProvingRecord) : marked false false x = x := by
  obtain ⟨number, request, grade, k, vb, gamma, g, chain, granted, state, timerStart, cause, ended, attempts, accepted,
    rounds, current, result, decision, decided⟩ := x
  cases current <;> simp [marked]

/-- d tells whether a run came to a state that is not SOUND on the way from s to t (R55, R112). -/
structure Degrades (r : Run) (d : Bool) (s t : State) : Prop where
  keeps : s.totalizer.unsound.get r = true → t.totalizer.unsound.get r = true
  none_ : t.totalizer.unsound.get r = false → d = false
  marks : s.totalizer.unsound.get r = false → t.totalizer.unsound.get r = true → d = true
  leaves : s.integrity r = .sound → t.integrity r ≠ .sound → d = true

theorem Degrades.trans {r : Run} {d d' : Bool} {s t u : State} (h : Degrades r d s t) (k : Degrades r d' t u) :
    Degrades r (d || d') s u where
  keeps was := k.keeps (h.keeps was)
  none_ clean := by
    have middle : t.totalizer.unsound.get r = false := by
      refine Classical.byContradiction fun marked_ => ?_
      rw [k.keeps (by simpa using marked_)] at clean
      nomatch clean
    rw [h.none_ middle, k.none_ clean]
    rfl
  marks was now := by
    cases middle : t.totalizer.unsound.get r with
    | true => rw [h.marks was middle, Bool.true_or]
    | false => rw [k.marks middle now, Bool.or_true]
  leaves was now := by
    by_cases middle : t.integrity r = .sound
    · rw [k.leaves middle now, Bool.or_true]
    · rw [h.leaves was middle, Bool.true_or]

theorem Degrades.of_same {r : Run} {s t : State} (unsound : t.totalizer.unsound = s.totalizer.unsound)
    (integrity : t.integrity r = s.integrity r) : Degrades r false s t where
  keeps was := by rw [unsound, was]
  none_ _ := rfl
  marks was now := by
    rw [unsound, was] at now
    nomatch now
  leaves was now := absurd (integrity.trans was) now

/-- The record holding the prover in s has in t its round marked where its run came to be DEGRADED. -/
def MarksRound (s t : State) : Prop :=
  ∀ x, s.store.record = some x → ∃ d, t.store.record = some (marked false d x) ∧ t.store.history = s.store.history ∧
    Degrades x.request.run d s t

theorem MarksRound.trans {s t u : State} (h : MarksRound s t) (k : MarksRound t u) : MarksRound s u := by
  intro x held
  obtain ⟨d, record, history, degrades⟩ := h x held
  obtain ⟨d', record', history', degrades'⟩ := k _ record
  refine ⟨d || d', ?_, history'.trans history, degrades.trans degrades'⟩
  rw [record', marked_marked]
  rfl

/-- The record's run comes from one integrity state to another that is not FAILED, and the round is marked by it. -/
theorem marks_of_change {s t : State} {x : ProvingRecord} (held : s.store.record = some x)
    (mark : t.totalizer.unsound.get x.request.run = (s.totalizer.unsound.get x.request.run ||
      decide (t.integrity x.request.run ≠ s.integrity x.request.run ∧ t.integrity x.request.run ≠ .sound)))
    (store : t.store.record = (if t.integrity x.request.run = s.integrity x.request.run ∨
        t.integrity x.request.run = .sound then s.store.record else some (marked false true x)) ∧
      t.store.history = s.store.history) :
    ∃ d, t.store.record = some (marked false d x) ∧ t.store.history = s.store.history ∧
      Degrades x.request.run d s t := by
  obtain ⟨record, history⟩ := store
  split at record
  next stays =>
    have none_ : decide (t.integrity x.request.run ≠ s.integrity x.request.run ∧ t.integrity x.request.run ≠ .sound) =
        false := decide_eq_false fun is => stays.elim is.1 is.2
    rw [none_, Bool.or_false] at mark
    refine ⟨false, ?_, history, ⟨fun was => by rw [mark, was], fun _ => rfl, fun was now => ?_, fun was now => ?_⟩⟩
    · rw [record, held, marked_false_false]
    · rw [mark, was] at now
      nomatch now
    · exact absurd (stays.elim (fun same => same.trans was) id) now
  next changed =>
    have all : decide (t.integrity x.request.run ≠ s.integrity x.request.run ∧ t.integrity x.request.run ≠ .sound) =
        true := decide_eq_true (not_or.mp changed)
    rw [all, Bool.or_true] at mark
    refine ⟨true, record, history, ⟨fun _ => mark, fun clean => ?_, fun _ _ => rfl, fun _ _ => rfl⟩⟩
    rw [mark] at clean
    nomatch clean

/-- A change of integrity states handed on, with no run FAILED (R55, R112). -/
theorem marksRound_of_followed {s t : State} (followed : Followed s t) (sound : ∀ r, t.integrity r ≠ .failed) :
    MarksRound s t := by
  intro x held
  obtain ⟨marks, store⟩ := followed
  rw [held] at store
  dsimp only at store
  refine marks_of_change held (marks _) ?_
  split
  next stays =>
    rw [if_pos stays] at store
    rw [store]
    exact ⟨rfl, rfl⟩
  next changed =>
    rw [if_neg changed, if_neg (sound _)] at store
    rw [store]
    exact ⟨rfl, rfl⟩

/-! ### No class TRIP -/

theorem notFailed_of_noTrip {s : State} (calm : NoTrip s) (r : Run) : s.integrity r ≠ .failed := by
  obtain ⟨classes, -, inactive⟩ := calm
  intro failed
  obtain ⟨i, -, active, class_⟩ := (integrityStates s r).1.mp failed
  rw [classes i class_, inactive] at active
  nomatch active

/-- NoTrip, by the STATION block's slot and the records that can only have become inactive. -/
theorem noTrip_of_block {s t : State} (calm : NoTrip s) (block : t.store.station = s.store.station)
    (lost : t.active (.station .retentionLost) = true → s.active (.station .retentionLost) = true) : NoTrip t := by
  obtain ⟨classes, coming, inactive⟩ := calm
  have current : t.stationBlock = s.stationBlock := congrArg Slot.current block
  refine ⟨by rw [current]; exact classes, by rw [block]; exact coming, ?_⟩
  refine Classical.byContradiction fun active => ?_
  rw [lost (by simpa using active)] at inactive
  nomatch inactive

/-! ### The permit line -/

/-- The part does not release the line at this instant, or would read it low (R149, R153). -/
def Shut (s : State) : Prop := s.monitor.withdrawn = false ∨ s.monitor.hold.isSome = true ∨ s.lines.permitHigh = false

/-- A release leaves EXTERNAL_TRIP where the part is shut. -/
theorem shut_releaseIfFree {s : State} (shut : Shut s) :
    Shut (releaseIfFree s) ∧ (releaseIfFree s).monitor.table = s.monitor.table := by
  by_cases may : MayRelease s
  · have low : s.lines.permitHigh = false := by
      obtain ⟨withdrawn, hold, -⟩ := may
      rcases shut with is | is | is
      · rw [withdrawn] at is; nomatch is
      · rw [hold] at is; nomatch is
      · exact is
    rw [releaseIfFree_of_mayRelease may]
    unfold release readLine
    dsimp only
    rw [if_neg (by
      rw [show (s.withMonitor { s.monitor with withdrawn := false }).lines.permitHigh = false from low]
      nofun)]
    exact ⟨.inr (.inr low), rfl⟩
  · rw [releaseIfFree_of_not_mayRelease may]
    exact ⟨shut, rfl⟩

/-! ### A step of a boundary -/

/-- What each step of a boundary that judges keeps: a free prover stays free; EXTERNAL_TRIP does not become active, and
stays where the part is shut; where no class TRIP can be active, the permit state stays, and a record's round is marked
where its run comes to be DEGRADED. -/
structure Passes (s t : State) : Prop where
  free : s.store.record = none → t.store.record = none ∧ t.store.history = s.store.history
  rise : t.active (.station .externalTrip) = true → s.active (.station .externalTrip) = true
  shut : Shut s → Shut t ∧ t.monitor.table.get (.station .externalTrip) = s.monitor.table.get (.station .externalTrip)
  calm : NoTrip s → NoTrip t
  permit : NoTrip s → s.monitor.withdrawn = false → t.monitor = { s.monitor with table := t.monitor.table }
  marks : NoTrip s → MarksRound s t

theorem Passes.trans {s t u : State} (h : Passes s t) (k : Passes t u) : Passes s u where
  free free := ⟨(k.free (h.free free).1).1, (k.free (h.free free).1).2.trans (h.free free).2⟩
  rise active := h.rise (k.rise active)
  shut shut := ⟨(k.shut (h.shut shut).1).1, (k.shut (h.shut shut).1).2.trans (h.shut shut).2⟩
  calm calm := k.calm (h.calm calm)
  permit calm closed := by
    have first := h.permit calm closed
    rw [k.permit (h.calm calm) (by rw [first]; exact closed), first]
  marks calm := (h.marks calm).trans (k.marks (h.calm calm))

/-- A step that judges nothing. -/
theorem Passes.of_frame {s t : State} (monitor : t.monitor = s.monitor) (lines : t.lines = s.lines)
    (block : t.store.station = s.store.station) (unsound : t.totalizer.unsound = s.totalizer.unsound)
    (record : t.store.record = s.store.record) (history : t.store.history = s.store.history) : Passes s t where
  free free := ⟨record.trans free, history⟩
  rise active := by rwa [active_of_monitor monitor] at active
  shut shut := by
    unfold Shut at shut ⊢
    rw [monitor, lines]
    exact ⟨shut, rfl⟩
  calm calm := noTrip_of_block calm block fun active => by rwa [active_of_monitor monitor] at active
  permit _ _ := by rw [monitor]
  marks _ x held := ⟨false, by rw [record, held, marked_false_false], history,
    .of_same unsound (integrity_congr (congrArg _ monitor) (congrArg Slot.current block) _)⟩

theorem Passes.refl (s : State) : Passes s s := .of_frame rfl rfl rfl rfl rfl rfl

theorem Passes.foldl {α : Type} (f : State → α → State) (one : ∀ s x, Passes s (f s x)) (l : List α) (s : State) :
    Passes s (l.foldl f s) := by
  induction l generalizing s with
  | nil => exact .refl s
  | cons x rest ih => exact (one s x).trans (ih _)

theorem free_of_followed {s t : State} (followed : Followed s t) (free : s.store.record = none) : t.store = s.store := by
  have store := followed.2
  rwa [free] at store

theorem passes_releaseIfFree (s : State) : Passes s (releaseIfFree s) where
  free free := by
    rw [free_of_followed (followed_releaseIfFree s) free]
    exact ⟨free, rfl⟩
  rise active := active_of_releaseIfFree active
  shut shut := ⟨(shut_releaseIfFree shut).1, by rw [(shut_releaseIfFree shut).2]⟩
  calm calm := noTrip_of_block calm (by rw [(judged_releaseIfFree s).store]) active_of_releaseIfFree
  permit _ closed := by
    rw [releaseIfFree_of_not_mayRelease fun may => by
      rw [may.1] at closed
      nomatch closed]
  marks calm := marksRound_of_followed (followed_releaseIfFree s)
    (notFailed_of_noTrip (noTrip_of_block calm (by rw [(judged_releaseIfFree s).store]) active_of_releaseIfFree))

theorem passes_setCondition {i : ConditionId} {on : Bool} {s : State} (notTrip : i ≠ .station .externalTrip)
    (notLost : i ≠ .station .retentionLost) : Passes s (setCondition i on s) := by
  have calms (calm : NoTrip s) : NoTrip (setCondition i on s) :=
    noTrip_of_block calm (by rw [(judged_setCondition i on s).store]) fun active => by
      rwa [setCondition_active_other (Ne.symm notLost)] at active
  refine ⟨fun free => ?_, fun active => ?_, fun shut => ?_, calms, fun _ _ => ?_, fun calm => ?_⟩
  · rw [free_of_followed (followed_setCondition i on s) free]
    exact ⟨free, rfl⟩
  · rwa [setCondition_active_other (Ne.symm notTrip)] at active
  · unfold Shut at shut ⊢
    rw [setCondition_withdrawn, setCondition_hold, (judged_setCondition i on s).lines]
    exact ⟨shut, setCondition_get_other (Ne.symm notTrip) on s⟩
  · by_cases agrees : s.active i = on
    · rw [setCondition_of_agrees agrees]
    · rw [setCondition_monitor agrees]
  · exact marksRound_of_followed (followed_setCondition i on s) (notFailed_of_noTrip (calms calm))

theorem passes_withdraw {s : State} (lost : NoTrip s → False) : Passes s (withdraw s) where
  free free := ⟨free, rfl⟩
  rise active := active
  shut _ := ⟨.inr (.inl rfl), rfl⟩
  calm calm := absurd calm lost
  permit calm _ := absurd calm lost
  marks calm := absurd calm lost

/-- A judgement of any record but EXTERNAL_TRIP and RETENTION_LOST. -/
theorem passes_judge {i : ConditionId} {on : Bool} {s : State} (notTrip : i ≠ .station .externalTrip)
    (notLost : i ≠ .station .retentionLost) : Passes s (judge i on s) := by
  have set := passes_setCondition (i := i) (on := on) (s := s) notTrip notLost
  by_cases agrees : s.active i = on
  · rw [judge_of_agrees i on s agrees]
    exact .refl s
  · cases on with
    | true =>
      rw [judge_on (by simpa using agrees)]
      split
      next class_ =>
        refine set.trans (passes_withdraw fun calm => notLost ?_)
        refine calm.1 i ?_
        rw [(judged_setCondition i true s).stationBlock]
        exact class_
      · exact set
    | false =>
      rw [judge_off (by simpa using agrees)]
      exact set.trans (passes_releaseIfFree _)

theorem passes_judgeAll (l : List (ConditionId × Bool)) (notTrip : .station .externalTrip ∉ l.map (·.1))
    (notLost : .station .retentionLost ∉ l.map (·.1)) (s : State) : Passes s (judgeAll l s) := by
  induction l generalizing s with
  | nil => exact .refl s
  | cons j rest ih =>
    rw [List.map_cons, List.mem_cons, not_or] at notTrip notLost
    exact (passes_judge (Ne.symm notTrip.1) (Ne.symm notLost.1)).trans (ih notTrip.2 notLost.2 _)

/-- The judgements at the end of a period. -/
theorem passes_judgedState (closing : Bool) (pe : Nat) (s : State) : Passes s (judgedState closing pe s) := by
  have ids := (endJudgements_ids closing (PerRun.tab (periodFigures closing pe s)) s).subset
  rw [judgedState_eq]
  refine passes_judgeAll _ (fun is => ?_) (fun is => ?_) s
  · exact absurd (ids is) (by decide)
  · exact absurd (ids is) (by decide)

/-! ### The steps of the sequencer -/

theorem passes_closeBatch (cause : CloseCause) (s : State) : Passes s (closeBatch cause s) := by
  rw [closeBatch_frame]
  exact .of_frame rfl rfl rfl rfl rfl rfl

theorem passes_startBatch (s : State) : Passes s (startBatch s) := by
  rw [startBatch_frame]
  exact .of_frame rfl rfl rfl rfl rfl rfl

theorem passes_compareNomination (s : State) : Passes s (compareNomination s) := by
  unfold compareNomination
  split
  · exact .refl s
  · exact .of_frame rfl rfl rfl rfl rfl rfl

theorem passes_withChange (s : State) (x : BatchChange) : Passes s (s.withChange x) := .of_frame rfl rfl rfl rfl rfl rfl

theorem passes_full (on : Bool) (s : State) : Passes s (judge (.station .ticketStoreFull) on s) :=
  passes_judge nofun nofun

theorem passes_sequence (s : State) : Passes s (Machine.sequence s).1 := by
  have compared := passes_compareNomination s
  unfold Machine.sequence
  dsimp only
  generalize compareNomination s = u at compared
  have done := compared.trans (passes_withChange u .none)
  have closed (cause : CloseCause) :
      Passes s (judge (.station .ticketStoreFull) false (closeBatch cause (u.withChange .none))) :=
    (done.trans (passes_closeBatch cause _)).trans (passes_full _ _)
  split
  · exact done.trans (passes_startBatch _)
  · exact closed _
  · exact (closed _).trans (passes_startBatch _)
  · split
    · exact compared
    · split
      · split
        · exact (compared.trans (passes_closeBatch _ _)).trans (passes_full _ _)
        · exact compared.trans (passes_full _ _)
      · exact compared

/-! ### The steps of the configuration unit -/

theorem checkCondition_ne_lost (b : BlockId) : checkCondition b ≠ .station .retentionLost := by
  cases b <;> nofun

theorem passes_check (b : BlockId) (on : Bool) (s : State) : Passes s (judge (checkCondition b) on s) :=
  passes_judge (checkCondition_ne_trip b) (checkCondition_ne_lost b)

theorem passes_withWork (s : State) (x : ConfigWork) : Passes s (s.withWork x) := .of_frame rfl rfl rfl rfl rfl rfl

theorem passes_withScanner (s : State) (x : Scanner) : Passes s (s.withScanner x) := .of_frame rfl rfl rfl rfl rfl rfl

theorem passes_setMark (b : BlockId) (x : Bool) (s : State) : Passes s (setMark b x s) := by
  cases b <;> exact passes_withWork s _

theorem passes_clearMark (b : BlockId) (s : State) : Passes s (clearMark b s) := by
  have set := passes_setMark b false s
  rw [clearMark_eq]
  split
  · split
    · exact set.trans (passes_check _ _ _)
    · exact set
  · exact .refl s

theorem passes_verifyBlock (b : BlockId) (s : State) : Passes s (verifyBlock b s) := by
  unfold verifyBlock
  split
  · exact (passes_setMark b true s).trans (passes_check _ _ _)
  · exact .refl s

/-- The new PROVER block in force, its staged copy gone, before its mark is cleared. -/
def takenProver (x : ProverBlock) (s : State) : State :=
  let slot : Slot ProverBlock := { current := x, pending := none, code := proverBlockCode x }
  (s.withStore { s.store with prover := slot }).withWork { s.work with stagedProver := none }

theorem passes_applyProver (s : State) : Passes s (applyProver s) := by
  unfold applyProver
  split
  · exact .refl s
  next x pending =>
    have taken : Passes s (takenProver x s) := .of_frame rfl rfl rfl rfl rfl rfl
    exact taken.trans (passes_clearMark _ _)

theorem passes_scannerTakesPoints (s : State) : Passes s (scannerTakesPoints s) := by
  unfold scannerTakesPoints
  rw [nextConversion_eq]
  exact (passes_withScanner _ _).trans (passes_withScanner _ _)

/-- The new POINTS block in force, its staged copy gone, before the scanner takes it. -/
def takenPoints (x : PointsBlock) (s : State) : State :=
  let slot : Slot PointsBlock := { current := x, pending := none, code := pointsBlockCode x }
  (s.withStore { s.store with points := slot }).withWork { s.work with stagedPoints := none }

theorem applyPoints_of_some {s : State} {x : PointsBlock} (some_ : s.store.points.pending = some x) :
    applyPoints s = clearMark .points (scannerTakesPoints (takenPoints x s)) := by
  unfold applyPoints
  rw [some_]
  rfl

theorem applyPoints_of_none {s : State} (none_ : s.store.points.pending = none) : applyPoints s = s := by
  unfold applyPoints
  rw [none_]

theorem passes_applyPoints (s : State) : Passes s (applyPoints s) := by
  rcases pending : s.store.points.pending with _ | x
  · rw [applyPoints_of_none pending]
    exact .refl s
  · rw [applyPoints_of_some pending]
    have taken : Passes s (takenPoints x s) := .of_frame rfl rfl rfl rfl rfl rfl
    exact (taken.trans (passes_scannerTakesPoints _)).trans (passes_clearMark _ _)

theorem passes_takenRun (r : Run) (x : RunBlock) (s : State) : Passes s (takenRun r x s) :=
  .of_frame rfl rfl rfl rfl rfl rfl

theorem passes_applyRun (s : State) (r : Run) : Passes s (applyRun s r) := by
  rcases pending : (s.store.runBlocks.get r).pending with _ | x
  · rw [applyRun_of_none pending]
    exact .refl s
  · rw [applyRun_of_some pending]
    have cleared := (passes_takenRun r x s).trans (passes_clearMark (.run r) _)
    dsimp only
    split
    · exact cleared
    · exact cleared.trans (passes_judge nofun nofun)

/-! ### New classes (R144) -/

/-- The new STATION block in force, its staged copy gone, before its classes are. -/
def takenStation (x : StationBlock) (s : State) : State :=
  let slot : Slot StationBlock := { current := x, pending := none, code := stationBlockCode x }
  (s.withStore { s.store with station := slot }).withWork { s.work with stagedStation := none }

theorem applyStation_of_some {s : State} {x : StationBlock} (some_ : s.store.station.pending = some x) :
    applyStation s = clearMark .station (applyClasses s.stationBlock s.integrities (takenStation x s)) := by
  unfold applyStation
  rw [some_]
  rfl

theorem applyStation_of_none {s : State} (none_ : s.store.station.pending = none) : applyStation s = s := by
  unfold applyStation
  rw [none_]

section Classes

variable {s : State} {x : StationBlock}

theorem noTrip_takenStation (calm : NoTrip s) (some_ : s.store.station.pending = some x) : NoTrip (takenStation x s) :=
  ⟨calm.2.1 x some_, nofun, calm.2.2⟩

/-- The integrity states derived afresh, handed on. -/
theorem passes_handed (some_ : s.store.station.pending = some x) :
    Passes s (handChanges s.integrities (takenStation x s)) := by
  have monitor : (handChanges s.integrities (takenStation x s)).monitor = s.monitor := handChanges_monitor _ _
  have judged := judged_handChanges s.integrities (takenStation x s)
  have calms (calm : NoTrip s) : NoTrip (handChanges s.integrities (takenStation x s)) :=
    noTrip_of_block (noTrip_takenStation calm some_) (by rw [judged.store]) fun active => by
      rwa [active_of_monitor monitor] at active
  refine ⟨fun free => ?_, fun active => ?_, fun shut => ?_, calms, fun _ _ => by rw [monitor], fun calm y held => ?_⟩
  · rw [handChanges_store_of_none _ (s := takenStation x s) free]
    exact ⟨free, rfl⟩
  · rwa [active_of_monitor monitor] at active
  · have lines : (handChanges s.integrities (takenStation x s)).lines = s.lines := judged.lines
    unfold Shut at shut ⊢
    rw [monitor, lines]
    exact ⟨shut, rfl⟩
  · have store := handChanges_store_of_record s.integrities (s := takenStation x s) (x := y) held
    have unsound := handChanges_unsound s.integrities (takenStation x s) y.request.run
    have integrity := handChanges_integrity s.integrities (takenStation x s) y.request.run
    have notFailed := notFailed_of_noTrip (noTrip_takenStation calm some_) y.request.run
    have states : s.integrities.get y.request.run = s.integrity y.request.run := PerRun.get_tab _ _
    rw [← integrity, states] at store unsound
    rw [← integrity] at notFailed
    refine marks_of_change held unsound ?_
    rw [store]
    unfold followedStore
    split
    · exact ⟨rfl, rfl⟩
    · exact ⟨rfl, rfl⟩

end Classes

theorem passes_applyStation (s : State) : Passes s (applyStation s) := by
  rcases pending : s.store.station.pending with _ | x
  · rw [applyStation_of_none pending]
    exact .refl s
  · rw [applyStation_of_some pending]
    have handed := passes_handed pending
    refine Passes.trans ?_ (passes_clearMark .station _)
    unfold applyClasses
    dsimp only
    split
    next withdraws =>
      refine handed.trans (passes_withdraw fun calm => ?_)
      obtain ⟨i, -, trips⟩ := List.any_eq_true.mp withdraws
      rw [Bool.and_eq_true, Bool.and_eq_true, decide_eq_true_iff] at trips
      obtain ⟨⟨active, class_⟩, -⟩ := trips
      rw [calm.1 i class_, calm.2.2] at active
      nomatch active
    · exact handed.trans (passes_releaseIfFree _)

theorem passes_applyBlocks (s : State) : Passes s (applyBlocks s) :=
  (((passes_applyStation s).trans (passes_applyProver _)).trans (passes_applyPoints _)).trans
    (.foldl _ passes_applyRun _ _)

theorem passes_applyAndVerify (verifyFirst : Bool) (s : State) : Passes s (applyAndVerify verifyFirst s) := by
  unfold applyAndVerify
  dsimp only
  split
  · exact ((passes_verifyBlock _ _).trans (passes_applyBlocks _)).trans (passes_withWork _ _)
  · exact ((passes_applyBlocks _).trans (passes_verifyBlock _ _)).trans (passes_withWork _ _)

end Sys2Proof.Proofs
end

section
/-! The closing boundary of a power-fail warning, and the HALTED state. -/

namespace Sys2Proof.Proofs

open Sys2Proof Sys2Proof.Machine Sys2Proof.Safety Sys2Proof.Stated Sys2Proof.Laws

/-! ### A boundary with a free prover -/

theorem boundaryAbort_of_none {s : State} (free : s.store.record = none) (want : EndCause) (causes : List EndCause) :
    boundaryAbort want causes s = s := by
  unfold boundaryAbort
  split
  · exact abortRecord_of_none free _
  · rfl

theorem checkStability_of_none {s : State} (free : s.store.record = none) : checkStability s = s := by
  unfold checkStability
  rw [free]

/-- The prover is free in t, its history as in s. -/
def StaysFree (s t : State) : Prop := t.store.record = none ∧ t.store.history = s.store.history

theorem StaysFree.trans {s t u : State} (h : StaysFree s t) (k : StaysFree t u) : StaysFree s u :=
  ⟨k.1, k.2.trans h.2⟩

theorem staysFree_servicedState (e : State) (free : (sequencedState e).store.record = none) :
    StaysFree (sequencedState e) (servicedState e) := by
  rw [servicedState_eq]
  generalize sequencedState e = q at free
  exact ⟨free, rfl⟩

theorem staysFree_deferredItems {e : State} (order : BoundaryOrder) (free : e.store.record = none) :
    StaysFree e (deferredItems order e) := by
  have sequenced : StaysFree e (sequencedState e) := by
    unfold sequencedState
    rw [checkStability_of_none free]
    exact (passes_sequence e).free free
  have serviced := sequenced.trans (staysFree_servicedState e sequenced.1)
  have applied (u : State) (stays : StaysFree e u) : StaysFree e (applyAndVerify order.verifyFirst u) :=
    stays.trans ((passes_applyAndVerify _ u).free stays.1)
  by_cases first : order.causeFirst = .runFailed
  · rw [deferredItems_of_failedFirst first]
    dsimp only
    rw [boundaryAbort_of_none (applied _ serviced).1, ite_self]
    exact applied _ serviced
  · rw [deferredItems_of_other first, boundaryAbort_of_none serviced.1]
    exact applied _ serviced

theorem endPeriod_record (closing : Bool) (pe : Nat) (s : State) :
    (endPeriod closing pe s).store.record = (judgedState closing pe s).store.record ∧
    (endPeriod closing pe s).store.history = (judgedState closing pe s).store.history := by
  have store := (ended_endPeriod closing pe s).store
  refine ⟨?_, ?_⟩
  all_goals rw [store]

theorem staysFree_boundary {s : State} (closing : Bool) (pe : Nat) (order : BoundaryOrder) (free : s.store.record = none) :
    StaysFree s (boundary closing pe order s) := by
  have judged := (passes_judgedState closing pe s).free free
  have ended : StaysFree s (endPeriod closing pe s) := ⟨(endPeriod_record closing pe s).1.trans judged.1,
    (endPeriod_record closing pe s).2.trans judged.2⟩
  have deferred := ended.trans (staysFree_deferredItems order ended.1)
  have begun := (begun_beginPeriod (deferredItems order (endPeriod closing pe s))).store
  rw [boundary_eq]
  refine deferred.trans ⟨?_, ?_⟩
  · rw [begun, deferred.1]
    rfl
  · rw [begun]

/-! ### The scanner (R39) -/

/-- t has the scanner, the POINTS block and the timing counter of s. -/
structure SameScanner (s t : State) : Prop where
  scanner : t.scanner = s.scanner
  points : t.store.points = s.store.points
  counter : t.counter = s.counter

theorem SameScanner.trans {s t u : State} (h : SameScanner s t) (k : SameScanner t u) : SameScanner s u :=
  ⟨k.scanner.trans h.scanner, k.points.trans h.points, k.counter.trans h.counter⟩

theorem SameScanner.refl (s : State) : SameScanner s s := ⟨rfl, rfl, rfl⟩

theorem SameScanner.of_judged {s t : State} (judged : Judged s t) : SameScanner s t :=
  ⟨judged.scanner, by rw [judged.store], judged.counter⟩

theorem sameScanner_setMark (b : BlockId) (x : Bool) (s : State) : SameScanner s (setMark b x s) := by
  cases b <;> exact ⟨rfl, rfl, rfl⟩

theorem sameScanner_clearMark (b : BlockId) (s : State) : SameScanner s (clearMark b s) := by
  have set := sameScanner_setMark b false s
  rw [clearMark_eq]
  split
  · split
    · exact set.trans (.of_judged (judged_judge _ _ _))
    · exact set
  · exact .refl s

theorem sameScanner_verifyBlock (b : BlockId) (s : State) : SameScanner s (verifyBlock b s) := by
  unfold verifyBlock
  split
  · exact (sameScanner_setMark b true s).trans (.of_judged (judged_judge _ _ _))
  · exact .refl s

theorem sameScanner_applyStation (s : State) : SameScanner s (applyStation s) := by
  rcases pending : s.store.station.pending with _ | x
  · rw [applyStation_of_none pending]
    exact .refl s
  · rw [applyStation_of_some pending]
    have taken : SameScanner s (takenStation x s) := ⟨rfl, rfl, rfl⟩
    exact (taken.trans (.of_judged (judged_applyClasses _ _ _))).trans (sameScanner_clearMark _ _)

theorem sameScanner_applyProver (s : State) : SameScanner s (applyProver s) := by
  unfold applyProver
  split
  · exact .refl s
  next x pending =>
    have taken : SameScanner s (takenProver x s) := ⟨rfl, rfl, rfl⟩
    exact taken.trans (sameScanner_clearMark _ _)

theorem sameScanner_applyRun (s : State) (r : Run) : SameScanner s (applyRun s r) := by
  rcases pending : (s.store.runBlocks.get r).pending with _ | x
  · rw [applyRun_of_none pending]
    exact .refl s
  · rw [applyRun_of_some pending]
    have taken : SameScanner s (takenRun r x s) := ⟨rfl, rfl, rfl⟩
    have cleared := taken.trans (sameScanner_clearMark (.run r) _)
    dsimp only
    split
    · exact cleared
    · exact cleared.trans (.of_judged (judged_judge _ _ _))

theorem sameScanner_applyRuns (s : State) : SameScanner s (allRuns.foldl applyRun s) :=
  (((sameScanner_applyRun s .r1).trans (sameScanner_applyRun _ .r2)).trans (sameScanner_applyRun _ .r3)).trans
    (sameScanner_applyRun _ .r4)

/-- The scanner turned to the list of the POINTS block in force in t: at its head, a conversion in progress moving it no
longer, an IDLE converter started. -/
def turned (x : Scanner) (t : State) : Scanner :=
  { x with position := 0, converter := if x.converter.isSome then x.converter.map fun c => { c with moves := false }
                                       else starts x.active 0 t }

/-- What a boundary does to the scanner, by whether a POINTS block comes (R39). -/
def ScannerTurned (s t : State) : Prop :=
  (s.store.points.pending = none → t.scanner = s.scanner) ∧
  (s.store.points.pending ≠ none → t.scanner = turned s.scanner t)

theorem turned_congr {t u : State} (same : SameScanner t u) (x : Scanner) : turned x u = turned x t := by
  unfold turned
  rw [starts_congr same.points same.counter]

theorem ScannerTurned.of_same {s s' t t' : State} (before : SameScanner s s') (turned_ : ScannerTurned s' t')
    (after : SameScanner t' t) : ScannerTurned s t := by
  obtain ⟨stays, turns⟩ := turned_
  rw [before.points, before.scanner] at stays turns
  refine ⟨fun none_ => after.scanner.trans (stays none_), fun some_ => ?_⟩
  rw [turned_congr after]
  exact after.scanner.trans (turns some_)

theorem scannerTurned_scannerTakesPoints (s : State) : (scannerTakesPoints s).scanner = turned s.scanner s := by
  unfold scannerTakesPoints turned
  rw [nextConversion_eq]
  rcases busy : s.scanner.converter with _ | c
  · rfl
  · rfl

theorem sameScanner_scannerTakesPoints (s : State) : (scannerTakesPoints s).store = s.store ∧
    (scannerTakesPoints s).counter = s.counter := by
  unfold scannerTakesPoints
  rw [nextConversion_eq]
  exact ⟨rfl, rfl⟩

theorem scannerTurned_applyPoints (s : State) : ScannerTurned s (applyPoints s) := by
  rcases pending : s.store.points.pending with _ | x
  · rw [applyPoints_of_none pending]
    exact ⟨fun _ => rfl, fun some_ => absurd pending some_⟩
  · rw [applyPoints_of_some pending]
    have cleared := sameScanner_clearMark .points (scannerTakesPoints (takenPoints x s))
    have taken := sameScanner_scannerTakesPoints (takenPoints x s)
    refine ⟨fun none_ => (by rw [pending] at none_; nomatch none_), fun _ => ?_⟩
    have block := cleared.points.trans (congrArg Store.points taken.1)
    rw [cleared.scanner, scannerTurned_scannerTakesPoints]
    unfold turned
    rw [starts_congr block (cleared.counter.trans taken.2)]
    rfl

theorem scannerTurned_applyBlocks (s : State) : ScannerTurned s (applyBlocks s) :=
  .of_same ((sameScanner_applyStation s).trans (sameScanner_applyProver _)) (scannerTurned_applyPoints _)
    (sameScanner_applyRuns _)

theorem scannerTurned_applyAndVerify (verifyFirst : Bool) (s : State) :
    ScannerTurned s (applyAndVerify verifyFirst s) := by
  have rotated (u : State) (b : BlockId) : SameScanner u (u.withWork { u.work with rotation := b }) := ⟨rfl, rfl, rfl⟩
  unfold applyAndVerify
  dsimp only
  split
  · exact .of_same (sameScanner_verifyBlock _ _) (scannerTurned_applyBlocks _) (rotated _ _)
  · exact .of_same (.refl s) (scannerTurned_applyBlocks s) ((sameScanner_verifyBlock _ _).trans (rotated _ _))

theorem sameScanner_of_recordMoved {s t : State} (moved : RecordMoved s t) : SameScanner s t := by
  rw [moved]
  exact ⟨rfl, rfl, rfl⟩

theorem sameScanner_servicedState (closing : Bool) (pe : Nat) (s : State) :
    SameScanner s (servicedState (endPeriod closing pe s)) := by
  have ended := ended_endPeriod closing pe s
  have sequenced := sequenced_sequencedState (endPeriod closing pe s)
  have contents := (sameContents_servicedState closing pe s).blocks
  have applied : (servicedState (endPeriod closing pe s)).scanner = (sequencedState (endPeriod closing pe s)).scanner ∧
      (servicedState (endPeriod closing pe s)).counter = (sequencedState (endPeriod closing pe s)).counter := by
    rw [servicedState_eq]
    generalize sequencedState (endPeriod closing pe s) = q
    exact ⟨rfl, rfl⟩
  exact ⟨applied.1.trans (sequenced.scanner.trans ended.scanner), contents.2.2.1,
    applied.2.trans (sequenced.counter.trans ended.counter)⟩

theorem scannerTurned_boundary (closing : Bool) (pe : Nat) (order : BoundaryOrder) (s : State) :
    ScannerTurned s (boundary closing pe order s) := by
  obtain ⟨u, before, after⟩ := deferredItems_shape order (endPeriod closing pe s)
  have begun := begun_beginPeriod (deferredItems order (endPeriod closing pe s))
  have last : SameScanner (deferredItems order (endPeriod closing pe s)) (boundary closing pe order s) := by
    rw [boundary_eq]
    exact ⟨begun.scanner, by rw [begun.store], begun.counter⟩
  exact .of_same ((sameScanner_servicedState closing pe s).trans (sameScanner_of_recordMoved before))
    (scannerTurned_applyAndVerify order.verifyFirst u) ((sameScanner_of_recordMoved after).trans last)

/-- What a boundary leaves of the scanner, whatever POINTS block comes. -/
theorem ScannerTurned.frame {s t : State} (turned_ : ScannerTurned s t) : t.scanner.points = s.scanner.points ∧
    t.scanner.active = s.scanner.active ∧ t.scanner.waiting = s.scanner.waiting ∧
    t.scanner.refused = s.scanner.refused := by
  by_cases stays : s.store.points.pending = none
  · rw [turned_.1 stays]
    exact ⟨rfl, rfl, rfl, rfl⟩
  · rw [turned_.2 stays]
    exact ⟨rfl, rfl, rfl, rfl⟩

/-! ### The warning (R190) -/

/-- The state in which a closing period ends: the count and the lines at the warning, the record filed. -/
def closingState (c : Stamp) (l : Lines) (history : List ProvingRecord) (s : State) : State :=
  ((s.withCounter c).withLines l).withStore { s.store with record := none, history := history }

/-- The history once the record holding the prover has been aborted with POWER (R124). -/
def powerHistory (s : State) : List ProvingRecord :=
  match s.store.record with
  | none => s.store.history
  | some x => entered { x with state := .aborted, cause := some .power, ended := some s.clock, current := none } s.store.history

theorem abortRecord_power (c : Stamp) (l : Lines) (s : State) :
    abortRecord .power ((s.withCounter c).withLines l) = closingState c l (powerHistory s) s := by
  unfold closingState powerHistory
  rcases held : s.store.record with _ | x
  · rw [abortRecord_of_none (s := (s.withCounter c).withLines l) held]
    dsimp only
    rw [← held]
    rfl
  · exact abortRecord_of_record (s := (s.withCounter c).withLines l) held .power

section Closing

variable {c : Stamp} {l : Lines} {history : List ProvingRecord} {s t : State}

theorem batchChanged_of_closing (changed : BatchChanged (closingState c l history s) t) : BatchChanged s t := by
  unfold BatchChanged at changed ⊢
  exact changed

theorem deferred_of_closing (deferred : Deferred (closingState c l history s) t) : Deferred s t := by
  unfold Deferred at deferred ⊢
  exact deferred

end Closing

/-- What the HALTED state keeps of the state before it, and what it is. -/
structure Halted (u t : State) : Prop where
  lines : t.lines = u.lines
  clock : t.clock = u.clock
  counter : t.counter = u.counter
  store : t.store = u.store
  totalizer : t.totalizer = u.totalizer
  change : t.change = u.change
  work : t.work = u.work
  supply : t.supply.power = .halted ∧ t.supply.resetQualifying = false
  pulse : t.pulse = haltPulse u.pulse
  scanner : t.scanner = haltScanner u.scanner
  monitor : t.monitor = haltMonitor u.monitor
  link : t.link = haltLink u.link

theorem halted_halt (u : State) : Halted u (halt u) :=
  ⟨rfl, rfl, rfl, rfl, rfl, rfl, rfl, ⟨rfl, rfl⟩, rfl, rfl, rfl, rfl⟩

theorem abandonDetector_phase (x : DetectorState) : (abandonDetector x).phase ≠ .qualifying := by
  unfold abandonDetector
  split
  · nofun
  · assumption

theorem haltPulse_get (u : PulseUnit) (r : Run) : (haltPulse u).runs.get r =
    { u.runs.get r with a := abandonChannel (u.runs.get r).a, b := abandonChannel (u.runs.get r).b } := PerRun.get_tab _ r

theorem haltScanner_point (x : Scanner) (p : Fin 16) :
    (haltScanner x).points[p] = { x.points[p] with staleTimer := none } := by
  unfold haltScanner
  simp

/-! ### The closing work -/

section ClosingWork

variable {pe : Nat} {order : BoundaryOrder} {w u t : State}

/-- What the closing work from w leaves, before the part is HALTED. -/
theorem closing_deferred (halted : Halted (boundary true pe order w) t) : Deferred w t := by
  refine (bounded_boundary true pe order w).deferred (boundary_taken _ _ _ _) (reworked_boundary _ _ _ _).1 ?_ halted.work
    halted.totalizer halted.counter fun r => ?_
  · rw [halted.store]
  · unfold State.runPulse
    rw [halted.pulse, haltPulse_get]

theorem closing_batchChanged (halted : Halted (boundary true pe order w) t) : BatchChanged w t := by
  refine (bounded_boundary true pe order w).batchChanged ⟨halted.change, ?_, ?_, ?_, ?_, ?_⟩ ?_ (by rw [halted.totalizer])
  all_goals rw [halted.store]

theorem closing_last (halted : Halted (boundary true pe order w) t) (r : Run) :
    t.totalizer.last.get r = some ((boundaryFigures true pe w).get r) := by
  rw [halted.totalizer, (bounded_boundary true pe order w).totalizer]
  exact PerRun.get_tab _ r

theorem closing_cumulative (halted : Halted (boundary true pe order w) t) (r : Run) :
    (t.store.runs.get r).cumulative =
      (creditedTotals w.store.active.isSome ((boundaryFigures true pe w).get r) (w.store.runs.get r)).cumulative := by
  rw [halted.store, (bounded_boundary true pe order w).store]
  dsimp only
  rw [PerRun.get_tab]
  rfl

theorem closing_scanner (halted : Halted u t) : t.scanner.converter = none ∧ t.scanner.active = none ∧
    t.scanner.waiting = none ∧ ∀ p : Fin 16, (t.scanner.points[p]).staleTimer = none ∧
      (t.scanner.points[p]).reading = (u.scanner.points[p]).reading := by
  rw [halted.scanner]
  refine ⟨rfl, rfl, rfl, fun p => ?_⟩
  rw [haltScanner_point]
  exact ⟨rfl, rfl⟩

end ClosingWork

theorem takeWarning_of_halted {order : BoundaryOrder} {s : State} (off : s.running = false) :
    takeWarning order s = s.withLines { s.lines with warning := true } := by
  have still : (s.withLines { s.lines with warning := true }).running = false := off
  unfold takeWarning
  dsimp only
  rw [still]
  exact if_neg nofun

theorem takeWarning_of_running {order : BoundaryOrder} {s : State} (running : s.running = true) :
    takeWarning order s = closeAndHalt order (s.withLines { s.lines with warning := true }) := by
  have still : (s.withLines { s.lines with warning := true }).running = true := running
  unfold takeWarning
  dsimp only
  rw [still]
  exact if_pos rfl

theorem closeAndHalt_eq (order : BoundaryOrder) (c : Stamp) (l : Lines) (s : State) :
    closeAndHalt order ((s.withCounter c).withLines l) =
      halt (boundary true (closingLength (closingState c l (powerHistory s) s)) order
        (closingState c l (powerHistory s) s)) := by
  have length : closingLength ((s.withCounter c).withLines l) = closingLength (closingState c l (powerHistory s) s) := rfl
  unfold closeAndHalt
  rw [abortRecord_power, length]

/-- Settles O37. -/
theorem warningClosesAndHalts : Obligations.WarningClosesAndHalts := by
  intro dt order s
  refine ⟨fun off => gives_of_halted rfl off (takeWarning_of_halted off), fun running => ?_⟩
  generalize start : closingState (later dt s).counter { s.lines with warning := true } (powerHistory s) s = w
  have done : takeWarning order (later dt s) = halt (boundary true (closingLength w) order w) := by
    rw [← start, takeWarning_of_running (s := later dt s) running]
    exact closeAndHalt_eq order (later dt s).counter { s.lines with warning := true } s
  have bounded := bounded_boundary true (closingLength w) order w
  have free := staysFree_boundary (s := w) true (closingLength w) order (by rw [← start]; rfl)
  have scanner := (scannerTurned_boundary true (closingLength w) order w).frame
  have halted := halted_halt (boundary true (closingLength w) order w)
  generalize halt (boundary true (closingLength w) order w) = t at halted done
  refine ⟨t, gives_of_advance rfl running done, halted.supply.1, halted.supply.2, ?_, ?_, ?_, ?_, ?_, fun r => ?_,
    fun x held => ?_, ?_, fun r => ?_, ?_, ?_, ?_⟩
  · rw [halted.lines, bounded.lines, ← start]
    rfl
  · rw [halted.clock, bounded.clock, ← start]
    rfl
  · rw [halted.store]
    exact free.1
  · have deferred := closing_deferred halted
    rw [← start] at deferred
    exact deferred_of_closing deferred
  · have changed := closing_batchChanged halted
    rw [← start] at changed
    exact batchChanged_of_closing changed
  · refine ⟨_, closing_last halted r, ?_⟩
    have figures := boundaryFigures_get true (closingLength w) w r
    have cumulative := closing_cumulative halted r
    rw [cumulative, figures, ← start]
    exact ⟨rfl, rfl, rfl, rfl⟩
  · rw [halted.store, free.2, ← start]
    show powerHistory s = _
    unfold powerHistory
    rw [held]
  · obtain ⟨converter, active, waiting, points⟩ := closing_scanner halted
    refine ⟨converter, active, waiting, fun p => ⟨(points p).1, (points p).2.trans ?_⟩⟩
    rw [scanner.1, ← start]
    rfl
  · unfold State.runPulse
    rw [halted.pulse, haltPulse_get]
    exact ⟨rfl, rfl⟩
  · rw [halted.pulse]
    exact ⟨abandonDetector_phase _, abandonDetector_phase _⟩
  · rw [halted.monitor]
    exact ⟨rfl, rfl, rfl, rfl⟩
  · rw [halted.link, bounded.link, ← start]
    rfl

end Sys2Proof.Proofs
end

section
/-! The condition records and the permit line that a boundary leaves. -/

namespace Sys2Proof.Proofs

open Sys2Proof Sys2Proof.Machine Sys2Proof.Safety Sys2Proof.Stated Sys2Proof.Laws

/-! ### The permit line through a boundary -/

/-- What a boundary keeps of EXTERNAL_TRIP and of the permit state. -/
structure Permitted (s t : State) : Prop where
  rise : t.active (.station .externalTrip) = true → s.active (.station .externalTrip) = true
  shut : Shut s → Shut t ∧ t.monitor.table.get (.station .externalTrip) = s.monitor.table.get (.station .externalTrip)
  calm : NoTrip s → NoTrip t
  permit : NoTrip s → s.monitor.withdrawn = false → t.monitor = { s.monitor with table := t.monitor.table }

theorem Passes.permitted {s t : State} (passes : Passes s t) : Permitted s t :=
  ⟨passes.rise, passes.shut, passes.calm, passes.permit⟩

theorem Permitted.trans {s t u : State} (h : Permitted s t) (k : Permitted t u) : Permitted s u where
  rise active := h.rise (k.rise active)
  shut shut := ⟨(k.shut (h.shut shut).1).1, (k.shut (h.shut shut).1).2.trans (h.shut shut).2⟩
  calm calm := k.calm (h.calm calm)
  permit calm closed := by
    have first := h.permit calm closed
    rw [k.permit (h.calm calm) (by rw [first]; exact closed), first]

theorem Permitted.of_frame {s t : State} (monitor : t.monitor = s.monitor) (lines : t.lines = s.lines)
    (block : t.store.station = s.store.station) : Permitted s t where
  rise active := by rwa [active_of_monitor monitor] at active
  shut shut := by
    unfold Shut at shut ⊢
    rw [monitor, lines]
    exact ⟨shut, rfl⟩
  calm calm := noTrip_of_block calm block fun active => by rwa [active_of_monitor monitor] at active
  permit _ _ := by rw [monitor]

theorem Permitted.of_recordMoved {s t : State} (moved : RecordMoved s t) : Permitted s t := by
  rw [moved]
  exact .of_frame rfl rfl rfl

theorem servicedState_frame (e : State) : (servicedState e).monitor = (sequencedState e).monitor ∧
    (servicedState e).lines = (sequencedState e).lines ∧ (servicedState e).clock = (sequencedState e).clock ∧
    (servicedState e).totalizer = (sequencedState e).totalizer ∧
    (servicedState e).store.record = (sequencedState e).store.record ∧
    (servicedState e).store.history = (sequencedState e).store.history ∧
    (servicedState e).store.active = (sequencedState e).store.active ∧
    (servicedState e).store.station = (sequencedState e).store.station := by
  rw [servicedState_eq]
  generalize sequencedState e = q
  exact ⟨rfl, rfl, rfl, rfl, rfl, rfl, rfl, rfl⟩

theorem permitted_servicedState (e : State) : Permitted e (servicedState e) := by
  have checked : Permitted e (checkStability e) := by
    rw [checkStability_frame]
    exact .of_frame rfl rfl rfl
  obtain ⟨monitor, lines, -, -, -, -, -, block⟩ := servicedState_frame e
  exact (checked.trans (passes_sequence (checkStability e)).permitted).trans (.of_frame monitor lines block)

theorem permitted_endPeriod (closing : Bool) (pe : Nat) (s : State) : Permitted s (endPeriod closing pe s) := by
  have ended := ended_endPeriod closing pe s
  have judged := judged_judgedState closing pe s
  refine (passes_judgedState closing pe s).permitted.trans (.of_frame ended.monitor (ended.lines.trans judged.lines.symm) ?_)
  rw [ended.store, judged.store]

theorem permitted_boundary (closing : Bool) (pe : Nat) (order : BoundaryOrder) (s : State) :
    Permitted s (boundary closing pe order s) := by
  obtain ⟨u, before, after⟩ := deferredItems_shape order (endPeriod closing pe s)
  have begun := begun_beginPeriod (deferredItems order (endPeriod closing pe s))
  have deferred := (((permitted_endPeriod closing pe s).trans (permitted_servicedState _)).trans
    (.of_recordMoved before)).trans ((passes_applyAndVerify order.verifyFirst u).permitted.trans (.of_recordMoved after))
  rw [boundary_eq]
  exact deferred.trans (.of_frame begun.monitor begun.lines (by rw [begun.store]))

/-! ### The records no judgement of a boundary names -/

theorem whole_boundary (closing : Bool) (pe : Nat) (order : BoundaryOrder) (s : State) :
    Whole (· ∈ earlyIds ++ lateIds) s (boundary closing pe order s) := by
  have judged := (whole_judgePeriod closing (PerRun.tab (periodFigures closing pe s)) s).mono
    (many := (· ∈ earlyIds ++ lateIds)) fun j is => by
      rcases is with listed | rfl
      · exact List.mem_append_left _ (List.mem_append_left _ listed)
      · decide
  exact judged.trans ((whole_late closing pe order s).mono fun j => List.mem_append_right _)

theorem boundary_get {closing : Bool} {pe : Nat} {order : BoundaryOrder} {s : State} {i : ConditionId}
    (not : i ∉ earlyIds ++ lateIds) :
    (boundary closing pe order s).monitor.table.get i = s.monitor.table.get i := whole_boundary closing pe order s i not

theorem pulseIds_not_judged (r : Run) : ∀ k ∈ [RunKind.channelALost, .channelBLost, .pulseMismatch, .pulseNoise,
    .comparatorFault], .run k r ∉ earlyIds ++ lateIds := by
  cases r <;> decide

/-- With no first period ending, POWER_INTERRUPTED stays (R194). -/
theorem boundary_get_power {closing : Bool} {pe : Nat} {order : BoundaryOrder} {s : State}
    (later_ : s.supply.firstPeriod = false) : (boundary closing pe order s).monitor.table.get (.station .powerInterrupted) =
      s.monitor.table.get (.station .powerInterrupted) := by
  have judged := whole_judgeAll (endJudgements closing (PerRun.tab (periodFigures closing pe s)) s) s
  rw [← judgedState_eq] at judged
  refine (whole_late closing pe order s (.station .powerInterrupted) (by decide)).trans (judged _ ?_)
  rintro (listed | is)
  · unfold endJudgements at listed
    rw [later_, List.map_append, List.map_flatMap, List.mem_append] at listed
    rcases listed with ofRun | ofStation
    · obtain ⟨r, -, own⟩ := List.mem_flatMap.mp ofRun
      unfold runJudgements at own
      rw [List.map_map] at own
      obtain ⟨k, -, is⟩ := List.mem_map.mp own
      nomatch is
    · exact absurd ofStation (by simp)
  · nomatch is

/-! ### TEMPERATURE_DEVIATION (R28) -/

/-- t leaves a run's TEMPERATURE_DEVIATION, and what it is judged from, as in s. -/
structure DeviationKept (r : Run) (s t : State) : Prop where
  table : t.monitor.table.get (.run .temperatureDeviation r) = s.monitor.table.get (.run .temperatureDeviation r)
  block : t.store.runBlocks.get r = s.store.runBlocks.get r
  points : t.scanner.points = s.scanner.points

theorem DeviationKept.trans {r : Run} {s t u : State} (h : DeviationKept r s t) (k : DeviationKept r t u) :
    DeviationKept r s u := ⟨k.table.trans h.table, k.block.trans h.block, k.points.trans h.points⟩

theorem DeviationKept.of_same {r : Run} {s t : State} {reached : ConditionId → Prop} (whole : Whole reached s t)
    (not : ¬reached (.run .temperatureDeviation r)) (blocks : t.store.runBlocks = s.store.runBlocks)
    (points : t.scanner.points = s.scanner.points) : DeviationKept r s t := ⟨whole _ not, by rw [blocks], points⟩

/-- A run's TEMPERATURE_DEVIATION, by the RUN block that comes (R28). -/
def DeviationJudged (r : Run) (s t : State) : Prop :=
  ((∀ x, (s.store.runBlocks.get r).pending = some x → x.tempPoint = (s.runBlock r).tempPoint) →
    t.monitor.table.get (.run .temperatureDeviation r) = s.monitor.table.get (.run .temperatureDeviation r)) ∧
  (∀ x, (s.store.runBlocks.get r).pending = some x → x.tempPoint ≠ (s.runBlock r).tempPoint →
    t.active (.run .temperatureDeviation r) = decide (s.pointStatus (pointIndex x.tempPoint) = .deviation))

theorem pointStatus_of_points {s t : State} (points : t.scanner.points = s.scanner.points) (p : Fin 16) :
    t.pointStatus p = s.pointStatus p := by
  unfold State.pointStatus
  rw [points]

theorem DeviationJudged.of_kept {r : Run} {s s' t' t : State} (before : DeviationKept r s s')
    (judged : DeviationJudged r s' t')
    (after : t.monitor.table.get (.run .temperatureDeviation r) = t'.monitor.table.get (.run .temperatureDeviation r)) :
    DeviationJudged r s t := by
  obtain ⟨stays, goes⟩ := judged
  have block : s'.runBlock r = s.runBlock r := congrArg Slot.current before.block
  rw [before.block, block, before.table] at stays
  rw [before.block, block] at goes
  refine ⟨fun same => after.trans (stays same), fun x coming other => ?_⟩
  have active : t.active (.run .temperatureDeviation r) = t'.active (.run .temperatureDeviation r) := congrArg _ after
  rw [active, goes x coming other, pointStatus_of_points before.points]

theorem deviation_not_checked (b : BlockId) (r : Run) :
    ¬(ConditionId.run .temperatureDeviation r = checkCondition b ∨
      ConditionId.run .temperatureDeviation r = .station .externalTrip) := by
  rintro (is | is)
  · cases b <;> nomatch is
  · nomatch is

theorem deviationKept_takenRun_cleared {q r : Run} (other : r ≠ q) (x : RunBlock) (s : State) :
    DeviationKept r s (clearMark (.run q) (takenRun q x s)) := by
  have blocks := (sameBlocks_clearMark (.run q) (takenRun q x s)).2.2.2
  have scanner := (sameScanner_clearMark (.run q) (takenRun q x s)).scanner
  have table := whole_clearMark (.run q) (takenRun q x s) _ (deviation_not_checked (.run q) r)
  refine ⟨table, ?_, by rw [scanner]; rfl⟩
  rw [blocks]
  exact PerRun.get_set_other _ _ _ _ other

/-- The application of another run's block. -/
theorem deviationKept_applyRun {q r : Run} (other : r ≠ q) (s : State) : DeviationKept r s (applyRun s q) := by
  rcases pending : (s.store.runBlocks.get q).pending with _ | x
  · rw [applyRun_of_none pending]
    exact ⟨rfl, rfl, rfl⟩
  · rw [applyRun_of_some pending]
    have cleared := deviationKept_takenRun_cleared other x s
    dsimp only
    split
    · exact cleared
    · have apart : ConditionId.run .temperatureDeviation r ≠ .run .temperatureDeviation q := fun is => by
        injection is with _ run
        exact other run
      have judged := judged_judge (.run .temperatureDeviation q)
        (decide ((clearMark (.run q) (takenRun q x s)).pointStatus (pointIndex x.tempPoint) = .deviation))
        (clearMark (.run q) (takenRun q x s))
      have notTrip : ConditionId.run .temperatureDeviation r ≠ .station .externalTrip := nofun
      exact cleared.trans ⟨judge_get_other apart notTrip _ _, by rw [judged.store], by rw [judged.scanner]⟩

theorem deviationJudged_applyRun (r : Run) (s : State) : DeviationJudged r s (applyRun s r) := by
  rcases pending : (s.store.runBlocks.get r).pending with _ | x
  · rw [applyRun_of_none pending]
    refine ⟨fun _ => rfl, fun x coming => ?_⟩
    rw [pending] at coming
    nomatch coming
  · rw [applyRun_of_some pending]
    have table := whole_clearMark (.run r) (takenRun r x s) _ (deviation_not_checked (.run r) r)
    have scanner := (sameScanner_clearMark (.run r) (takenRun r x s)).scanner
    have status : (clearMark (.run r) (takenRun r x s)).pointStatus (pointIndex x.tempPoint) =
        s.pointStatus (pointIndex x.tempPoint) := pointStatus_of_points (by rw [scanner]; rfl) _
    dsimp only
    split
    next same =>
      refine ⟨fun _ => table, fun y coming other => ?_⟩
      rw [pending] at coming
      rw [← Option.some.inj coming] at other
      exact absurd same other
    next other =>
      refine ⟨fun same => absurd (same x pending) other, fun y coming _ => ?_⟩
      rw [pending] at coming
      rw [judge_active_same, status, Option.some.inj coming]

theorem deviationJudged_applyRuns (r : Run) (s : State) : DeviationJudged r s (allRuns.foldl applyRun s) := by
  have other {q : Run} (is : r ≠ q) (u : State) := deviationKept_applyRun is u
  show DeviationJudged r s (applyRun (applyRun (applyRun (applyRun s .r1) .r2) .r3) .r4)
  cases r with
  | r1 =>
    exact .of_kept (s' := s) ⟨rfl, rfl, rfl⟩ (deviationJudged_applyRun .r1 s)
      (((other (by decide) _).trans (other (by decide) _)).trans (other (by decide) _)).table
  | r2 =>
    exact .of_kept (other (by decide) _) (deviationJudged_applyRun _ _)
      ((other (by decide) _).trans (other (by decide) _)).table
  | r3 =>
    exact .of_kept ((other (by decide) _).trans (other (by decide) _)) (deviationJudged_applyRun _ _)
      (other (by decide) _).table
  | r4 =>
    exact .of_kept (((other (by decide) _).trans (other (by decide) _)).trans (other (by decide) _))
      (deviationJudged_applyRun _ _) rfl

theorem deviationKept_verifyBlock (b : BlockId) (r : Run) (s : State) : DeviationKept r s (verifyBlock b s) :=
  .of_same (whole_verifyBlock b s) (deviation_not_checked b r) (sameBlocks_verifyBlock b s).2.2.2
    (by rw [(sameScanner_verifyBlock b s).scanner])

theorem deviation_not_station (r : Run) :
    ¬(ConditionId.run .temperatureDeviation r = .station .stationConfigCheck ∨
      ConditionId.run .temperatureDeviation r = .station .externalTrip) := deviation_not_checked .station r

theorem scannerTakesPoints_points (s : State) : (scannerTakesPoints s).scanner.points = s.scanner.points := by
  rw [scannerTurned_scannerTakesPoints]
  rfl

theorem deviationKept_applyPoints (r : Run) (s : State) : DeviationKept r s (applyPoints s) :=
  .of_same (whole_applyPoints s) (deviation_not_station r) (applyPoints_blocks s).2.2.2 (scannerTurned_applyPoints s).frame.1

theorem deviationKept_station (r : Run) (s : State) : DeviationKept r s (applyPoints (applyProver (applyStation s))) := by
  have station : DeviationKept r s (applyStation s) := .of_same (whole_applyStation s) (deviation_not_station r)
    (applyStation_blocks s).2.2.2 (by rw [(sameScanner_applyStation s).scanner])
  have prover : DeviationKept r (applyStation s) (applyProver (applyStation s)) := .of_same (whole_applyProver _)
    (deviation_not_station r) (applyProver_blocks _).2.2.2 (by rw [(sameScanner_applyProver _).scanner])
  exact (station.trans prover).trans (deviationKept_applyPoints r _)

theorem deviationJudged_applyAndVerify (verifyFirst : Bool) (r : Run) (s : State) :
    DeviationJudged r s (applyAndVerify verifyFirst s) := by
  unfold applyAndVerify
  dsimp only
  split
  · exact .of_kept ((deviationKept_verifyBlock _ r s).trans (deviationKept_station r _)) (deviationJudged_applyRuns r _) rfl
  · exact .of_kept (deviationKept_station r s) (deviationJudged_applyRuns r _) (deviationKept_verifyBlock _ r _).table

theorem deviationJudged_boundary (closing : Bool) (pe : Nat) (order : BoundaryOrder) (r : Run) (s : State) :
    DeviationJudged r s (boundary closing pe order s) := by
  obtain ⟨u, before, after⟩ := deferredItems_shape order (endPeriod closing pe s)
  have begun := begun_beginPeriod (deferredItems order (endPeriod closing pe s))
  have notEarly : ConditionId.run .temperatureDeviation r ∉ earlyIds := by cases r <;> decide
  have first : DeviationKept r s (servicedState (endPeriod closing pe s)) :=
    .of_same (whole_servicedState closing pe s) notEarly (sameContents_servicedState closing pe s).blocks.2.2.2
      (by rw [(sameScanner_servicedState closing pe s).scanner])
  have second : DeviationKept r (servicedState (endPeriod closing pe s)) u :=
    ⟨by rw [monitor_of_recordMoved before], by rw [(sameContents_of_recordMoved before).blocks.2.2.2],
      by rw [(sameScanner_of_recordMoved before).scanner]⟩
  refine .of_kept (first.trans second) (deviationJudged_applyAndVerify order.verifyFirst r u) ?_
  rw [boundary_eq, begun.monitor, monitor_of_recordMoved after]

/-! ### Together -/

theorem notJudged_boundary {closing : Bool} {pe : Nat} {order : BoundaryOrder} {s t : State}
    (monitor : t.monitor = (boundary closing pe order s).monitor) : NotJudged s t := by
  have permitted := permitted_boundary closing pe order s
  have active := active_of_monitor monitor
  unfold NotJudged
  rw [monitor]
  simp only [active]
  refine ⟨fun r k listed => boundary_get (pulseIds_not_judged r k listed), boundary_get (by decide), fun r => ?_,
    boundary_get_power, permitted.rise, fun shut => (permitted.shut ?_).2, permitted.permit⟩
  · exact deviationJudged_boundary closing pe order r s
  · exact shut.elim .inl fun low => .inr (.inr low)

end Sys2Proof.Proofs
end

section
/-! The record that holds the prover, through a boundary. -/

namespace Sys2Proof.Proofs

open Sys2Proof Sys2Proof.Machine Sys2Proof.Safety Sys2Proof.Stated Sys2Proof.Laws

/-! ### A record aborted -/

/-- A record as it is filed once aborted (R102). -/
def abortedRecord (cause : EndCause) (clock : Nat) (x : ProvingRecord) : ProvingRecord :=
  { x with state := .aborted, cause := some cause, ended := some clock, current := none }

theorem abortedRecord_marked (cause : EndCause) (clock : Nat) (flow degraded : Bool) (x : ProvingRecord) :
    abortedRecord cause clock (marked flow degraded x) = abortedRecord cause clock x := rfl

/-- The record x of s has left the prover in t for a cause, and is filed. -/
def Left (cause : EndCause) (x : ProvingRecord) (s t : State) : Prop :=
  t.store.record = none ∧ t.store.history = entered (abortedRecord cause s.clock x) s.store.history

theorem Left.stays {cause : EndCause} {x : ProvingRecord} {s t u : State} (left : Left cause x s t)
    (stays : StaysFree t u) : Left cause x s u := ⟨stays.1, stays.2.trans left.2⟩

theorem left_abortRecord {s u : State} {x : ProvingRecord} {flow degraded : Bool}
    (held : u.store.record = some (marked flow degraded x)) (history : u.store.history = s.store.history)
    (clock : u.clock = s.clock) (cause : EndCause) : Left cause x s (abortRecord cause u) := by
  rw [abortRecord_of_record held]
  refine ⟨rfl, ?_⟩
  rw [← history, ← clock]
  rfl

/-! ### The run FAILED by the judgements of the period (R112) -/

/-- The record x of s is held in u with its run not FAILED, or has left for RUN_FAILED. -/
structure Watched (x : ProvingRecord) (s u : State) : Prop where
  clock : u.clock = s.clock
  either : (∃ d, u.store.record = some (marked false d x) ∧ u.store.history = s.store.history ∧
    u.integrity x.request.run ≠ .failed) ∨ Left .runFailed x s u

theorem Watched.followed {x : ProvingRecord} {s u v : State} (watched : Watched x s u) (followed : Followed u v)
    (clock : v.clock = u.clock) : Watched x s v := by
  refine ⟨clock.trans watched.clock, ?_⟩
  rcases watched.either with ⟨d, held, history, sound⟩ | left
  · obtain ⟨marks, store⟩ := followed
    rw [held] at store
    dsimp only at store
    have run : (marked false d x).request.run = x.request.run := rfl
    rw [run] at store
    split at store
    next stays =>
      refine .inl ⟨d, by rw [store, held], by rw [store, history], fun failed => ?_⟩
      rcases stays with same | is
      · exact sound (same ▸ failed)
      · rw [is] at failed
        nomatch failed
    next changed =>
      split at store
      next failed =>
        refine .inr ⟨by rw [store]; rfl, ?_⟩
        rw [store, ← history, ← watched.clock]
        rfl
      next sound' =>
        refine .inl ⟨true, ?_, by rw [store, ← history], sound'⟩
        rw [store, marked_marked]
        rw [Bool.or_true]
        rfl
  · have store := free_of_followed followed left.1
    exact .inr (left.stays ⟨by rw [store, left.1], by rw [store]⟩)

theorem Watched.judge {x : ProvingRecord} {s u : State} (watched : Watched x s u) (i : ConditionId) (on : Bool) :
    Watched x s (judge i on u) := by
  by_cases agrees : u.active i = on
  · rwa [judge_of_agrees i on u agrees]
  · cases on with
    | true =>
      obtain ⟨-, -, -, -, followed⟩ := activation_taken (by simpa using agrees)
      exact watched.followed followed (judged_judge _ _ _).clock
    | false =>
      rw [judge_off (by simpa using agrees)]
      exact (watched.followed (followed_setCondition i false u) (judged_setCondition _ _ _).clock).followed
        (followed_releaseIfFree _) (judged_releaseIfFree _).clock

theorem Watched.judgeAll {x : ProvingRecord} {s u : State} (watched : Watched x s u) (l : List (ConditionId × Bool)) :
    Watched x s (judgeAll l u) := by
  induction l generalizing u with
  | nil => exact watched
  | cons j rest ih => exact ih (watched.judge j.1 j.2)

theorem watched_refl {x : ProvingRecord} {s : State} (held : s.store.record = some x)
    (sound : s.integrity x.request.run ≠ .failed) : Watched x s s :=
  ⟨rfl, .inl ⟨false, by rw [held, marked_false_false], rfl, sound⟩⟩

/-- A judgement of class TRIP at the end of a period makes the run FAILED. -/
theorem failed_of_tripped {closing : Bool} {pe : Nat} {s : State} {r : Run} {j : ConditionId × Bool}
    (listed : j ∈ periodConditions s r ((boundaryFigures closing pe s).get r)) (on : j.2 = true)
    (class_ : conditionClass s.stationBlock j.1 = .trip) : (judgedState closing pe s).integrity r = .failed := by
  have active : (judgedState closing pe s).active j.1 = true := judgePeriod_active (on := true) (by
    rw [← on]
    exact mem_endJudgements_of_periodConditions listed)
  refine (integrityStates _ r).1.mpr ⟨j.1, counts_of_periodConditions listed, active, ?_⟩
  rw [(judged_judgedState closing pe s).stationBlock]
  exact class_

/-- The judgements of a period that make the record's run FAILED abort the record (R112). -/
theorem left_boundary_of_tripped {closing : Bool} {pe : Nat} {order : BoundaryOrder} {s : State} {x : ProvingRecord}
    (held : s.store.record = some x) (sound : s.integrity x.request.run ≠ .failed)
    (trips : ∃ j ∈ periodConditions s x.request.run ((boundaryFigures closing pe s).get x.request.run),
      j.2 = true ∧ conditionClass s.stationBlock j.1 = .trip) :
    Left .runFailed x s (boundary closing pe order s) := by
  obtain ⟨j, listed, on, class_⟩ := trips
  have failed := failed_of_tripped listed on class_
  have watched := (watched_refl held sound).judgeAll (endJudgements closing (PerRun.tab (periodFigures closing pe s)) s)
  rw [← judgedState_eq] at watched
  have left : Left .runFailed x s (judgedState closing pe s) := by
    rcases watched.either with ⟨d, -, -, sound'⟩ | left
    · exact absurd failed sound'
    · exact left
  have ended := left.stays ⟨(endPeriod_record closing pe s).1.trans left.1, (endPeriod_record closing pe s).2⟩
  have deferred := ended.stays (staysFree_deferredItems order ended.1)
  have begun := (begun_beginPeriod (deferredItems order (endPeriod closing pe s))).store
  rw [boundary_eq]
  refine deferred.stays ⟨?_, ?_⟩
  · rw [begun, deferred.1]
    rfl
  · rw [begun]

/-! ### Flow stability (R111) -/

theorem unstable_marked (s : State) (degraded : Bool) (x : ProvingRecord) (q : Nat) :
    unstable s (marked false degraded x) q = unstable s x q := by
  unfold unstable marked
  rcases x.current with _ | c
  · rfl
  · rfl

theorem unstable_congr {s t : State} (block : t.proverBlock = s.proverBlock) (x : ProvingRecord) (q : Nat) :
    unstable t x q = unstable s x q := by
  unfold unstable
  rw [block]

theorem marked_of_no_round {x : ProvingRecord} (none_ : x.current = none) (flow degraded : Bool) :
    marked flow degraded x = x := by
  obtain ⟨number, request, grade, k, vb, gamma, g, chain, granted, state, timerStart, cause, ended, attempts, accepted,
    rounds, current, result, decision, decided⟩ := x
  cases current with
  | none => rfl
  | some c => nomatch none_

theorem marked_flow (x : ProvingRecord) :
    markRound (fun m => { m with flowUnstable := true }) x = marked true false x := by
  obtain ⟨number, request, grade, k, vb, gamma, g, chain, granted, state, timerStart, cause, ended, attempts, accepted,
    rounds, current, result, decision, decided⟩ := x
  cases current <;> simp [marked, markRound]

theorem flowMarked {e : State} {y : ProvingRecord} (held : e.store.record = some y) (un : Bool) :
    (if un = true then e.setRecord (some (markRound (fun m => { m with flowUnstable := true }) y)) else e).store.record =
      some (marked un false y) := by
  cases un with
  | true =>
    rw [← marked_flow]
    rfl
  | false =>
    rw [marked_false_false]
    exact held

theorem checkStability_of_record {e : State} {y : ProvingRecord} {q : Nat} (held : e.store.record = some y)
    (rate : e.lastRate y.request.run = some q) :
    (checkStability e).store.record = some (marked (unstable e y q) false y) := by
  unfold checkStability
  rw [held]
  dsimp only
  rcases round : y.current with _ | c
  · dsimp only
    rw [marked_of_no_round round, held]
  · dsimp only
    have pass : currentPass c = inProgress c := by
      unfold currentPass inProgress
      cases c.second <;> rfl
    rw [rate, pass]
    by_cases moves : y.state = .pass ∨ y.state = .tail
    · have swings : unstable e y q = (match (inProgress c).startRate with
          | none => true
          | some st => decide (st = 0 ∨ e.proverBlock.stability * st < (if st ≤ q then q - st else st - q) * 1000)) := by
        unfold unstable
        rw [round, decide_eq_true moves, Bool.true_and]
        rfl
      rw [if_pos moves, swings]
      rcases (inProgress c).startRate with _ | st
      · rw [← marked_flow]
        rfl
      · have same : (decide (st = 0) || decide (absDiff q st * 1000 > e.proverBlock.stability * st)) =
            decide (st = 0 ∨ e.proverBlock.stability * st < (if st ≤ q then q - st else st - q) * 1000) := by
          rw [← Bool.decide_or, absDiff_eq]
          refine decide_eq_decide.mpr (or_congr Iff.rfl ?_)
          split <;> split <;> omega
        exact (flowMarked held _).trans (congrArg (fun un => some (marked un false y)) same)
    · have still : unstable e y q = false := by
        unfold unstable
        rw [decide_eq_false moves, Bool.false_and]
      rw [if_neg moves, still, marked_false_false, held]

/-! ### The causes of a boundary (R117, R118) -/

/-- Whether the batch changes at a boundary that leads from s to t. -/
def batchMoves (s t : State) : Bool := decide (s.change ≠ .none) || (s.store.active.isSome && t.store.active.isNone)

/-- What the sequencer tells the prover controller, by whether the batch changes. -/
theorem gradeAborts_iff {figs : PerRun LastPeriod} {s v t q : State} (taken : TakenUp figs s v)
    (active : t.store.active = (Machine.sequence v).1.store.active) (block : q.store.station = s.store.station) (g : Nat) :
    gradeAborts (Machine.sequence v).2 g q = true ↔
      s.change = .cutover ∨ (batchMoves s t || s.commitPending .station) = true ∧ q.gradeNext ≠ g := by
  have same : SameBatch (Machine.sequence v).1 ((Machine.sequence v).1) := ⟨rfl, rfl, rfl, rfl, rfl, rfl⟩
  unfold batchMoves
  rw [active]
  cases change : s.change with
  | cutover =>
    rw [sequence_of_cutover (taken.change.trans change)]
    exact ⟨fun _ => .inl rfl, fun _ => rfl⟩
  | start =>
    rw [sequence_of_start (taken.change.trans change)]
    simp [gradeAborts]
  | ends =>
    rw [sequence_of_ends (taken.change.trans change)]
    simp [gradeAborts]
  | none =>
    rcases held : s.store.active with _ | b
    · have free : v.store.active = none := by
        rw [taken.active, held]
        rfl
      rw [sequence_of_free (taken.change.trans change) free]
      simp [gradeAborts, block, State.commitPending]
    · have credited : v.store.active = some (creditedBatch figs s.store.runs b) := by
        rw [taken.active, held]
        rfl
      rw [sequence_of_active (taken.change.trans change) credited]
      dsimp only
      split
      · split
        · have closed (k : Ticket) (u : State) : (u.withStore (closedStore k u.store)).store.active = none :=
            (closedStore_frame k u.store).1
          rw [(judged_judge _ _ _).active, closeBatch_of_active (setActive_active _ _), closed]
          simp [gradeAborts]
        · rw [(judged_judge _ _ _).active, setActive_active]
          simp [gradeAborts, block, State.commitPending]
      · rw [setActive_active]
        simp [gradeAborts, block, State.commitPending]

/-- The grade that the next periods take, once the boundary is past. -/
theorem gradeNext_eq {s t q : State} (taken : BlocksTaken s t) (block : q.store.station = s.store.station)
    (active : t.store.active = q.store.active) : q.gradeNext = t.gradeNow := by
  have grade : t.stationBlock.defaultGrade = q.store.station.next.defaultGrade := by
    unfold State.stationBlock
    rw [taken.1, takenSlot_current, block]
  unfold State.gradeNext State.gradeNow
  rw [active]
  cases q.store.active with
  | none => exact grade.symm
  | some b => rfl

theorem sequencedState_eq (closing : Bool) (pe : Nat) (s : State) :
    sequencedState (endPeriod closing pe s) = (Machine.sequence (checkedState closing pe s)).1 := by
  unfold sequencedState checkedState
  rfl

/-- The causes that the deferred items find are those the statements name. -/
theorem deferredCauses_eq {closing : Bool} {pe : Nat} {s t : State} {x y : ProvingRecord}
    (held : (servicedState (endPeriod closing pe s)).store.record = some y) (request : y.request = x.request)
    (grade : y.grade = x.grade) (taken : BlocksTaken s t)
    (active : t.store.active = (sequencedState (endPeriod closing pe s)).store.active) :
    deferredCauses (endPeriod closing pe s) = abortCauses x s t := by
  have contents := (sameContents_servicedState closing pe s).blocks
  obtain ⟨-, -, -, -, -, -, serviced, -⟩ := servicedState_frame (endPeriod closing pe s)
  have same : t.store.active = (servicedState (endPeriod closing pe s)).store.active := by
    rw [serviced, active]
  rw [sequencedState_eq] at active
  have grades := gradeAborts_iff (takenUp_checkedState closing pe s) active contents.1 x.grade
  have configs : ((servicedState (endPeriod closing pe s)).store.runBlocks.get x.request.run).pending.isSome =
      s.commitPending (.run x.request.run) := by
    rw [contents.2.2.2]
    rfl
  have provers : (servicedState (endPeriod closing pe s)).store.prover.pending.isSome = s.commitPending .prover := by
    rw [contents.2.1]
    rfl
  have services : ((endPeriod closing pe s).store.runs.get x.request.run).pendingService =
      (s.store.runs.get x.request.run).pendingService := by
    rw [(ended_endPeriod closing pe s).store]
    dsimp only
    rw [PerRun.get_tab]
    rfl
  rw [gradeNext_eq taken contents.1 same] at grades
  unfold deferredCauses boundaryCauses
  rw [held]
  dsimp only
  rw [request, grade, configs, provers, services]
  unfold abortCauses
  dsimp only
  exact append_of_eq (append_of_eq (if_of_iff grades rfl rfl) (if_of_iff (by rw [Bool.or_eq_true]) rfl rfl)) rfl

/-! ### The record through the deferred items -/

theorem boundaryAbort_of_first {want c : EndCause} {causes : List EndCause} (first : firstCause want causes = some c)
    (u : State) : boundaryAbort want causes u = abortRecord c u := by
  unfold boundaryAbort
  rw [first]

theorem boundaryAbort_of_no_cause {want : EndCause} {causes : List EndCause} (none_ : firstCause want causes = none)
    (u : State) : boundaryAbort want causes u = u := by
  unfold boundaryAbort
  rw [none_]

/-- The checked record and what it is checked in. -/
theorem checkStability_passing {e : State} (calm : NoTrip e) :
    NoTrip (checkStability e) ∧ (checkStability e).store.history = e.store.history ∧
    ∀ r, Degrades r false e (checkStability e) := by
  have frame : ∀ x, NoTrip (e.setRecord x) ∧ (e.setRecord x).store.history = e.store.history ∧
      ∀ r, Degrades r false e (e.setRecord x) := fun x => ⟨calm, rfl, fun r => .of_same rfl (integrity_congr rfl rfl r)⟩
  rw [checkStability_frame]
  exact frame _

theorem passes_services (e : State) : Passes (checkStability e) (servicedState e) := by
  obtain ⟨monitor, lines, -, totalizer, record, history, -, station⟩ := servicedState_frame e
  exact (passes_sequence (checkStability e)).trans
    (.of_frame monitor lines station (congrArg _ totalizer) record history)

theorem servicedState_clock (e : State) : (servicedState e).clock = e.clock := by
  obtain ⟨-, -, clock, -⟩ := servicedState_frame e
  exact clock.trans (sequenced_sequencedState e).clock

section DeferredRecord

variable {e : State} {y : ProvingRecord} {q : Nat}

/-- The record in a state that passes from the flow stability check on. -/
theorem record_of_passes {u : State} (calm : NoTrip e) (held : e.store.record = some y)
    (rate : e.lastRate y.request.run = some q) (passes : Passes (checkStability e) u) :
    ∃ d, u.store.record = some (marked (unstable e y q) d y) ∧ u.store.history = e.store.history ∧
      Degrades y.request.run d e u := by
  obtain ⟨calmChecked, sameHistory, degrades⟩ := checkStability_passing calm
  obtain ⟨d, record, history, goes⟩ := passes.marks calmChecked _ (checkStability_of_record held rate)
  have both := (degrades y.request.run).trans goes
  rw [marked_marked, Bool.or_false, Bool.false_or] at record
  rw [Bool.false_or] at both
  exact ⟨d, record, history.trans sameHistory, both⟩

/-- With no class TRIP, the deferred items of a boundary abort the record for the cause taken first, or mark its round. -/
theorem deferredItems_record (calm : NoTrip e) (held : e.store.record = some y)
    (rate : e.lastRate y.request.run = some q) (order : BoundaryOrder) :
    (∀ c, firstCause order.causeFirst (deferredCauses e) = some c → Left c y e (deferredItems order e)) ∧
    (firstCause order.causeFirst (deferredCauses e) = none →
      ∃ d, (deferredItems order e).store.record = some (marked (unstable e y q) d y) ∧
        (deferredItems order e).store.history = e.store.history ∧
        Degrades y.request.run d e (deferredItems order e)) := by
  have services := passes_services e
  have applies := services.trans (passes_applyAndVerify order.verifyFirst _)
  obtain ⟨d, record, history, degrades⟩ := record_of_passes calm held rate services
  obtain ⟨d', record', history', degrades'⟩ := record_of_passes calm held rate applies
  have clock := servicedState_clock e
  have clock' := (applied_applyAndVerify order.verifyFirst (servicedState e)).clock.trans clock
  by_cases first : order.causeFirst = .runFailed
  · rw [deferredItems_of_failedFirst first]
    dsimp only
    rw [record', Option.isSome_some, if_pos rfl]
    refine ⟨fun c taken => ?_, fun none_ => ?_⟩
    · rw [boundaryAbort_of_first taken]
      exact left_abortRecord record' history' clock' c
    · rw [boundaryAbort_of_no_cause none_]
      exact ⟨d', record', history', degrades'⟩
  · rw [deferredItems_of_other first]
    refine ⟨fun c taken => ?_, fun none_ => ?_⟩
    · rw [boundaryAbort_of_first taken]
      have left := left_abortRecord record history clock c
      exact left.stays ((passes_applyAndVerify order.verifyFirst _).free left.1)
    · rw [boundaryAbort_of_no_cause none_]
      exact ⟨d', record', history', degrades'⟩

end DeferredRecord

end Sys2Proof.Proofs
end

section
/-! What a boundary leaves: its frame, and the record that holds the prover. -/

namespace Sys2Proof.Proofs

open Sys2Proof Sys2Proof.Machine Sys2Proof.Safety Sys2Proof.Stated Sys2Proof.Laws

/-! ### When the round is marked RUN_DEGRADED (R112) -/

/-- A boundary marks the round of a record as its statement says: by the flag of the period that ends, the mark of the one
that begins, and whether the counting channel moved. -/
def RoundMarked (r : Run) (flagged moved degraded : Bool) (s t : State) : Prop :=
  (flagged = false → t.totalizer.unsound.get r = false → moved = false → degraded = false) ∧
  (moved = true → degraded = true) ∧
  (flagged = true → s.totalizer.unsound.get r = false → s.integrity r = .sound → degraded = true) ∧
  (flagged = false → t.totalizer.unsound.get r = true → degraded = true) ∧
  (s.integrity r = .sound → t.integrity r = .degraded → degraded = true)

/-- The judgements lead from s to j, the period that begins is marked from e, and its applications lead to d. -/
theorem roundMarked {r : Run} {first second moved flagged : Bool} {s j e d t : State} (judged : Degrades r first s j)
    (flag : flagged = (j.totalizer.unsound.get r || decide (j.integrity r ≠ .sound)))
    (cleared : e.totalizer.unsound.get r = false) (same : e.integrity r = j.integrity r) (applied : Degrades r second e d)
    (begun : t.totalizer.unsound.get r = (d.totalizer.unsound.get r || decide (d.integrity r ≠ .sound)))
    (last : t.integrity r = d.integrity r) : RoundMarked r flagged moved (first || second || moved) s t := by
  refine ⟨fun clean unmarked still => ?_, fun moves => by rw [moves, Bool.or_true], fun flags was sound => ?_,
    fun clean marks => ?_, fun sound degrades => ?_⟩
  · rw [flag, Bool.or_eq_false_iff] at clean
    rw [begun, Bool.or_eq_false_iff] at unmarked
    rw [judged.none_ clean.1, applied.none_ unmarked.1, still]
    rfl
  · have set : first = true := by
      rw [flag, Bool.or_eq_true, decide_eq_true_iff] at flags
      exact flags.elim (judged.marks was) (judged.leaves sound)
    rw [set]
    rfl
  · have set : second = true := by
      rw [flag, Bool.or_eq_false_iff, decide_eq_false_iff_not, Classical.not_not] at clean
      rw [begun, Bool.or_eq_true, decide_eq_true_iff] at marks
      exact marks.elim (applied.marks cleared) (applied.leaves (same.trans clean.2))
    rw [set, Bool.or_true]
    rfl
  · have left : d.integrity r ≠ .sound := by
      rw [← last, degrades]
      nofun
    by_cases middle : j.integrity r = .sound
    · rw [applied.leaves (same.trans middle) left, Bool.or_true]
      rfl
    · rw [judged.leaves sound middle]
      rfl

/-! ### The record through a boundary -/

theorem fixedRecords_eq (pulse : Run → RunPulse) (x : ProvingRecord) : fixedRecords pulse x =
    marked false (decide (countingOf (pulse x.request.run) ≠ (pulse x.request.run).counting)) x := by
  unfold fixedRecords fixedRecord
  by_cases moves : countingOf (pulse x.request.run) ≠ (pulse x.request.run).counting
  · rw [if_pos ⟨moves, rfl⟩, decide_eq_true moves]
  · rw [if_neg fun both => moves both.1, decide_eq_false moves, marked_false_false]

theorem deferredItems_runPulse (closing : Bool) (pe : Nat) (order : BoundaryOrder) (s : State) (r : Run) :
    (deferredItems order (endPeriod closing pe s)).runPulse r = zeroCounts (s.runPulse r) := by
  unfold State.runPulse
  rw [(deferredFrame_deferredItems order _).pulse, (sequenced_sequencedState _).pulse, (ended_endPeriod closing pe s).pulse]
  exact PerRun.get_tab _ r

theorem lastRate_endPeriod (closing : Bool) (pe : Nat) (s : State) (r : Run) :
    (endPeriod closing pe s).lastRate r = some ((boundaryFigures closing pe s).get r).q := by
  unfold State.lastRate
  rw [(ended_endPeriod closing pe s).totalizer]
  dsimp only
  rw [PerRun.get_tab]
  rfl

theorem endPeriod_unsound (closing : Bool) (pe : Nat) (s : State) (r : Run) :
    (endPeriod closing pe s).totalizer.unsound.get r = false := by
  rw [(ended_endPeriod closing pe s).totalizer]
  exact PerRun.get_tab _ r

theorem endPeriod_integrity (closing : Bool) (pe : Nat) (s : State) (r : Run) :
    (endPeriod closing pe s).integrity r = (judgedState closing pe s).integrity r := by
  have ended := ended_endPeriod closing pe s
  have judged := judged_judgedState closing pe s
  refine integrity_congr (congrArg _ ended.monitor) ?_ r
  unfold State.stationBlock
  rw [ended.store, judged.store]

theorem flagged_eq (closing : Bool) (pe : Nat) (s : State) (r : Run) : ((boundaryFigures closing pe s).get r).flagged =
    ((judgedState closing pe s).totalizer.unsound.get r || decide ((judgedState closing pe s).integrity r ≠ .sound)) := by
  rw [boundaryFigures_get]

section Boundary

variable {closing : Bool} {pe : Nat} {order : BoundaryOrder} {s : State} {x : ProvingRecord}

/-- Whether a boundary moves a run's counting channel. -/
def channelMoves (p : RunPulse) : Bool := decide ((fixedPulse (zeroCounts p)).counting ≠ p.counting)

/-- With no class TRIP, a boundary aborts the record for the cause taken first, or marks its round. -/
theorem boundary_record (calm : NoTrip s) (held : s.store.record = some x) :
    (∀ c, firstCause order.causeFirst (deferredCauses (endPeriod closing pe s)) = some c →
      Left c x s (boundary closing pe order s)) ∧
    (firstCause order.causeFirst (deferredCauses (endPeriod closing pe s)) = none →
      ∃ degraded, (boundary closing pe order s).store.record =
          some (marked (unstable s x ((boundaryFigures closing pe s).get x.request.run).q) degraded x) ∧
        (boundary closing pe order s).store.history = s.store.history ∧
        RoundMarked x.request.run ((boundaryFigures closing pe s).get x.request.run).flagged
          (channelMoves (s.runPulse x.request.run)) degraded s (boundary closing pe order s)) := by
  obtain ⟨first, record, history, judged⟩ := (passes_judgedState closing pe s).marks calm x held
  have calmEnd := (permitted_endPeriod closing pe s).calm calm
  have endRecord := (endPeriod_record closing pe s).1.trans record
  have endHistory := (endPeriod_record closing pe s).2.trans history
  have ended := ended_endPeriod closing pe s
  have begun := begun_beginPeriod (deferredItems order (endPeriod closing pe s))
  have rate : (endPeriod closing pe s).lastRate (marked false first x).request.run =
      some ((boundaryFigures closing pe s).get x.request.run).q := lastRate_endPeriod closing pe s _
  obtain ⟨aborts, stays⟩ := deferredItems_record calmEnd endRecord rate order
  have block : (endPeriod closing pe s).proverBlock = s.proverBlock := by
    unfold State.proverBlock
    rw [ended.store]
  rw [boundary_eq]
  refine ⟨fun c taken => ?_, fun none_ => ?_⟩
  · have left := aborts c taken
    refine ⟨?_, ?_⟩
    · rw [begun.store, left.1]
      rfl
    · rw [begun.store]
      dsimp only
      rw [left.2, abortedRecord_marked, ended.clock, endHistory]
  · obtain ⟨second, record', history', applied⟩ := stays none_
    rw [unstable_marked, unstable_congr block, marked_marked, Bool.false_or] at record'
    refine ⟨first || second || channelMoves (s.runPulse x.request.run), ?_, ?_,
      roundMarked judged (flagged_eq closing pe s _) (endPeriod_unsound closing pe s _)
        (endPeriod_integrity closing pe s _) applied ?_ ?_⟩
    · rw [begun.store, record', Option.map_some, fixedRecords_eq, marked_marked, Bool.or_false,
        deferredItems_runPulse]
      rfl
    · rw [begun.store, ← endHistory]
      exact history'
    · rw [begun.totalizer]
      exact PerRun.get_tab _ _
    · refine integrity_congr (congrArg _ begun.monitor) ?_ _
      unfold State.stationBlock
      rw [begun.store]

end Boundary

/-! ### The boundary as an event -/

section After

variable {order : BoundaryOrder} {s t : State}

theorem AfterBoundary.active_eq {u : State} (after : AfterBoundary s u t) :
    t.store.active = (sequencedState (endPeriod false (periodCounts s) s)).store.active := after.active

theorem blocksTaken_after (after : AfterBoundary s (boundary false (periodCounts s) order s) t) : BlocksTaken s t := by
  have same : SameBlocks (boundary false (periodCounts s) order s) t := by
    refine ⟨?_, ?_, ?_, ?_⟩
    all_goals rw [after.store]
  exact (boundary_taken _ _ _ s).of_same (.refl s) same

end After

theorem madeBoundary_eq (order : BoundaryOrder) (s : State) :
    madeBoundary order s = withFirstEnded (boundary false (periodCounts s) order s) := rfl

/-- A record that leaves at the boundary is aborted as the statements say, the next request granted (R101). -/
theorem aborted_of_left {cause : EndCause} {x : ProvingRecord} {v s : State} {order : BoundaryOrder}
    (held : v.store.record = some x) (left : Left cause x s (boundary false (periodCounts s) order s)) :
    Aborted cause x s (settle v (madeBoundary order s)) := by
  have bounded := bounded_boundary false (periodCounts s) order s
  have requests := bounded.requests
  have counter : (boundary false (periodCounts s) order s).store.provingCounter = s.store.provingCounter := by
    rw [bounded.store]
  rw [madeBoundary_eq]
  generalize boundary false (periodCounts s) order s = u at left requests counter ⊢
  exact ⟨withFirstEnded u, settle_of_ended held left.1, left.1, requests, counter, left.2⟩

/-- What a boundary does to the record that holds the prover, as its statement says. -/
def RecordBounded (order : BoundaryOrder) (x : ProvingRecord) (s t : State) : Prop :=
  let r := x.request.run
  let causes := abortCauses x s t
  let moved := (t.runPulse r).counting ≠ (s.runPulse r).counting
  ∃ f, t.totalizer.last.get r = some f ∧
    (s.integrity r ≠ .failed →
      (∃ j ∈ periodConditions s r f, j.2 = true ∧ conditionClass s.stationBlock j.1 = .trip) →
      Aborted .runFailed x s t) ∧
    (NoTrip s → order.causeFirst ∈ causes → Aborted order.causeFirst x s t) ∧
    (NoTrip s → order.causeFirst ∉ causes → ∀ c ∈ causes.head?, Aborted c x s t) ∧
    (NoTrip s → causes = [] → ∃ degraded,
      t.store.record = some (marked (unstable s x f.q) degraded x) ∧ t.requests = s.requests ∧
      t.store.history = s.store.history ∧
      (f.flagged = false → t.totalizer.unsound.get r = false → ¬moved → degraded = false) ∧
      (moved → degraded = true) ∧
      (f.flagged = true → s.totalizer.unsound.get r = false → s.integrity r = .sound → degraded = true) ∧
      (f.flagged = false → t.totalizer.unsound.get r = true → degraded = true) ∧
      (s.integrity r = .sound → t.integrity r = .degraded → degraded = true))

theorem recordBounded {order : BoundaryOrder} {x : ProvingRecord} {v s t : State}
    (settled : settle v (madeBoundary order s) = t) (before : v.store.record = some x) (held : s.store.record = some x) :
    RecordBounded order x s t := by
  have after := afterBoundary_settle order s v
  rw [settled] at after
  have aborts {cause : EndCause} (left : Left cause x s (boundary false (periodCounts s) order s)) : Aborted cause x s t := by
    rw [← settled]
    exact aborted_of_left before left
  have causes (calm : NoTrip s) : deferredCauses (endPeriod false (periodCounts s) s) = abortCauses x s t := by
    obtain ⟨first, record, -, -⟩ := (passes_judgedState false (periodCounts s) s).marks calm x held
    obtain ⟨d, serviced, -, -⟩ := record_of_passes ((permitted_endPeriod false (periodCounts s) s).calm calm)
      ((endPeriod_record false (periodCounts s) s).1.trans record) (lastRate_endPeriod _ _ s _)
      (passes_services (endPeriod false (periodCounts s) s))
    exact deferredCauses_eq serviced rfl rfl (blocksTaken_after after) after.active
  refine ⟨_, after.last_get x.request.run, fun sound trips => aborts (left_boundary_of_tripped held sound trips),
    fun calm named => ?_, fun calm notNamed c first => ?_, fun calm none_ => ?_⟩
  · refine aborts ((boundary_record calm held).1 _ ?_)
    rw [causes calm]
    exact if_pos named
  · refine aborts ((boundary_record calm held).1 _ ?_)
    rw [causes calm]
    exact (if_neg notNamed).trans first
  · have no : firstCause order.causeFirst (deferredCauses (endPeriod false (periodCounts s) s)) = none := by
      rw [causes calm, none_]
      exact if_neg List.not_mem_nil
    obtain ⟨degraded, record, history, marks⟩ := (boundary_record calm held).2 no
    have stays : t = withFirstEnded (boundary false (periodCounts s) order s) := by
      rw [← settled, madeBoundary_eq]
      exact settle_of_held (s := v) record
    have moves : channelMoves (s.runPulse x.request.run) =
        decide ((t.runPulse x.request.run).counting ≠ (s.runPulse x.request.run).counting) := by
      rw [after.runPulse]
      rfl
    have requests := after.bounded.requests
    rw [moves] at marks
    generalize boundary false (periodCounts s) order s = u at stays record history marks requests
    subst stays
    obtain ⟨clean, moved, flags, marks', leaves⟩ := marks
    rw [decide_eq_true_iff] at moved
    rw [decide_eq_false_iff_not] at clean
    exact ⟨degraded, record, requests, history, clean, moved, flags, marks', leaves⟩

theorem recordBounded_of_later {dt : Nat} {order : BoundaryOrder} {x : ProvingRecord} {s t : State}
    (bounded : RecordBounded order x (later dt s) t) : RecordBounded order x s t := by
  unfold RecordBounded at bounded ⊢
  exact bounded

theorem notJudged_of_later {dt : Nat} {s t : State} (kept : NotJudged (later dt s) t) : NotJudged s t := by
  unfold NotJudged at kept ⊢
  exact kept

/-! ### The frame of a boundary -/

/-- The parts that a boundary leaves as they were, beside the scanner, the records and the prover. -/
structure BoundaryFrame (s t : State) : Prop where
  lines : t.lines = s.lines
  clock : t.clock = s.clock
  link : t.link = s.link
  pending : t.pending = s.pending
  counter : t.counter = s.counter
  supply : t.supply = { s.supply with firstPeriod := false }
  detectors : t.pulse.d1 = s.pulse.d1 ∧ t.pulse.d2 = s.pulse.d2
  clockSet : t.totalizer.clockSet = s.totalizer.clockSet
  readings : t.store.snapshot = s.store.snapshot ∧ t.store.substitutes = s.store.substitutes ∧
    t.store.grades = s.store.grades ∧ t.store.gradesCode = s.store.gradesCode
  audit : t.store.audit = s.store.audit ∧ t.store.auditCounter = s.store.auditCounter
  results : t.store.proverEnabled = s.store.proverEnabled ∧ t.store.results = s.store.results
  retention : t.store.formatMark = s.store.formatMark ∧ t.store.codeAgrees = s.store.codeAgrees

/-- What a grant leaves of the parts that a boundary leaves. -/
theorem granted_frame {u t : State} (granted : Granted (withFirstEnded u) t) : t.lines = u.lines ∧ t.clock = u.clock ∧
    t.link = u.link ∧ t.pending = u.pending ∧ t.counter = u.counter ∧
    t.supply = { u.supply with firstPeriod := false } ∧ t.scanner = u.scanner := by
  rw [granted]
  exact ⟨rfl, rfl, rfl, rfl, rfl, rfl, rfl⟩

theorem AfterBoundary.frame {s u t : State} (after : AfterBoundary s u t) : BoundaryFrame s t := by
  obtain ⟨lines, clock, link, pending, counter, supply, -⟩ := granted_frame after.granted
  have bounded := after.bounded
  have store := after.store.trans (congrArg (fun st : Store => { st with
    record := t.store.record, history := t.store.history, provingCounter := t.store.provingCounter }) bounded.store)
  refine ⟨lines.trans bounded.lines, clock.trans bounded.clock, link.trans bounded.link, pending.trans bounded.pending,
    counter.trans bounded.counter, by rw [supply, bounded.supply], ?_, by rw [after.totalizer, bounded.totalizer],
    ?_, ?_, ?_, ?_⟩
  · rw [after.pulse, bounded.pulse]
    exact ⟨rfl, rfl⟩
  all_goals rw [store]
  · exact ⟨rfl, rfl, rfl, rfl⟩
  · exact ⟨rfl, rfl⟩
  · exact ⟨rfl, rfl⟩
  · exact ⟨rfl, rfl⟩

theorem sameScanner_after {s u t : State} (after : AfterBoundary s u t) : SameScanner u t := by
  obtain ⟨-, -, -, -, counter, -, scanner⟩ := granted_frame after.granted
  exact ⟨scanner, by rw [after.store], counter⟩

/-- The scanner after a boundary, as its statement says. -/
theorem ScannerTurned.cases {s t : State} (turned_ : ScannerTurned s t) (coming : s.store.points.pending ≠ none) :
    t.scanner.position = 0 ∧ (s.scanner.converter = none → t.scanner.converter = starts s.scanner.active 0 t) ∧
      (∀ c, s.scanner.converter = some c → t.scanner.converter = some { c with moves := false }) := by
  rw [turned_.2 coming]
  refine ⟨rfl, fun idle => ?_, fun c busy => ?_⟩
  · unfold turned
    rw [idle]
    rfl
  · unfold turned
    rw [busy]
    rfl

/-- A free prover stays free, its requests as they were. -/
theorem free_after {order : BoundaryOrder} {v s t : State} (settled : settle v (madeBoundary order s) = t)
    (before : v.store.record = none) (free : s.store.record = none) : t.store.record = none ∧ t.requests = s.requests ∧
      t.store.history = s.store.history ∧ t.store.provingCounter = s.store.provingCounter := by
  have stays := staysFree_boundary false (periodCounts s) order free
  have bounded := bounded_boundary false (periodCounts s) order s
  have requests := bounded.requests
  have counter : (boundary false (periodCounts s) order s).store.provingCounter = s.store.provingCounter := by
    rw [bounded.store]
  rw [madeBoundary_eq] at settled
  generalize boundary false (periodCounts s) order s = u at settled stays requests counter
  rw [settle_of_same_record (t := withFirstEnded u) (stays.1.trans before.symm)] at settled
  subst settled
  exact ⟨stays.1, requests, stays.2, counter⟩

/-- Settles O36: the frame, the scanner, the records no judgement names, and the record that holds the prover. -/
theorem boundaryLeavesTheRest : Obligations.BoundaryLeavesTheRest := by
  intro dt order s running ends
  have gives := periodBoundary_of_ends (order := order) running ends
  have after := afterBoundary_settle order (later dt s) s
  have record := fun x held => recordBounded_of_later (recordBounded (order := order) (x := x) (v := s) (s := later dt s) rfl held held)
  have free := fun held => free_after (order := order) (v := s) (s := later dt s) rfl held held
  have scanner := (scannerTurned_boundary false (periodCounts (later dt s)) order (later dt s)).of_same (.refl _)
    (sameScanner_after after)
  have kept := notJudged_of_later (notJudged_boundary after.monitor)
  have pulses := after.runPulse
  have frame := after.frame
  generalize settle s (madeBoundary order (later dt s)) = t at *
  exact ⟨t, gives, frame.lines, frame.clock, frame.link, frame.pending, frame.counter, frame.supply, frame.detectors,
    scanner.frame, scanner.1, scanner.cases, fun r => (pulses r).trans (by rw [pulses r]; rfl), kept, frame.clockSet,
    frame.readings, frame.audit, frame.results, frame.retention, free, record⟩

end Sys2Proof.Proofs
end

section
/-! The station link, character by character, and its timers and replies (R174 to R183, R187). -/

namespace Sys2Proof.Proofs

open Sys2Proof Sys2Proof.Machine Sys2Proof.Safety Sys2Proof.Stated Sys2Proof.Laws

/-! ### A character by the receiver's state (R175 to R177) -/

/-- The state in which a character is taken: the silence timer started. -/
def heard (s : State) : State := s.withLink { s.link with silence := some s.counter }

theorem receiveCharacter_of_on {c : Byte} {s : State} (on : s.link.receiver ≠ .off) :
    receiveCharacter c s = takeCharacter c (heard s) := if_neg on

theorem receiveCharacter_of_off {c : Byte} {s : State} (off : s.link.receiver = .off) : receiveCharacter c s = s :=
  if_pos off

/-- A receiver left as it is. -/
theorem setReceiver_self {s : State} {r : Receiver} (is : s.link.receiver = r) : setReceiver r s = s := by
  subst is
  rfl

section Receiver

variable {c : Byte} {s : State}

theorem receive_ready (is : s.link.receiver = .ready) :
    receiveCharacter c s = setReceiver (if c = 0xA5 then .header [] else .waiting) (heard s) := by
  rw [receiveCharacter_of_on (by rw [is]; nofun)]
  unfold takeCharacter
  rw [show (heard s).link.receiver = .ready from is]
  rfl

theorem receive_waiting (is : s.link.receiver = .waiting) :
    receiveCharacter c s = setReceiver .waiting (heard s) := by
  rw [receiveCharacter_of_on (by rw [is]; nofun), setReceiver_self (show (heard s).link.receiver = .waiting from is)]
  unfold takeCharacter
  rw [show (heard s).link.receiver = .waiting from is]

theorem receive_skipping {n : Nat} (is : s.link.receiver = .skipping n) :
    receiveCharacter c s = setReceiver (if n ≤ 1 then .ready else .skipping (n - 1)) (heard s) := by
  rw [receiveCharacter_of_on (by rw [is]; nofun)]
  unfold takeCharacter
  rw [show (heard s).link.receiver = .skipping n from is]

theorem receive_station (is : s.link.receiver = .header []) : receiveCharacter c s = stationCompare c (heard s) := by
  rw [receiveCharacter_of_on (by rw [is]; nofun)]
  unfold takeCharacter
  rw [show (heard s).link.receiver = .header [] from is]

theorem receive_header {st : Byte} {rest : List Byte} (is : s.link.receiver = .header (st :: rest)) :
    receiveCharacter c s = headerCharacter st (st :: rest) c (heard s) := by
  rw [receiveCharacter_of_on (by rw [is]; nofun)]
  unfold takeCharacter
  rw [show (heard s).link.receiver = .header (st :: rest) from is]

theorem receive_body {st ty len : Nat} {tag : Tag} {taken : List Byte} (is : s.link.receiver = .body st ty tag len taken) :
    receiveCharacter c s = bodyCharacter st ty tag len taken c (heard s) := by
  rw [receiveCharacter_of_on (by rw [is]; nofun)]
  unfold takeCharacter
  rw [show (heard s).link.receiver = .body st ty tag len taken from is]

/-! ### The station compare (R176, R183, R187) -/

theorem ownStation_iff : ownStation s c = true ↔ c.toNat = 0 ∨ c.toNat = s.link.station := decide_eq_true_iff

theorem abandonReply_of_none (none_ : ∀ r, s.link.reply ≠ .queued r) : abandonReply s = (s, false) := by
  unfold abandonReply
  split
  next r is => exact absurd is (none_ r)
  · rfl
  · rfl

theorem abandonReply_of_queued {r : Reply} (queued : s.link.reply = .queued r) :
    abandonReply s = if r.restart then (performStart (faulted .replyAbandoned (withoutReply s)), true)
      else (faulted .replyAbandoned (withoutReply s), false) := by
  unfold abandonReply
  rw [queued]
  rfl

theorem stationCompare_of_free (free : ¬(c.toNat = 0 ∨ c.toNat = s.link.station) ∨ ∀ r, s.link.reply ≠ .queued r) :
    stationCompare c s = setReceiver (.header [c]) s := by
  unfold stationCompare
  split
  next own =>
    rw [abandonReply_of_none (free.resolve_left (Classical.not_not.mpr (ownStation_iff.mp own)))]
    rfl
  · rfl

/-- A start takes nothing of the link's state but what the lines give (R188). -/
theorem performStart_withLink (s : State) (l : Link) : performStart (s.withLink l) = performStart s := rfl

theorem stationCompare_of_queued {r : Reply} (own : c.toNat = 0 ∨ c.toNat = s.link.station)
    (queued : s.link.reply = .queued r) :
    stationCompare c s = if r.restart then performStart (faulted .replyAbandoned (withoutReply s))
      else faulted .replyAbandoned (withoutReply (setReceiver (.header [c]) s)) := by
  unfold stationCompare
  rw [if_pos (ownStation_iff.mpr own), abandonReply_of_queued queued]
  cases r.restart <;> rfl

/-! ### The header (R176) -/

theorem headerCharacter_of_more {st : Byte} {taken : List Byte}
    (more : taken.length + 1 < (if st.toNat < 128 then 5 else 6)) :
    headerCharacter st taken c s = setReceiver (.header (taken ++ [c])) s := if_pos more

theorem headerCharacter_of_last {st : Byte} {taken : List Byte}
    (last : taken.length + 1 = (if st.toNat < 128 then 5 else 6)) :
    headerCharacter st taken c s = lengthTaken st taken c.toNat s :=
  if_neg (by unfold headerLength; omega)

theorem lengthTaken_of_other {st : Byte} {header : List Byte} {len : Nat}
    (other : ¬(st.toNat = 0 ∨ st.toNat = s.link.station)) :
    lengthTaken st header len s = setReceiver (.skipping (len + 2)) s :=
  if_neg fun own => other (ownStation_iff.mp own)

theorem lengthTaken_of_own {st : Byte} {header : List Byte} {len : Nat}
    (own : st.toNat = 0 ∨ st.toNat = s.link.station) :
    lengthTaken st header len s = if len ≤ 240 then
        setReceiver (.body st.toNat (numAt header 1 1) (BitVec.ofNat 16 (numAt header 2 2)) len []) s
      else setReceiver .waiting (faulted .length s) := if_pos (ownStation_iff.mpr own)

/-! ### The body (R177) -/

theorem bodyCharacter_of_more {st ty len : Nat} {tag : Tag} {taken : List Byte} (more : taken.length + 1 < len + 2) :
    bodyCharacter st ty tag len taken c s = setReceiver (.body st ty tag len (taken ++ [c])) s :=
  if_pos (by rw [List.length_append]; exact more)

/-! ### The silence timer (R175, R178) -/

theorem silenceExpires_of_not (not : ¬∃ st, s.link.silence = some st ∧ st ≠ s.counter) : silenceExpires s = s := by
  unfold silenceExpires
  split
  · rfl
  next st is =>
    refine if_pos (decide_eq_true ?_)
    refine Classical.byContradiction fun other => ?_
    exact not ⟨st, is, other⟩

theorem silenceExpires_of_expired {st : Stamp} (is : s.link.silence = some st) (other : st ≠ s.counter) :
    silenceExpires s = breakOff (s.withLink { s.link with silence := none }) := by
  unfold silenceExpires
  rw [is]
  exact if_neg (by rw [State.beginsNow, decide_eq_false other]; nofun)

theorem breakOff_of_header {st : Byte} {rest : List Byte} (is : s.link.receiver = .header (st :: rest)) :
    breakOff s = if st.toNat = 0 ∨ st.toNat = s.link.station then faulted .gap (setReceiver .ready s)
      else setReceiver .ready s := by
  unfold breakOff
  rw [is]
  dsimp only
  by_cases own : st.toNat = 0 ∨ st.toNat = s.link.station
  · rw [if_pos own, if_pos (ownStation_iff.mpr own)]
    rfl
  · rw [if_neg own, if_neg fun is => own (ownStation_iff.mp is)]

theorem breakOff_of_body {st ty len : Nat} {tag : Tag} {taken : List Byte}
    (is : s.link.receiver = .body st ty tag len taken) : breakOff s = faulted .gap (setReceiver .ready s) := by
  unfold breakOff
  rw [is]
  rfl

theorem breakOff_of_off (off : s.link.receiver = .off) : breakOff s = s := by
  unfold breakOff
  rw [off]

/-- Where no frame of the part's own is broken off, the receiver is READY (R178). -/
theorem breakOff_of_quiet (quiet : s.link.receiver = .ready ∨ s.link.receiver = .waiting ∨
    s.link.receiver = .header [] ∨ ∃ n, s.link.receiver = .skipping n) : breakOff s = setReceiver .ready s := by
  unfold breakOff
  rcases quiet with is | is | is | ⟨n, is⟩
  · rw [is]
    exact (setReceiver_self is).symm
  · rw [is]
  · rw [is]
  · rw [is]

/-! ### Replies (R182, R183, R187) -/

theorem startReply_of_none (none_ : ∀ r, s.link.reply ≠ .queued r) : startReply s = s := by
  unfold startReply
  split
  next r is => exact absurd is (none_ r)
  · rfl
  · rfl

theorem lineBusy_iff : s.lineBusy = true ↔ s.link.silence = some s.counter := by
  unfold State.lineBusy State.beginsNow
  cases s.link.silence with
  | none => simp
  | some st => simp

theorem startReply_of_queued {r : Reply} (queued : s.link.reply = .queued r) :
    startReply s = if s.link.silence = some s.counter then s else s.withLink { s.link with
      reply := .sending r, sent := replyFrame r, receiver := .off, silence := some s.counter } := by
  unfold startReply
  rw [queued]
  exact if_of_iff lineBusy_iff rfl rfl

theorem deadlineExpires_of_none (none_ : ∀ r, s.link.reply ≠ .queued r) : deadlineExpires s = s := by
  unfold deadlineExpires
  split
  next r is => exact absurd is (none_ r)
  · rfl
  · rfl

theorem deadlineExpires_of_queued {r : Reply} (queued : s.link.reply = .queued r) :
    deadlineExpires s = if r.formed = s.counter then s
      else if r.restart then performStart (faulted .replyAbandoned (withoutReply s))
      else faulted .replyAbandoned (withoutReply s) := by
  unfold deadlineExpires
  rw [queued]
  refine if_of_iff decide_eq_true_iff rfl ?_
  rw [abandonReply_of_queued queued]
  cases r.restart <;> rfl

theorem endReply_of_none (none_ : ∀ r, s.link.reply ≠ .sending r) : endReply s = s := by
  unfold endReply
  split
  next r is => exact absurd is (none_ r)
  · rfl
  · rfl

theorem endReply_of_sending {r : Reply} (sending : s.link.reply = .sending r) :
    endReply s = if r.restart then performStart (s.withLink { s.link with
        reply := .none, sent := [], receiver := .ready, silence := some s.counter })
      else s.withLink { s.link with reply := .none, sent := [], receiver := .ready, silence := some s.counter } := by
  unfold endReply
  rw [sending]

end Receiver

/-- Settles O45: the outcome of each event, by the receiver's state and the reply's. -/
theorem linkEvents : Obligations.LinkEvents := by
  intro dt c s
  refine ⟨fun off => ⟨gives_same_of_halted rfl off, gives_same_of_halted rfl off, gives_same_of_halted rfl off,
    gives_same_of_halted rfl off, gives_same_of_halted rfl off⟩, ?_⟩
  intro running u heard quiet
  have takes {t : State} (outcome : receiveCharacter c (later dt s) = t) : Gives (.characterReceived dt c) s t :=
    gives_whileRunning rfl running outcome
  have silent {t : State} (outcome : silenceExpires (later dt s) = t) : Gives (.silenceTimerExpiry dt) s t :=
    gives_whileRunning rfl running outcome
  have starts {t : State} (outcome : startReply (later dt s) = t) : Gives (.replyStart dt) s t :=
    gives_whileRunning rfl running outcome
  have lapses {t : State} (outcome : deadlineExpires (later dt s) = t) : Gives (.replyDeadlineExpiry dt) s t :=
    gives_whileRunning rfl running outcome
  have ends {t : State} (outcome : endReply (later dt s) = t) : Gives (.replyEnd dt) s t :=
    gives_whileRunning rfl running outcome
  refine ⟨fun is => takes (receive_ready (s := later dt s) is), fun is => takes (receive_waiting (s := later dt s) is),
    fun is => takes (receiveCharacter_of_off (s := later dt s) is),
    fun n is => takes (receive_skipping (s := later dt s) is), fun is => ?_, fun st rest is more => ?_,
    fun st rest is last notAll other => ?_, fun st ty tag1 tag2 is request own short => ?_,
    fun st ty tag len taken is more => ?_, ?_⟩
  · have compares := receive_station (c := c) (s := later dt s) is
    refine ⟨fun free => takes (compares.trans (stationCompare_of_free free)), fun own r queued => ?_⟩
    have compared := compares.trans (stationCompare_of_queued (s := Proofs.heard (later dt s)) own queued)
    refine ⟨fun stays => takes ?_, fun restarts => takes ?_⟩
    · rw [compared, stays]
      rfl
    · rw [compared, restarts]
      rfl
  · exact takes ((receive_header (s := later dt s) is).trans (headerCharacter_of_more more))
  · refine takes ((receive_header (s := later dt s) is).trans ((headerCharacter_of_last (taken := st :: rest) last).trans ?_))
    exact lengthTaken_of_other (s := Proofs.heard (later dt s)) (not_or.mpr ⟨notAll, other⟩)
  · refine takes ((receive_header (s := later dt s) is).trans ((headerCharacter_of_last ?_).trans ?_))
    · rw [if_pos request]
      rfl
    · refine (lengthTaken_of_own (s := Proofs.heard (later dt s)) own).trans ((if_pos short).trans ?_)
      have type_ : numAt [st, ty, tag1, tag2] 1 1 = ty.toNat := by simp [numAt, field, readNat]
      have tag_ : numAt [st, ty, tag1, tag2] 2 2 = tag1.toNat * 256 + tag2.toNat := by simp [numAt, field, readNat]
      rw [type_, tag_]
      rfl
  · exact takes ((receive_body (s := later dt s) is).trans (bodyCharacter_of_more more))
  refine ⟨fun not => silent (silenceExpires_of_not not), ?_, fun r queued => ⟨fun busy => ?_, fun idle => ?_⟩,
    fun none_ => ⟨starts (startReply_of_none none_), lapses (deadlineExpires_of_none none_)⟩, fun r queued => ?_,
    fun r sending => ?_, fun none_ => ends (endReply_of_none none_)⟩
  · rintro ⟨since, running_, passed⟩
    have expired := silenceExpires_of_expired (s := later dt s) running_ passed
    refine ⟨fun lost => silent (expired.trans (breakOff_of_quiet lost)), fun off => silent (expired.trans ?_),
      fun st rest is => silent (expired.trans (breakOff_of_header is)),
      fun st ty tag len taken is => silent (expired.trans (breakOff_of_body is))⟩
    have left : ((later dt s).withLink { s.link with silence := none }).link.receiver = .off := off
    exact (breakOff_of_off left).trans (setReceiver_self left).symm
  · exact starts ((startReply_of_queued (s := later dt s) queued).trans (if_pos busy))
  · exact starts ((startReply_of_queued (s := later dt s) queued).trans (if_neg idle))
  · have lapsed := deadlineExpires_of_queued (s := later dt s) queued
    refine ⟨fun now => lapses (lapsed.trans (if_pos now)), fun past stays => lapses ?_, fun past restarts => lapses ?_⟩
    · rw [lapsed, if_neg past, stays]
      rfl
    · rw [lapsed, if_neg past, restarts]
      rfl
  · have ended := endReply_of_sending (s := later dt s) sending
    refine ⟨fun stays => ends ?_, fun restarts => ends ?_⟩
    · rw [ended, stays]
      rfl
    · rw [ended, restarts]
      rfl

end Sys2Proof.Proofs
end

section
/-! The encodings of numbers on the link, read back (R198). -/

namespace Sys2Proof.Proofs

open Sys2Proof Sys2Proof.Machine Sys2Proof.Safety Sys2Proof.Stated Sys2Proof.Laws

theorem eq_pair_of_length {v : List Byte} (two : v.length = 2) : ∃ a b, v = [a, b] :=
  match v, two with
  | [a, b], _ => ⟨a, b, rfl⟩

theorem foldl_readNat (v : List Byte) (n : Nat) :
    v.foldl (fun acc b => acc * 256 + b.toNat) n = n * 256 ^ v.length + readNat v := by
  unfold readNat
  induction v generalizing n with
  | nil => simp
  | cons a rest ih =>
    rw [List.foldl_cons, List.foldl_cons, ih, ih (0 * 256 + a.toNat), List.length_cons, Nat.pow_succ,
      Nat.add_mul, Nat.zero_mul, Nat.zero_add, Nat.add_assoc, Nat.mul_assoc, Nat.mul_comm 256]

theorem readNat_cons (a : Byte) (rest : List Byte) : readNat (a :: rest) = a.toNat * 256 ^ rest.length + readNat rest := by
  show rest.foldl _ (0 * 256 + a.toNat) = _
  rw [foldl_readNat, Nat.zero_mul, Nat.zero_add]

theorem readNat_lt (v : List Byte) : readNat v < 256 ^ v.length := by
  induction v with
  | nil => decide
  | cons a rest ih =>
    have small : a.toNat < 256 := a.isLt
    have bound : (a.toNat + 1) * 256 ^ rest.length ≤ 256 * 256 ^ rest.length := Nat.mul_le_mul_right _ small
    rw [readNat_cons, List.length_cons, Nat.pow_succ]
    rw [Nat.add_mul] at bound
    omega

theorem length_bigEndian (w v : Nat) : (bigEndian w v).length = w := by
  induction w with
  | zero => rfl
  | succ w ih => rw [bigEndian, List.length_cons, ih]

theorem readNat_bigEndian (w v : Nat) : readNat (bigEndian w v) = v % 256 ^ w := by
  induction w with
  | zero => rw [Nat.pow_zero, Nat.mod_one]; rfl
  | succ w ih =>
    rw [bigEndian, readNat_cons, ih, length_bigEndian, BitVec.toNat_ofNat, Nat.mod_pow_succ (b := 256), Nat.add_comm, Nat.mul_comm]

/-- Characters of one length spell one number. -/
theorem eq_of_readNat_eq {v u : List Byte} (length : v.length = u.length) (same : readNat v = readNat u) : v = u := by
  induction v generalizing u with
  | nil => exact (List.length_eq_zero_iff.mp length.symm).symm
  | cons a rest ih =>
    cases u with
    | nil => nomatch length
    | cons b tail =>
      have lengths : rest.length = tail.length := Nat.succ.inj length
      rw [readNat_cons, readNat_cons, lengths] at same
      have restBound := readNat_lt rest
      have tailBound := readNat_lt tail
      rw [lengths] at restBound
      have positive : 0 < 256 ^ tail.length := Nat.pow_pos (by decide)
      have heads : a.toNat = b.toNat := by
        have div := congrArg (· / 256 ^ tail.length) same
        simp only [Nat.mul_comm _ (256 ^ tail.length), Nat.mul_add_div positive, Nat.div_eq_of_lt restBound,
          Nat.div_eq_of_lt tailBound, Nat.add_zero] at div
        exact div
      rw [heads] at same
      rw [BitVec.eq_of_toNat_eq heads, ih lengths (Nat.add_left_cancel same)]

theorem bigEndian_readNat (v : List Byte) : bigEndian v.length (readNat v) = v := by
  refine eq_of_readNat_eq (length_bigEndian _ _) ?_
  rw [readNat_bigEndian, Nat.mod_eq_of_lt (readNat_lt v)]

theorem num_of_lt {w v : Nat} (fits : v < 256 ^ w) : num w v = bigEndian w v := if_pos fits

theorem readNat_num {w v : Nat} (fits : v < 256 ^ w) : readNat (num w v) = v := by
  rw [num_of_lt fits, readNat_bigEndian, Nat.mod_eq_of_lt fits]

theorem num_readNat {w : Nat} {v : List Byte} (length : v.length = w) : num w (readNat v) = v := by
  subst length
  rw [num_of_lt (readNat_lt v), bigEndian_readNat]

theorem length_overflowField (w : Nat) (v : Int) : (overflowField w v).length = w := by
  unfold overflowField
  rw [List.length_map, List.length_range]

/-- A number field keeps its width, whatever its value. -/
theorem length_num (w v : Nat) : (num w v).length = w := by
  unfold num
  split
  · exact length_bigEndian _ _
  · exact length_overflowField _ _

end Sys2Proof.Proofs
end

section
/-! Request bodies by type and length, and the frames of the part's own that are not taken (R176, R179, R181, R198). -/

namespace Sys2Proof.Proofs

open Sys2Proof Sys2Proof.Machine Sys2Proof.Safety Sys2Proof.Stated Sys2Proof.Laws

/-! ### Types and lengths -/

theorem parse_of_unknown {type : Nat} (unknown : type = 0 ∨ 42 < type) (body : List Byte) :
    parse type body = .unknownType := by
  unfold parse
  split <;> first | rfl | omega

theorem sized_of_other {n : Nat} {body : List Byte} (other : body.length ∉ [n]) (f : State → State × Answer) :
    sized n body f = .badLength := if_neg fun is => other (List.mem_singleton.mpr is)

theorem sizedOr_of_other {n m : Nat} {body : List Byte} (other : body.length ∉ [n, m]) (f g : State → State × Answer) :
    sizedOr n f m g body = .badLength := by
  rw [List.mem_cons, List.mem_singleton, not_or] at other
  unfold sizedOr
  rw [if_neg other.1, if_neg other.2]

/-- A body of a length its type does not allow (R181, R198). -/
theorem parse_of_badLength {type : Nat} (least : 1 ≤ type) (most : type ≤ 42) (notGroups : type ≠ 34) {body : List Byte}
    (other : body.length ∉ lengths type) : parse type body = .badLength := by
  match type with
  | 0 => nomatch least
  | 34 => exact absurd rfl notGroups
  | 3 | 6 | 12 | 19 | 24 | 32 | 33 | 38 => exact sizedOr_of_other other _ _
  | 1 | 2 | 4 | 5 | 7 | 8 | 9 | 10 | 11 | 13 | 14 | 15 | 16 | 17 | 18 | 20 | 21 | 22 | 23 | 25 | 26 | 27 | 28 | 29 | 30
  | 31 | 35 | 36 | 37 | 39 | 40 | 41 | 42 => exact sized_of_other other _
  | n + 43 => omega

/-! ### Groups (R198) -/

/-- A group as it stands on the link. -/
def groupCharacters (g : FieldGroup) : List Byte := num 2 g.index ++ num 1 g.value.length ++ g.value

theorem wireGroups_zero_cons (a : Byte) (rest : List Byte) : wireGroups 0 (a :: rest) = none := rfl

theorem wireGroups_cons (k : Nat) (a b n : Byte) (rest : List Byte) : wireGroups (k + 1) (a :: b :: n :: rest) =
    if n.toNat ≤ rest.length then
      (wireGroups k (rest.drop n.toNat)).map fun gs => { index := readNat [a, b], value := rest.take n.toNat } :: gs
    else none := rfl

/-- The groups read from characters fill them. -/
theorem filled_of_wireGroups {k : Nat} {v : List Byte} {gs : List FieldGroup} (read : wireGroups k v = some gs) :
    (∀ g ∈ gs, g.index < 65536 ∧ g.value.length < 256) ∧ v = (gs.map groupCharacters).flatten := by
  induction k generalizing v gs with
  | zero =>
    cases v with
    | nil =>
      rw [← Option.some.inj read]
      exact ⟨nofun, rfl⟩
    | cons a rest => nomatch read
  | succ k ih =>
    match v, read with
    | [], read =>
      rw [← Option.some.inj read]
      exact ⟨nofun, rfl⟩
    | [a], read => nomatch read
    | [a, b], read => nomatch read
    | a :: b :: n :: rest, read =>
      rw [wireGroups_cons] at read
      split at read
      next short =>
        obtain ⟨later_, readLater, is⟩ := Option.map_eq_some_iff.mp read
        obtain ⟨fit, fills⟩ := ih readLater
        subst is
        have count : (rest.take n.toNat).length = n.toNat := by rw [List.length_take, Nat.min_eq_left short]
        refine ⟨fun g listed => ?_, ?_⟩
        · rcases List.mem_cons.mp listed with rfl | inLater
          · have index : readNat [a, b] < 256 ^ 2 := readNat_lt [a, b]
            exact ⟨Nat.lt_of_lt_of_eq index (by decide), by rw [count]; exact n.isLt⟩
          · exact fit g inLater
        · have index : num 2 (readNat [a, b]) = [a, b] := num_readNat rfl
          have size : num 1 (rest.take n.toNat).length = [n] := by
            rw [count]
            have one : readNat [n] = n.toNat := by simp [readNat]
            rw [← one]
            exact num_readNat rfl
          rw [List.map_cons, List.flatten_cons, ← fills, groupCharacters, index, size]
          simp
      · nomatch read

theorem parseCstg_of_unfilled {body : List Byte} (unfilled : ¬groupsFill body) : parseCstg body = .badLength := by
  unfold parseCstg
  split
  next b rest =>
    split
    next g gs read =>
      obtain ⟨fit, fills⟩ := filled_of_wireGroups read
      exact absurd ⟨b, g :: gs, nofun, fit, congrArg (b :: ·) fills⟩ unfilled
    · rfl
  · rfl

/-! ### A complete frame (R177, R179, R181) -/

section Complete

variable {c x : Byte} {s : State} {st ty : Nat} {tag : Tag} {body : List Byte}

theorem bodyCharacter_of_last (last : List Byte) (two : last.length = 1) :
    bodyCharacter st ty tag body.length (body ++ last) c s = completeFrame st ty tag body (last ++ [c]) s := by
  have length : ¬(body ++ last ++ [c]).length < body.length + 2 := by
    rw [List.length_append, List.length_append, two]
    exact Nat.lt_irrefl _
  unfold bodyCharacter
  dsimp only
  rw [if_neg length, List.append_assoc, List.take_left, List.drop_left]

/-- The frame check of the station, type, tag, length and body of a frame. -/
def frameCheck (st ty : Nat) (tag : Tag) (body : List Byte) : List Byte :=
  bigEndian 2 (crc16 (num 1 st ++ num 1 ty ++ bigEndian 2 tag.toNat ++ num 1 body.length ++ body)).toNat

theorem completeFrame_of_wrong {check : List Byte} (wrong : check ≠ frameCheck st ty tag body) :
    completeFrame st ty tag body check s = faulted .crc (setReceiver .ready s) := if_neg wrong

theorem completeFrame_of_reset (reset : (setReceiver .ready s).resetInstant = true) :
    completeFrame st ty tag body (frameCheck st ty tag body) s = setReceiver .ready s :=
  (if_pos rfl).trans (if_pos reset)

theorem completeFrame_of_taken (taken : ¬(setReceiver .ready s).resetInstant = true) :
    completeFrame st ty tag body (frameCheck st ty tag body) s =
      if st = 0 then takeBroadcast ty body (setReceiver .ready s) else takeFrame ty tag body (setReceiver .ready s) :=
  (if_pos rfl).trans (if_neg taken)

end Complete

/-- Settles O46: a length above 240 and a complete frame, by its check, its type and its length. -/
theorem badFramesOfItsOwn : Obligations.BadFramesOfItsOwn := by
  intro dt c s running u ready
  have takes {t : State} (outcome : receiveCharacter c (later dt s) = t) : Gives (.characterReceived dt c) s t :=
    gives_whileRunning rfl running outcome
  refine ⟨fun st ty tag1 tag2 is own long => ?_, fun st ty tag body x is => ?_⟩
  · have request : st.toNat < 128 := own.elim (fun all => by omega) (fun other => other.2)
    have own' : st.toNat = 0 ∨ st.toNat = s.link.station := own.imp_right And.left
    refine takes ((receive_header (s := later dt s) is).trans ((headerCharacter_of_last ?_).trans ?_))
    · rw [if_pos request]
      rfl
    · exact (lengthTaken_of_own (s := heard (later dt s)) own').trans (if_neg (Nat.not_le.mpr long))
  · have completes : receiveCharacter c (later dt s) = completeFrame st ty tag body [x, c] (heard (later dt s)) :=
      (receive_body (s := later dt s) is).trans (bodyCharacter_of_last [x] rfl)
    intro crc refused
    have resets : (setReceiver .ready (heard (later dt s))).resetInstant = true ↔ AtReset (later dt s) :=
      resetInstant_iff_atReset (later dt s)
    refine ⟨fun wrong => takes (completes.trans (completeFrame_of_wrong wrong)), fun right reset => takes ?_,
      fun right not own => ?_⟩
    · rw [completes, right]
      exact completeFrame_of_reset (resets.mpr reset)
    · have taken : receiveCharacter c (later dt s) = takeFrame ty tag body ready := by
        rw [completes, right]
        exact (completeFrame_of_taken fun reset => not (resets.mp reset)).trans (if_neg own)
      refine ⟨fun unknown => takes (taken.trans ?_), fun least most notGroups other => takes (taken.trans ?_),
        fun groups unfilled => takes (taken.trans ?_)⟩
      · unfold takeFrame
        rw [parse_of_unknown unknown]
        rfl
      · unfold takeFrame
        rw [parse_of_badLength least most notGroups other]
        rfl
      · unfold takeFrame
        rw [groups, show parse 34 body = .badLength from parseCstg_of_unfilled unfilled]
        rfl

end Sys2Proof.Proofs
end

section
/-! The fields of request bodies, read back as they are spelled (R197, R198). -/

namespace Sys2Proof.Proofs

open Sys2Proof Sys2Proof.Machine Sys2Proof.Safety Sys2Proof.Stated Sys2Proof.Laws

/-! ### Fields at their places -/

theorem field_all {v : List Byte} {w : Nat} (length : v.length = w) : field v 0 w = v := by
  unfold field
  rw [List.drop_zero, List.take_of_length_le (Nat.le_of_eq length)]

/-- The field that ends a body. -/
theorem field_last {pre v : List Byte} {off w : Nat} (place : pre.length = off) (length : v.length = w) :
    field (pre ++ v) off w = v := by
  unfold field
  rw [List.drop_left' place, List.take_of_length_le (Nat.le_of_eq length)]

/-- A field that another follows. -/
theorem field_before {pre v : List Byte} {off w : Nat} (inside : off + w ≤ pre.length) :
    field (pre ++ v) off w = field pre off w := by
  unfold field
  rw [List.drop_append_of_le_length (by omega), List.take_append_of_le_length (by rw [List.length_drop]; omega)]

theorem numAt_all {w v : Nat} (fits : v < 256 ^ w) : numAt (num w v) 0 w = v := by
  unfold numAt
  rw [field_all (length_num w v), readNat_num fits]

theorem numAt_last {pre : List Byte} {off w v : Nat} (place : pre.length = off) (fits : v < 256 ^ w) :
    numAt (pre ++ num w v) off w = v := by
  unfold numAt
  rw [field_last place (length_num w v), readNat_num fits]

theorem numAt_before {pre v : List Byte} {off w : Nat} (inside : off + w ≤ pre.length) :
    numAt (pre ++ v) off w = numAt pre off w := congrArg readNat (field_before inside)

/-! ### Signed numbers -/

theorem length_signed (w : Nat) (v : Int) : (signed w v).length = w := by
  unfold signed
  split
  · exact length_bigEndian _ _
  · exact length_overflowField _ _

theorem readInt_signed {v : Int} (fits : -2147483648 ≤ v ∧ v ≤ 2147483647) : readInt (signed 4 v) = v := by
  have wide : (256 ^ 4 : Nat) = 4294967296 := by decide
  have spelled_ : signed 4 v = bigEndian 4 (v % 4294967296).toNat := if_pos (by rw [wide]; omega)
  have read : readNat (bigEndian 4 (v % 4294967296).toNat) = (v % 4294967296).toNat := by
    rw [readNat_bigEndian, wide]
    omega
  unfold readInt
  rw [spelled_, read, length_bigEndian, wide]
  dsimp only
  split <;> omega

/-! ### Texts -/

theorem untext_text {w : Nat} {t : List Byte} (last : t.getLast? ≠ some 0) : untext (text w t) = t := by
  have zeros (k : Nat) (v : List Byte) : (List.replicate k (0 : Byte) ++ v).dropWhile (· == 0) = v.dropWhile (· == 0) := by
    induction k with
    | zero => rfl
    | succ k ih => exact ih
  have stays : t.reverse.dropWhile (· == 0) = t.reverse := by
    rcases reversed : t.reverse with _ | ⟨a, rest⟩
    · rfl
    · have head : a ≠ 0 := fun zero => last (by
        rw [← List.head?_reverse, reversed, zero]
        rfl)
      exact List.dropWhile_cons_of_neg (by simpa using head)
  unfold untext text
  rw [List.reverse_append, List.reverse_replicate, zeros, stays, List.reverse_reverse]

theorem length_text {w : Nat} {t : List Byte} (fits : t.length ≤ w) : (text w t).length = w := by
  unfold text
  rw [List.length_append, List.length_replicate]
  omega

/-! ### Optional fields -/

theorem wireOptional_optional (w : Nat) (x : Option (List Byte)) : wireOptional (optional w x) = some x := by
  cases x with
  | none =>
    unfold wireOptional Machine.optional
    simp
  | some v => rfl

theorem length_optional {w : Nat} {x : Option (List Byte)} (fits : ∀ v, x = some v → v.length = w) :
    (optional w x).length = w + 1 := by
  cases x with
  | none => exact congrArg (· + 1) List.length_replicate
  | some v => exact congrArg (· + 1) (fits v rfl)

/-! ### Groups -/

theorem wireGroups_nil (k : Nat) : wireGroups k [] = some [] := by
  cases k <;> rfl

theorem wireGroups_characters {gs : List FieldGroup} (fit : ∀ g ∈ gs, g.index < 256 ^ 2 ∧ g.value.length < 256 ^ 1) {k : Nat}
    (fuel : (gs.map groupCharacters).flatten.length ≤ k) : wireGroups k (gs.map groupCharacters).flatten = some gs := by
  induction gs generalizing k with
  | nil => exact wireGroups_nil k
  | cons g rest ih =>
    obtain ⟨index, size⟩ := fit g List.mem_cons_self
    obtain ⟨a, b, ab⟩ := eq_pair_of_length (length_num 2 g.index)
    obtain ⟨n, one⟩ := List.length_eq_one_iff.mp (length_num 1 g.value.length)
    have readIndex : readNat [a, b] = g.index := by rw [← ab, readNat_num index]
    have readSize : n.toNat = g.value.length := by
      have read := readNat_num size
      rw [one] at read
      simpa [readNat] using read
    have spelled_ : ((g :: rest).map groupCharacters).flatten =
        a :: b :: n :: (g.value ++ (rest.map groupCharacters).flatten) := by
      rw [List.map_cons, List.flatten_cons, groupCharacters, ab, one]
      simp
    rw [spelled_] at fuel ⊢
    cases k with
    | zero => nomatch fuel
    | succ k =>
      have left : (rest.map groupCharacters).flatten.length ≤ k := by
        simp only [List.length_cons, List.length_append] at fuel
        omega
      rw [wireGroups_cons, readSize, if_pos (by rw [List.length_append]; exact Nat.le_add_right _ _), List.drop_left,
        List.take_left, ih (fun g' listed => fit g' (List.mem_cons_of_mem _ listed)) left, readIndex]
      rfl

end Sys2Proof.Proofs
end

section
/-! Every well-formed request, spelled as a body, is parsed as itself (R197, R198). -/

namespace Sys2Proof.Proofs

open Sys2Proof Sys2Proof.Machine Sys2Proof.Safety Sys2Proof.Stated Sys2Proof.Laws

/-- What takes a request. -/
abbrev Handler := State → State × Answer

/-! ### Bodies of one form -/

section Forms

variable {a b c d w v u x : Nat}

theorem sized_one (fa : a < 256 ^ w) (f : Nat → Handler) :
    sized w (num w a) (f (numAt (num w a) 0 w)) = .request (f a) := by
  rw [numAt_all fa]
  exact if_pos (length_num w a)

theorem sized_two (fa : a < 256 ^ w) (fb : b < 256 ^ v) (f : Nat → Nat → Handler) :
    let body := num w a ++ num v b
    sized (w + v) body (f (numAt body 0 w) (numAt body w v)) = .request (f a b) := by
  intro body
  have first : numAt body 0 w = a := by
    rw [numAt_before (Nat.le_of_eq (by rw [length_num, Nat.zero_add])), numAt_all fa]
  rw [first, numAt_last (length_num w a) fb]
  exact if_pos (by rw [List.length_append, length_num, length_num])

theorem sized_three (fa : a < 256 ^ w) (fb : b < 256 ^ v) (fc : c < 256 ^ u) (f : Nat → Nat → Nat → Handler) :
    let body := num w a ++ num v b ++ num u c
    sized (w + v + u) body (f (numAt body 0 w) (numAt body w v) (numAt body (w + v) u)) = .request (f a b c) := by
  intro body
  have pre : (num w a ++ num v b).length = w + v := by rw [List.length_append, length_num, length_num]
  have first : numAt body 0 w = a := by
    rw [numAt_before (by rw [pre]; omega), numAt_before (Nat.le_of_eq (by rw [length_num, Nat.zero_add])), numAt_all fa]
  have second : numAt body w v = b := by
    rw [numAt_before (Nat.le_of_eq (by rw [pre])), numAt_last (length_num w a) fb]
  rw [first, second, numAt_last pre fc]
  exact if_pos (by rw [List.length_append, pre, length_num])

theorem sized_four (fa : a < 256 ^ w) (fb : b < 256 ^ v) (fc : c < 256 ^ u) (fd : d < 256 ^ x)
    (f : Nat → Nat → Nat → Nat → Handler) :
    let body := num w a ++ num v b ++ num u c ++ num x d
    sized (w + v + u + x) body
      (f (numAt body 0 w) (numAt body w v) (numAt body (w + v) u) (numAt body (w + v + u) x)) = .request (f a b c d) := by
  intro body
  have pre : (num w a ++ num v b).length = w + v := by rw [List.length_append, length_num, length_num]
  have pre' : (num w a ++ num v b ++ num u c).length = w + v + u := by rw [List.length_append, pre, length_num]
  have first : numAt body 0 w = a := by
    rw [numAt_before (by rw [pre']; omega), numAt_before (by rw [pre]; omega),
      numAt_before (Nat.le_of_eq (by rw [length_num, Nat.zero_add])), numAt_all fa]
  have second : numAt body w v = b := by
    rw [numAt_before (by rw [pre']; omega), numAt_before (Nat.le_of_eq (by rw [pre])), numAt_last (length_num w a) fb]
  have third : numAt body (w + v) u = c := by
    rw [numAt_before (Nat.le_of_eq (by rw [pre'])), numAt_last pre fc]
  rw [first, second, third, numAt_last pre' fd]
  exact if_pos (by rw [List.length_append, pre', length_num])

/-- A reading request that names something or names none, before its part. -/
theorem sizedOr_named {q : Option Nat} {part : Nat} (wide : 0 < w) (fq : ∀ n, q = some n → n < 256 ^ w)
    (fp : part < 256 ^ 1) (f : Option Nat → Nat → Handler) :
    let body := (q.map (num w)).getD [] ++ num 1 part
    sizedOr 1 (f none (numAt body 0 1)) (w + 1) (f (some (numAt body 0 w)) (numAt body w 1)) body =
      .request (f q part) := by
  intro body
  cases q with
  | none =>
    have all : numAt body 0 1 = part := numAt_all fp
    rw [all]
    exact if_pos (length_num 1 part)
  | some n =>
    have first : numAt body 0 w = n := by
      show numAt (num w n ++ num 1 part) 0 w = n
      rw [numAt_before (Nat.le_of_eq (by rw [length_num, Nat.zero_add])), numAt_all (fq n rfl)]
    have second : numAt body w 1 = part := numAt_last (length_num w n) fp
    have length : body.length = w + 1 := by
      show (num w n ++ num 1 part).length = w + 1
      rw [List.length_append, length_num, length_num]
    rw [first, second]
    exact (if_neg (by omega)).trans (if_pos length)

end Forms

/-! ### The other bodies -/

theorem parse_subs {point : Nat} {value : Int} (fp : point < 256 ^ 1) (fv : -2147483648 ≤ value ∧ value ≤ 2147483647) :
    parse 4 (num 1 point ++ signed 4 value) = .request (reqSubs point value) := by
  have first : numAt (num 1 point ++ signed 4 value) 0 1 = point := by
    rw [numAt_before (Nat.le_of_eq (by rw [length_num])), numAt_all fp]
  have second : field (num 1 point ++ signed 4 value) 1 4 = signed 4 value :=
    field_last (length_num 1 point) (length_signed 4 value)
  show sized 5 _ (reqSubs (numAt _ 0 1) (readInt (field _ 1 4))) = _
  rw [first, second, readInt_signed fv]
  exact if_pos (by rw [List.length_append, length_num, length_signed])

theorem parse_gset {grade alpha f rho : Nat} {name : List Byte} (fg : grade < 256 ^ 1) (long : name.length ≤ 12)
    (last : name.getLast? ≠ some 0) (fa : alpha < 256 ^ 4) (ff : f < 256 ^ 4) (fr : rho < 256 ^ 2) :
    parse 11 (num 1 grade ++ text 12 name ++ num 4 alpha ++ num 4 f ++ num 2 rho) =
      .request (reqGset grade name alpha f rho) := by
  have pre : (num 1 grade ++ text 12 name).length = 13 := by rw [List.length_append, length_num, length_text long]
  have pre' : (num 1 grade ++ text 12 name ++ num 4 alpha).length = 17 := by rw [List.length_append, pre, length_num]
  have pre'' : (num 1 grade ++ text 12 name ++ num 4 alpha ++ num 4 f).length = 21 := by
    rw [List.length_append, pre', length_num]
  have grade_ : numAt (num 1 grade ++ text 12 name ++ num 4 alpha ++ num 4 f ++ num 2 rho) 0 1 = grade := by
    rw [numAt_before (by rw [pre'']; decide), numAt_before (by rw [pre']; decide), numAt_before (by rw [pre]; decide),
      numAt_before (Nat.le_of_eq (by rw [length_num])), numAt_all fg]
  have name_ : field (num 1 grade ++ text 12 name ++ num 4 alpha ++ num 4 f ++ num 2 rho) 1 12 = text 12 name := by
    rw [field_before (by rw [pre'']; decide), field_before (by rw [pre']; decide), field_before (Nat.le_of_eq (by rw [pre])),
      field_last (length_num 1 grade) (length_text long)]
  have alpha_ : numAt (num 1 grade ++ text 12 name ++ num 4 alpha ++ num 4 f ++ num 2 rho) 13 4 = alpha := by
    rw [numAt_before (by rw [pre'']; decide), numAt_before (Nat.le_of_eq (by rw [pre'])), numAt_last pre fa]
  have f_ : numAt (num 1 grade ++ text 12 name ++ num 4 alpha ++ num 4 f ++ num 2 rho) 17 4 = f := by
    rw [numAt_before (Nat.le_of_eq (by rw [pre''])), numAt_last pre' ff]
  show sized 23 _ (reqGset (numAt _ 0 1) (untext (field _ 1 12)) (numAt _ 13 4) (numAt _ 17 4) (numAt _ 21 2)) = _
  rw [grade_, name_, alpha_, f_, numAt_last pre'' fr, untext_text last]
  exact if_pos (by rw [List.length_append, pre'', length_num])

theorem parse_pacc {run : Nat} (fr : run < 256 ^ 1) (confirm : Bool) :
    parse 25 (num 1 run ++ [if confirm then 1 else 0]) = .request (reqPacc run (some confirm)) := by
  have first : numAt (num 1 run ++ [if confirm then 1 else 0]) 0 1 = run := by
    rw [numAt_before (Nat.le_of_eq (by rw [length_num])), numAt_all fr]
  have second : wireConfirm (numAt (num 1 run ++ [if confirm then 1 else 0]) 1 1) = some confirm := by
    have one : field (num 1 run ++ [if confirm then 1 else 0]) 1 1 = [if confirm then 1 else 0] :=
      field_last (length_num 1 run) rfl
    unfold numAt
    rw [one]
    cases confirm <;> rfl
  show sized 2 _ (reqPacc (numAt _ 0 1) (wireConfirm (numAt _ 1 1))) = _
  rw [first, second]
  exact if_pos (by rw [List.length_append, length_num]; rfl)

theorem parse_cndc {target : Option (Nat × Nat)} (ft : ∀ p, target = some p → p.1 < 256 ^ 1 ∧ p.2 < 256 ^ 1) :
    parse 33 ((target.map fun x => num 1 x.1 ++ num 1 x.2).getD []) = .request (reqCndc target) := by
  cases target with
  | none => rfl
  | some p =>
    obtain ⟨fk, fs⟩ := ft p rfl
    have first : numAt (num 1 p.1 ++ num 1 p.2) 0 1 = p.1 := by rw [numAt_before (Nat.le_of_eq (by rw [length_num])), numAt_all fk]
    have length : (num 1 p.1 ++ num 1 p.2).length = 2 := by rw [List.length_append, length_num, length_num]
    show sizedOr 0 (reqCndc none) 2 (reqCndc (some (numAt (num 1 p.1 ++ num 1 p.2) 0 1, numAt (num 1 p.1 ++ num 1 p.2) 1 1)))
      (num 1 p.1 ++ num 1 p.2) = _
    rw [first, numAt_last (length_num 1 p.1) fs]
    exact (if_neg (by rw [length]; decide)).trans (if_pos length)

theorem map_num_fits {w : Nat} {q : Option Nat} : ∀ v, q.map (num w) = some v → v.length = w := by
  intro v is
  obtain ⟨n, -, is⟩ := Option.map_eq_some_iff.mp is
  rw [← is, length_num]

theorem map_readNat_num {w : Nat} {q : Option Nat} (fq : ∀ n, q = some n → n < 256 ^ w) :
    (q.map (num w)).map readNat = q := by
  cases q with
  | none => rfl
  | some n => exact congrArg some (readNat_num (fq n rfl))

theorem parse_mfgt {run part : Nat} {rate : Option Nat} (fr : run < 256 ^ 1) (fq : ∀ n, rate = some n → n < 256 ^ 4)
    (fp : part < 256 ^ 1) :
    parse 29 (num 1 run ++ optional 4 (rate.map (num 4)) ++ num 1 part) = .request (reqMfgt run rate part) := by
  have wide : (optional 4 (rate.map (num 4))).length = 5 := length_optional map_num_fits
  have pre : (num 1 run ++ optional 4 (rate.map (num 4))).length = 6 := by rw [List.length_append, length_num, wide]
  have run_ : numAt (num 1 run ++ optional 4 (rate.map (num 4)) ++ num 1 part) 0 1 = run := by
    rw [numAt_before (by rw [pre]; decide), numAt_before (Nat.le_of_eq (by rw [length_num])), numAt_all fr]
  have rate_ : field (num 1 run ++ optional 4 (rate.map (num 4)) ++ num 1 part) 1 5 = optional 4 (rate.map (num 4)) := by
    rw [field_before (Nat.le_of_eq (by rw [pre])), field_last (length_num 1 run) wide]
  show parseMfgt _ = _
  unfold parseMfgt
  rw [run_, rate_, numAt_last pre fp, wireOptional_optional]
  dsimp only
  rw [map_readNat_num fq]
  exact if_pos (by rw [List.length_append, pre, length_num])

theorem parse_bsch {id grade : Nat} {nomination : Option Nat} {destination : Option (List Byte)} (fi : id < 256 ^ 3)
    (fg : grade < 256 ^ 1) (fn : ∀ n, nomination = some n → n < 256 ^ 5)
    (fd : ∀ d, destination = some d → d.length ≤ 8 ∧ d.getLast? ≠ some 0) :
    parse 13 (num 3 id ++ num 1 grade ++ optional 5 (nomination.map (num 5)) ++ optional 8 (destination.map (text 8))) =
      .request (reqBsch id grade nomination destination) := by
  have texts : ∀ v, destination.map (text 8) = some v → v.length = 8 := fun v is => by
    obtain ⟨d, some_, is⟩ := Option.map_eq_some_iff.mp is
    rw [← is, length_text (fd d some_).1]
  have untexts : (destination.map (text 8)).map untext = destination := by
    cases destination with
    | none => rfl
    | some d => exact congrArg some (untext_text (fd d rfl).2)
  have wide : (optional 5 (nomination.map (num 5))).length = 6 := length_optional map_num_fits
  have wide' : (optional 8 (destination.map (text 8))).length = 9 := length_optional texts
  have pre : (num 3 id ++ num 1 grade).length = 4 := by rw [List.length_append, length_num, length_num]
  have pre' : (num 3 id ++ num 1 grade ++ optional 5 (nomination.map (num 5))).length = 10 := by
    rw [List.length_append, pre, wide]
  generalize tail : optional 8 (destination.map (text 8)) = v at wide' ⊢
  have id_ : numAt (num 3 id ++ num 1 grade ++ optional 5 (nomination.map (num 5)) ++ v) 0 3 = id := by
    rw [numAt_before (by rw [pre']; decide), numAt_before (by rw [pre]; decide), numAt_before (Nat.le_of_eq (by rw [length_num])),
      numAt_all fi]
  have grade_ : numAt (num 3 id ++ num 1 grade ++ optional 5 (nomination.map (num 5)) ++ v) 3 1 = grade := by
    rw [numAt_before (by rw [pre']; decide), numAt_before (Nat.le_of_eq (by rw [pre])), numAt_last (length_num 3 id) fg]
  have nomination_ : field (num 3 id ++ num 1 grade ++ optional 5 (nomination.map (num 5)) ++ v) 4 6 =
      optional 5 (nomination.map (num 5)) := by
    rw [field_before (Nat.le_of_eq (by rw [pre'])), field_last pre wide]
  show parseBsch _ = _
  unfold parseBsch
  rw [id_, grade_, nomination_, field_last pre' wide', ← tail, wireOptional_optional, wireOptional_optional]
  dsimp only
  rw [map_readNat_num fn, untexts]
  exact if_pos (by rw [List.length_append, pre', tail, wide'])

theorem parse_cstg {block : Nat} {groups : List FieldGroup} (fb : block < 256 ^ 1) (some_ : groups ≠ [])
    (fit : ∀ g ∈ groups, g.index < 256 ^ 2 ∧ g.value.length < 256 ^ 1) :
    parse 34 (num 1 block ++ (groups.map groupCharacters).flatten) = .request (reqCstg block groups) := by
  obtain ⟨a, one⟩ := List.length_eq_one_iff.mp (length_num 1 block)
  have read : a.toNat = block := by
    have reads := readNat_num fb
    rw [one] at reads
    simpa [readNat] using reads
  have groups_ := wireGroups_characters fit (Nat.le_refl _)
  rw [one]
  show (match wireGroups (groups.map groupCharacters).flatten.length (groups.map groupCharacters).flatten with
    | some (g :: gs) => Parsed.request (reqCstg a.toNat (g :: gs))
    | _ => .badLength) = _
  rw [groups_, read]
  cases groups with
  | nil => exact absurd rfl some_
  | cons g gs => rfl

end Sys2Proof.Proofs
end

section
/-! Each well-formed request is the handler its spelled frame is parsed as (R181, R197, R198). -/

namespace Sys2Proof.Proofs

open Sys2Proof Sys2Proof.Machine Sys2Proof.Safety Sys2Proof.Stated Sys2Proof.Laws

/-! ### Well-formed operands -/

theorem fits_iff {w n : Nat} : fits w n = true ↔ n < 256 ^ w := decide_eq_true_iff

theorem optFits_iff {w : Nat} {q : Option Nat} : optFits w q = true ↔ ∀ n, q = some n → n < 256 ^ w := by
  cases q with
  | none => exact ⟨fun _ => nofun, fun _ => rfl⟩
  | some n => exact ⟨fun is m same => Option.some.inj same ▸ fits_iff.mp is, fun all => fits_iff.mpr (all n rfl)⟩

theorem fitsText_iff {w : Nat} {t : List Byte} : fitsText w t = true ↔ t.length ≤ w ∧ t.getLast? ≠ some 0 := by
  unfold fitsText
  rw [Bool.and_eq_true, decide_eq_true_iff, decide_eq_true_iff]

theorem optFitsText_iff {w : Nat} {t : Option (List Byte)} :
    optFitsText w t = true ↔ ∀ d, t = some d → d.length ≤ w ∧ d.getLast? ≠ some 0 := by
  cases t with
  | none => exact ⟨fun _ => nofun, fun _ => rfl⟩
  | some d => exact ⟨fun is d' same => Option.some.inj same ▸ fitsText_iff.mp is, fun all => fitsText_iff.mpr (all d rfl)⟩

theorem wfTarget_iff {target : Option (Nat × Nat)} :
    wfTarget target = true ↔ ∀ p, target = some p → p.1 < 256 ^ 1 ∧ p.2 < 256 ^ 1 := by
  cases target with
  | none => exact ⟨fun _ => nofun, fun _ => rfl⟩
  | some p =>
    have both : wfTarget (some p) = true ↔ p.1 < 256 ^ 1 ∧ p.2 < 256 ^ 1 := by
      rw [← fits_iff, ← fits_iff]
      exact Bool.and_eq_true_iff
    exact ⟨fun is p' same => Option.some.inj same ▸ both.mp is, fun all => both.mpr (all p rfl)⟩

theorem fitsSigned_iff {v : Int} : fitsSigned v = true ↔ -2147483648 ≤ v ∧ v ≤ 2147483647 := decide_eq_true_iff

theorem wfGroups_iff {gs : List FieldGroup} : wfGroups gs = true ↔
    (gs ≠ [] ∧ ∀ g ∈ gs, g.index < 256 ^ 2 ∧ g.value.length < 256 ^ 1) ∧
      1 + (gs.map fun g => 3 + g.value.length).sum ≤ 240 := by
  unfold wfGroups
  simp only [Bool.and_eq_true, Bool.not_eq_true', List.isEmpty_eq_false_iff, List.all_eq_true, wfGroup, fits_iff,
    decide_eq_true_iff]

/-! ### The requests -/

/-- A type and a body are parsed as the handler that a request's command gives its frame to. -/
def ParsedAs (type : Nat) (body : List Byte) (h : Header) (i : Instr) : Prop :=
  ∃ f, parse type body = .request f ∧ ∀ s, exec i s = requestFrame 0 h type (actsWhenBroadcast type) f s

/-- The operands of each well-formed request fit their fields, so the fields read back are the operands. -/
theorem parsedAs_spelled {i : Instr} {h : Header} {type : Nat} {body : List Byte} (wf : wellFormed i = true)
    (request : requestOf i = some (0, h)) (spelling : spelled i = some (type, body)) : ParsedAs type body h i := by
  have one : 0 < 1 := Nat.one_pos
  cases i <;> cases spelling <;> cases request <;>
    simp only [wellFormed, Bool.and_eq_true, fits_iff, optFits_iff, fitsText_iff, optFitsText_iff, fitsSigned_iff,
      wfTarget_iff, wfGroups_iff] at wf
  case plsg =>
    obtain ⟨⟨-, fr⟩, fp⟩ := wf
    exact ⟨_, sized_two fr fp reqPlsg, fun _ => rfl⟩
  case ftst =>
    obtain ⟨-, fr⟩ := wf
    exact ⟨_, sized_one fr reqFtst, fun _ => rfl⟩
  case prdg =>
    obtain ⟨⟨-, fq⟩, fp⟩ := wf
    exact ⟨_, sizedOr_named one fq fp reqPrdg, fun _ => rfl⟩
  case subs =>
    obtain ⟨⟨-, fp⟩, fv⟩ := wf
    exact ⟨_, parse_subs fp fv, fun _ => rfl⟩
  case tset =>
    obtain ⟨-, ft⟩ := wf
    exact ⟨_, sized_one ft reqTset, fun _ => rfl⟩
  case totg =>
    obtain ⟨⟨-, fq⟩, fp⟩ := wf
    exact ⟨_, sizedOr_named one fq fp reqTotg, fun _ => rfl⟩
  case snap => exact ⟨_, rfl, fun _ => rfl⟩
  case snpg =>
    obtain ⟨-, fp⟩ := wf
    exact ⟨_, sized_one fp reqSnpg, fun _ => rfl⟩
  case ropn =>
    obtain ⟨-, fr⟩ := wf
    exact ⟨_, sized_one fr (reqService .opened), fun _ => rfl⟩
  case rcls =>
    obtain ⟨-, fr⟩ := wf
    exact ⟨_, sized_one fr (reqService .closed), fun _ => rfl⟩
  case gset =>
    obtain ⟨⟨⟨⟨⟨-, fg⟩, long, last⟩, fa⟩, ff⟩, fr⟩ := wf
    exact ⟨_, parse_gset fg long last fa ff fr, fun _ => rfl⟩
  case gget =>
    obtain ⟨⟨-, fq⟩, fp⟩ := wf
    exact ⟨_, sizedOr_named one fq fp reqGget, fun _ => rfl⟩
  case bsch =>
    obtain ⟨⟨⟨⟨-, fi⟩, fg⟩, fn⟩, fd⟩ := wf
    exact ⟨_, parse_bsch fi fg fn fd, fun _ => rfl⟩
  case bdel =>
    obtain ⟨-, fi⟩ := wf
    exact ⟨_, sized_one fi reqBdel, fun _ => rfl⟩
  case bsta => exact ⟨_, rfl, fun _ => rfl⟩
  case bend => exact ⟨_, rfl, fun _ => rfl⟩
  case bcut => exact ⟨_, rfl, fun _ => rfl⟩
  case bget =>
    obtain ⟨-, fp⟩ := wf
    exact ⟨_, sized_one fp reqBget, fun _ => rfl⟩
  case tget =>
    obtain ⟨⟨-, fq⟩, fp⟩ := wf
    exact ⟨_, sizedOr_named (by decide) fq fp reqTget, fun _ => rfl⟩
  case trel =>
    obtain ⟨-, ft⟩ := wf
    exact ⟨_, sized_one ft reqTrel, fun _ => rfl⟩
  case preq =>
    obtain ⟨⟨⟨⟨-, fr⟩, fn⟩, fa⟩, fl⟩ := wf
    exact ⟨_, sized_four fr fn fa fl reqPreq, fun _ => rfl⟩
  case pcan =>
    obtain ⟨-, fr⟩ := wf
    exact ⟨_, sized_one fr reqPcan, fun _ => rfl⟩
  case paln =>
    obtain ⟨-, fr⟩ := wf
    exact ⟨_, sized_one fr reqPaln, fun _ => rfl⟩
  case pget =>
    obtain ⟨⟨-, fq⟩, fp⟩ := wf
    exact ⟨_, sizedOr_named (by decide) fq fp reqPget, fun _ => rfl⟩
  case pacc =>
    obtain ⟨-, fr⟩ := wf
    exact ⟨_, parse_pacc fr _, fun _ => rfl⟩
  case prej =>
    obtain ⟨-, fr⟩ := wf
    exact ⟨_, sized_one fr reqPrej, fun _ => rfl⟩
  case pena => exact ⟨_, rfl, fun _ => rfl⟩
  case pdis => exact ⟨_, rfl, fun _ => rfl⟩
  case mfgt =>
    obtain ⟨⟨⟨-, fr⟩, fq⟩, fp⟩ := wf
    exact ⟨_, parse_mfgt fr fq fp, fun _ => rfl⟩
  case mfsp =>
    obtain ⟨⟨⟨-, fr⟩, fq⟩, fm⟩ := wf
    exact ⟨_, sized_three fr fq fm reqMfsp, fun _ => rfl⟩
  case mfdp =>
    obtain ⟨⟨-, fr⟩, fq⟩ := wf
    exact ⟨_, sized_two fr fq reqMfdp, fun _ => rfl⟩
  case cndg =>
    obtain ⟨⟨-, fq⟩, fp⟩ := wf
    exact ⟨_, sizedOr_named one fq fp reqCndg, fun _ => rfl⟩
  case cndc =>
    obtain ⟨-, ft⟩ := wf
    exact ⟨_, parse_cndc ft, fun _ => rfl⟩
  case cstg =>
    obtain ⟨⟨-, fb⟩, ⟨some_, fit⟩, -⟩ := wf
    exact ⟨_, parse_cstg fb some_ fit, fun _ => rfl⟩
  case ccom =>
    obtain ⟨-, fb⟩ := wf
    exact ⟨_, sized_one fb reqCcom, fun _ => rfl⟩
  case cget =>
    obtain ⟨⟨⟨-, fb⟩, fc⟩, fp⟩ := wf
    exact ⟨_, sized_three fb fc fp reqCget, fun _ => rfl⟩
  case ktst =>
    obtain ⟨-, fb⟩ := wf
    exact ⟨_, sized_one fb reqKtst, fun _ => rfl⟩
  case aget =>
    obtain ⟨⟨-, fq⟩, fp⟩ := wf
    exact ⟨_, sizedOr_named (by decide) fq fp reqAget, fun _ => rfl⟩
  case atak =>
    obtain ⟨-, fn⟩ := wf
    exact ⟨_, sized_one fn reqAtak, fun _ => rfl⟩
  case stat =>
    obtain ⟨-, fp⟩ := wf
    exact ⟨_, sized_one fp reqStat, fun _ => rfl⟩
  case rstr => exact ⟨_, rfl, fun _ => rfl⟩
  case rack => exact ⟨_, rfl, fun _ => rfl⟩

/-- A body that is parsed is of a known type and of an allowed length (R198). -/
theorem fits_of_parsed {type : Nat} {body : List Byte} {f : Handler} (parsed : parse type body = .request f) :
    type ≤ 42 ∧ (type ≠ 34 → body.length ≤ 240) := by
  have known : ¬(type = 0 ∨ 42 < type) := fun unknown => by
    rw [parse_of_unknown unknown] at parsed
    nomatch parsed
  have bounds : 1 ≤ type ∧ type ≤ 42 := by omega
  refine ⟨bounds.2, fun notGroups => ?_⟩
  have allowed : body.length ∈ lengths type := by
    refine Classical.byContradiction fun other => ?_
    rw [parse_of_badLength bounds.1 bounds.2 notGroups other] at parsed
    nomatch parsed
  have short : ∀ t ≤ 42, ∀ n ∈ lengths t, n ≤ 240 := by decide
  exact short type bounds.2 _ allowed

/-- The groups of a well-formed CSTG fit its body (R197, R198). -/
theorem length_spelled_groups {i : Instr} {body : List Byte} (wf : wellFormed i = true)
    (spelling : spelled i = some (34, body)) : body.length ≤ 240 := by
  cases i <;> cases spelling
  simp only [wellFormed, Bool.and_eq_true, wfGroups_iff] at wf
  obtain ⟨-, -, short⟩ := wf
  have each (gs : List FieldGroup) :
      (gs.map groupCharacters).flatten.length = (gs.map fun g => 3 + g.value.length).sum := by
    rw [List.length_flatten, List.map_map]
    refine congrArg List.sum (List.map_congr_left fun g _ => ?_)
    show (groupCharacters g).length = _
    unfold groupCharacters
    rw [List.length_append, List.length_append, length_num, length_num]
  rw [List.length_append, length_num]
  exact Nat.le_trans (Nat.le_of_eq (congrArg (1 + ·) (each _))) short

theorem station_of_wellFormed {i : Instr} {h : Header} {dt : Nat} (wf : wellFormed i = true)
    (request : requestOf i = some (dt, h)) : h.station ≤ 31 := by
  have header : wfHeader h = true := by
    cases i <;> cases request <;> simp only [wellFormed, Bool.and_eq_true] at wf <;> simp only [wf]
  exact of_decide_eq_true header

end Sys2Proof.Proofs
end

section
/-! A request frame received character by character (R174 to R184, R197). -/

namespace Sys2Proof.Proofs

open Sys2Proof Sys2Proof.Machine Sys2Proof.Safety Sys2Proof.Stated Sys2Proof.Laws

theorem later_zero (s : State) : later 0 s = s := by
  unfold later
  rw [BitVec.add_zero]
  rfl

/-! ### A frame under way -/

/-- The state in the middle of a frame: nothing changed but the receiver and the silence timer. -/
def midway (r : Receiver) (s : State) : State :=
  s.withLink { s.link with receiver := r, silence := some s.counter }

theorem heard_of_ready {s : State} (is : s.link.receiver = .ready) : heard s = midway .ready s := by
  unfold heard midway
  rw [← is]

theorem heard_midway (r : Receiver) (s : State) : heard (midway r s) = midway r s := rfl

theorem setReceiver_midway (r r' : Receiver) (s : State) : setReceiver r (midway r' s) = midway r s := rfl

theorem arrived_zero (s : State) : arrived 0 s = midway .ready s := by
  unfold arrived
  rw [later_zero]
  rfl

/-- A character as it comes at once after the one before it. -/
def character (c : Byte) : Instr := .characterReceived 0 c

theorem gives_character {c : Byte} {s t : State} (running : s.running = true) (takes : receiveCharacter c s = t) :
    Gives (character c) s t :=
  gives_whileRunning rfl running (by rw [later_zero]; exact takes)

theorem runs_append {a b : List Instr} {s u : State} (t : State) (first : Runs a s t) (second : Runs b t u) :
    Runs (a ++ b) s u := by
  induction a generalizing s with
  | nil =>
    rw [first] at second
    exact second
  | cons i rest ih =>
    obtain ⟨v, gives, runs⟩ := first
    exact ⟨v, gives, ih runs⟩

section Frame

variable {s : State} {st ty : Nat} {tag : Tag} {len : Nat}

/-- The characters of the body and the first of the check (R177). -/
theorem runs_body (running : s.running = true) (rest taken : List Byte) (more : taken.length + rest.length < len + 2) :
    Runs (rest.map character) (midway (.body st ty tag len taken) s)
      (midway (.body st ty tag len (taken ++ rest)) s) := by
  induction rest generalizing taken with
  | nil => rw [List.append_nil]; rfl
  | cons c rest ih =>
    have takes : receiveCharacter c (midway (.body st ty tag len taken) s) =
        midway (.body st ty tag len (taken ++ [c])) s := by
      rw [receive_body rfl, heard_midway, bodyCharacter_of_more (by rw [List.length_cons] at more; omega)]
      rfl
    have goes := ih (taken ++ [c]) (by rw [List.length_append, List.length_singleton]; rw [List.length_cons] at more; omega)
    rw [List.append_assoc] at goes
    exact ⟨_, gives_character running takes, goes⟩

/-- The characters from the sync to the length, of a frame for the part (R176). -/
theorem runs_header {st ty t1 t2 n : Byte} (running : s.running = true) (ready : s.link.receiver = .ready)
    (free : s.link.reply = .none) (request : st.toNat < 128) (own : st.toNat = 0 ∨ st.toNat = s.link.station)
    (short : n.toNat ≤ 240) :
    Runs ([0xA5, st, ty, t1, t2, n].map character) s
      (midway (.body st.toNat ty.toNat (BitVec.ofNat 16 (readNat [t1, t2])) n.toNat []) s) := by
  have sync : receiveCharacter 0xA5 s = midway (.header []) s := by
    rw [receive_ready ready, heard_of_ready ready]
    rfl
  have station : receiveCharacter st (midway (.header []) s) = midway (.header [st]) s := by
    rw [receive_station rfl, heard_midway,
      stationCompare_of_free (s := midway _ s) (.inr fun r queued => nomatch free.symm.trans queued), setReceiver_midway]
  have more {c : Byte} {rest : List Byte} (before : rest.length < 3) :
      receiveCharacter c (midway (.header (st :: rest)) s) = midway (.header (st :: rest ++ [c])) s := by
    rw [receive_header rfl, heard_midway,
      headerCharacter_of_more (by rw [if_pos request, List.length_cons]; omega), setReceiver_midway]
  have length : receiveCharacter n (midway (.header [st, ty, t1, t2]) s) =
      midway (.body st.toNat ty.toNat (BitVec.ofNat 16 (readNat [t1, t2])) n.toNat []) s := by
    have type_ : numAt [st, ty, t1, t2] 1 1 = ty.toNat := by simp [numAt, field, readNat]
    rw [receive_header rfl, heard_midway, headerCharacter_of_last (by rw [if_pos request]; rfl),
      lengthTaken_of_own (s := midway _ s) own, if_pos short, setReceiver_midway, type_]
    rfl
  exact ⟨_, gives_character running sync, _, gives_character running station,
    _, gives_character running (more (rest := []) (Nat.lt_of_sub_eq_succ rfl)), _, gives_character running (more (rest := [ty]) (Nat.lt_of_sub_eq_succ rfl)),
    _, gives_character running (more (rest := [ty, t1]) (Nat.lt_of_sub_eq_succ rfl)), _, gives_character running length, rfl⟩

theorem completes {body : List Byte} {x c : Byte} (check : [x, c] = frameCheck st ty tag body)
    (notReset : ¬AtReset s) :
    receiveCharacter c (midway (.body st ty tag body.length (body ++ [x])) s) =
      if st = 0 then takeBroadcast ty body (midway .ready s) else takeFrame ty tag body (midway .ready s) := by
  rw [receive_body rfl, heard_midway, bodyCharacter_of_last [x] rfl, List.singleton_append, check,
    completeFrame_of_taken (s := midway _ s) fun reset => notReset ((resetInstant_iff_atReset _).mp reset),
    setReceiver_midway]

end Frame

theorem one_character {n : Nat} (fits : n < 256) : ∃ c : Byte, num 1 n = [c] ∧ c.toNat = n := by
  obtain ⟨c, one⟩ := List.length_eq_one_iff.mp (length_num 1 n)
  have read : readNat (num 1 n) = n := readNat_num (by rw [Nat.pow_one]; exact fits)
  rw [one] at read
  exact ⟨c, one, by simpa [readNat] using read⟩

theorem two_characters (tag : Tag) : ∃ a b : Byte, bigEndian 2 tag.toNat = [a, b] ∧ BitVec.ofNat 16 (readNat [a, b]) = tag := by
  obtain ⟨a, b, two⟩ := eq_pair_of_length (length_bigEndian 2 tag.toNat)
  refine ⟨a, b, two, ?_⟩
  rw [← two, readNat_bigEndian]
  exact BitVec.eq_of_toNat_eq (by rw [BitVec.toNat_ofNat]; have := tag.isLt; omega)

/-- A whole frame for the part, received from READY (R174 to R181, R184, R197). -/
theorem runs_frame {s : State} {h : Header} {type : Nat} {body : List Byte} (listening : Listening 0 s)
    (ready : s.link.receiver = .ready) (own : h.station = 0 ∨ h.station = s.link.station) (station : h.station ≤ 31)
    (known : type ≤ 42) (short : body.length ≤ 240) :
    Runs ((frameOf h type body).map character) s
      (if h.station = 0 then takeBroadcast type body (midway .ready s)
        else takeFrame type h.tag body (midway .ready s)) := by
  obtain ⟨running, -, free, notReset⟩ := listening
  rw [later_zero] at notReset
  obtain ⟨st, st_, stNat⟩ := one_character (n := h.station) (by omega)
  obtain ⟨ty, ty_, tyNat⟩ := one_character (n := type) (by omega)
  obtain ⟨n, n_, nNat⟩ := one_character (n := body.length) (by omega)
  obtain ⟨t1, t2, tag_, tagNat⟩ := two_characters h.tag
  obtain ⟨x, c, check⟩ := eq_pair_of_length
    (length_bigEndian 2 (crc16 (num 1 h.station ++ num 1 type ++ bigEndian 2 h.tag.toNat ++ num 1 body.length ++ body)).toNat)
  have frame : frameOf h type body = [0xA5, st, ty, t1, t2, n] ++ ((body ++ [x]) ++ [c]) := by
    unfold frameOf
    dsimp only
    rw [check, st_, ty_, tag_, n_]
    simp
  have header := runs_header (ty := ty) (t1 := t1) (t2 := t2) running ready free (by rw [stNat]; omega)
    (by rw [stNat]; exact own)
    (by rw [nNat]; exact short)
  rw [stNat, tyNat, nNat, tagNat] at header
  have rest := runs_body (st := h.station) (ty := type) (tag := h.tag) (len := body.length) running (body ++ [x]) []
    (by simp)
  rw [frame, List.map_append, List.map_append]
  refine runs_append _ header (runs_append _ rest ?_)
  exact ⟨_, gives_character (s := midway _ s) running (completes check.symm notReset), rfl⟩

/-! ### The request it is -/

/-- What a taken frame leads to, as the request command gives it. -/
theorem gives_request {i : Instr} {s : State} {h : Header} {type : Nat} {body : List Byte}
    (parsedAs : ParsedAs type body h i) (listening : Listening 0 s)
    (own : h.station = 0 ∨ h.station = s.link.station) :
    Gives i s (if h.station = 0 then takeBroadcast type body (midway .ready s)
      else takeFrame type h.tag body (midway .ready s)) := by
  obtain ⟨f, parsed, frame⟩ := parsedAs
  have ready := ready_of_listening listening
  have ends : frameEnds (advance 0 s) = midway .ready s := by
    rw [advance_of_listening listening, frameEnds_later, arrived_zero]
  unfold Gives
  rw [frame]
  by_cases all : h.station = 0
  · rw [if_pos all, requestFrame_broadcast _ _ _ _ _ _ ready all, ends]
    unfold takeBroadcast
    rw [parsed]
  · rw [if_neg all, requestFrame_addressed _ _ _ _ _ _ ready (own.resolve_left all) all, ends]
    unfold takeFrame
    rw [parsed]

/-- Settles O47: the characters of a spelled frame are taken one by one up to its check, and the body read is the
request's. -/
theorem spelledFramesAreTheirRequests : Obligations.SpelledFramesAreTheirRequests := by
  intro i h type body s wf request spelling listening own ready
  have parsedAs := parsedAs_spelled wf request spelling
  have ownStation : h.station = 0 ∨ h.station = s.link.station := own.imp_right And.left
  have ⟨f, parsed, _⟩ := parsedAs
  obtain ⟨known, short⟩ := fits_of_parsed parsed
  have fits : body.length ≤ 240 := by
    by_cases groups : type = 34
    · exact length_spelled_groups wf (groups ▸ spelling)
    · exact short groups
  exact ⟨_, gives_request parsedAs listening ownStation,
    runs_frame listening ready ownStation (station_of_wellFormed wf request) known fits⟩

end Sys2Proof.Proofs
end

section
/-! The lengths of the record streams (R198 to R202). -/

namespace Sys2Proof.Proofs

open Sys2Proof Sys2Proof.Machine Sys2Proof.Safety Sys2Proof.Stated Sys2Proof.Laws

/-! ### Fields keep their widths, whatever the value (R198; log entry 11) -/

@[simp] theorem length_whole (w : Nat) (v : Int) : (whole w v).length = w := by
  unfold whole
  split
  · exact length_num _ _
  · exact length_overflowField _ _

@[simp] theorem length_enum (n : Nat) : (enum n).length = 1 := length_num 1 n

@[simp] theorem length_flag (x : Bool) : (flag x).length = 1 := rfl

@[simp] theorem length_code (c : Code) : (code c).length = 4 := length_bigEndian _ _

@[simp] theorem length_stamp (x : Stamp) : (stamp x).length = 6 := length_bigEndian _ _

@[simp] theorem length_temperature (v : Int) : (temperature v).length = 2 := length_signed _ _

@[simp] theorem length_pressure (v : Int) : (pressure v).length = 4 := length_signed _ _

@[simp] theorem length_optNat (w : Nat) (q : Option Nat) : (optNat w q).length = w + 1 := length_optional map_num_fits

@[simp] theorem length_optStamp (x : Option Stamp) : (optStamp x).length = 6 := by
  cases x with
  | none => exact List.length_replicate
  | some t => exact length_stamp t

/-- An optional field filled by something of one width. -/
theorem length_optional_map {α : Type} {w : Nat} {f : α → List Byte} {x : Option α}
    (wide : ∀ a, x = some a → (f a).length = w) : (optional w (x.map f)).length = w + 1 := by
  refine length_optional fun v is => ?_
  obtain ⟨a, some_, is⟩ := Option.map_eq_some_iff.mp is
  rw [← is, wide a some_]

/-- Entries of one width, one after another. -/
theorem length_flatten_map {α β : Type} {f : α → List β} {w : Nat} (wide : ∀ a, (f a).length = w) (l : List α) :
    (l.map f).flatten.length = w * l.length := by
  induction l with
  | nil => rfl
  | cons a l ih => rw [List.map_cons, List.flatten_cons, List.length_append, wide, ih, List.length_cons, Nat.mul_succ, Nat.add_comm]

theorem length_flatten_perRun {α : Type} {f : α → List Byte} {w : Nat} (wide : ∀ a, (f a).length = w) (x : PerRun α) :
    (x.list.map f).flatten.length = w * 4 := length_flatten_map wide x.list

/-! ### Shared pieces -/

theorem length_encodeTotals (w : Nat) (x : Totals) : (encodeTotals w x).length = 5 * w := by
  unfold encodeTotals
  simp only [List.length_append, length_num]
  omega

theorem length_encodeSplit (x : Split) : (encodeSplit x).length = 50 := by
  unfold encodeSplit
  rw [List.length_append, length_encodeTotals, length_encodeTotals]

theorem length_encodeSum (x : Rat) : (encodeSum x).length = 8 := length_signed _ _

theorem length_encodeSums (x : WeightedSums) : (encodeSums x).length = 48 := by
  unfold encodeSums
  simp only [List.length_append, length_encodeSum]

theorem length_encodeBatchEntry {e : BatchEntry} (short : ∀ d, e.destination = some d → d.length ≤ 8) :
    (encodeBatchEntry e).length = 19 := by
  have destination : (optional 8 (e.destination.map (text 8))).length = 9 :=
    length_optional_map fun d is => length_text (short d is)
  unfold encodeBatchEntry
  simp only [List.length_append, length_num, length_optNat, destination]

/-! ### Tickets (R200) -/

theorem length_encodeTicketRun (x : TicketRun) : (encodeTicketRun x).length = 222 := by
  have averageT : (optional 2 (x.avgT.map (signed 2))).length = 3 := length_optional_map fun _ _ => length_signed _ _
  have averageP : (optional 4 (x.avgP.map (signed 4))).length = 5 := length_optional_map fun _ _ => length_signed _ _
  have average (y : Option Int) : (optional 2 (y.map (whole 2))).length = 3 := length_optional_map fun _ _ => length_whole _ _
  unfold encodeTicketRun
  simp only [List.length_append, length_encodeSplit, length_num, length_encodeSums, averageT, averageP, average,
    List.length_cons, List.length_nil]

theorem length_encodeStationSum (g f t : Nat) : (encodeStationSum g f t).length = 18 := by
  unfold encodeStationSum
  simp only [List.length_append, length_num]

theorem length_encodeTicket {t : Ticket} (short : ∀ d, t.entry.destination = some d → d.length ≤ 8) :
    (encodeTicket t).length = 1031 := by
  have average : (optional 2 (t.avgW.map (whole 2))).length = 3 := length_optional_map fun _ _ => length_whole _ _
  unfold encodeTicket
  simp only [List.length_append, length_num, length_encodeBatchEntry short, length_enum, length_flag,
    length_flatten_perRun length_encodeTicketRun, length_encodeStationSum, average]

/-! ### Proving records (R201) -/

theorem length_encodeRoundInProgress (c : RoundState) : (encodeRoundInProgress c).length = 36 := by
  unfold encodeRoundInProgress
  simp only [List.length_append, length_num, length_optStamp, length_optNat]

theorem length_encodeResult {x : ProvingResult} (short : x.rounds.length ≤ 10) : (encodeResult x).length = 24 := by
  unfold encodeResult
  simp only [List.length_append, length_whole, length_num, length_flatten_map (length_num 1), List.length_replicate,
    length_flag]
  omega

theorem length_encodePass (p : PassFigures) : (encodePass p).length = 25 := by
  unfold encodePass
  simp only [List.length_append, length_num]

theorem length_encodeFigures (f : RoundFigures) : (encodeFigures f).length = 40 := by
  unfold encodeFigures
  simp only [List.length_append, length_temperature, length_pressure, length_whole]

theorem length_encodeRound (e : RoundEntry) : (encodeRound e).length = 98 := by
  have figures : (optional 40 (e.figures.map encodeFigures)).length = 41 :=
    length_optional_map fun f _ => length_encodeFigures f
  unfold encodeRound
  simp only [List.length_append, length_num, length_enum, length_encodePass, figures]

theorem length_encodeRecord (place : Nat) {x : ProvingRecord} (short : ∀ y, x.result = some y → y.rounds.length ≤ 10) :
    (encodeRecord place x).length = 108 + 98 * x.rounds.length := by
  have current : (optional 36 (x.current.map encodeRoundInProgress)).length = 37 :=
    length_optional_map fun c _ => length_encodeRoundInProgress c
  have result : (optional 24 (x.result.map encodeResult)).length = 25 :=
    length_optional_map fun y is => length_encodeResult (short y is)
  unfold encodeRecord Machine.counted
  simp only [List.length_append, length_num, length_enum, length_optNat, current, result,
    length_flatten_map length_encodeRound]
  omega

/-! ### Conditions, snapshots and audit entries (R202) -/

theorem length_encodeCondition (s : State) (i : ConditionId) : (encodeCondition s i).length = 16 := by
  unfold encodeCondition
  simp only [List.length_append, length_num, length_flag, length_optNat, length_enum]

theorem length_cndgRunStream (s : State) (r : Run) : (cndgRunStream r s).length = 209 := by
  unfold cndgRunStream
  rw [List.length_append, length_flatten_map (length_encodeCondition s), length_enum]
  rfl

theorem length_cndgStationStream (s : State) : (cndgStationStream s).length = 96 :=
  length_flatten_map (length_encodeCondition s) stationConditionIds

theorem length_encodeSnapshot (x : Snapshot) : (encodeSnapshot x).length = 412 := by
  have batch : (optional 203 (x.batch.map fun b => num 3 b.1 ++ (b.2.list.map encodeSplit).flatten)).length = 204 :=
    length_optional_map fun b _ => by rw [List.length_append, length_num, length_flatten_perRun length_encodeSplit]
  unfold encodeSnapshot
  simp only [List.length_append, length_num, length_flatten_perRun length_encodeSplit, batch]

theorem length_encodeAuditPoint (p : Option CurvePoint) : (encodeAuditPoint p).length = 15 :=
  length_optional_map fun x _ => by
    unfold encodeCurvePoint
    simp only [List.length_append, length_num]

/-- The characters of an audit entry's own fields, by its kind (R202). -/
def auditDataLength : AuditData → Nat
  | .configCommit _ _ _ _ => 16
  | .gradeSet _ _ _ => 10
  | .curveChange _ _ _ _ => 51
  | .substituteSet _ _ _ => 9
  | .timeSet _ _ => 8
  | .runService _ _ => 7
  | .retentionAck _ _ _ => 12

theorem length_encodeAuditData (d : AuditData) : (encodeAuditData d).length = auditDataLength d := by
  cases d <;>
    simp only [encodeAuditData, auditDataLength, List.length_append, length_num, length_code, length_optNat,
      length_encodeAuditPoint, length_signed, length_enum]

theorem length_encodeAuditEntry (e : AuditEntry) : (encodeAuditEntry e).length = 10 + auditDataLength e.data := by
  unfold encodeAuditEntry
  simp only [List.length_append, length_code, length_num, length_enum, length_encodeAuditData]

/-- Settles O7: the fields of each layout, added up. -/
theorem recordLayouts : Obligations.RecordLayouts := by
  refine ⟨fun n t short => ?_, fun n _ short => length_encodeRecord n short, length_encodeCondition,
    length_cndgRunStream, length_cndgStationStream, length_encodeSnapshot, fun e => ?_⟩
  · rw [List.length_append, length_enum, length_encodeTicket short]
  · rw [length_encodeAuditEntry]
    cases e.data <;> rfl

end Sys2Proof.Proofs
end

section
/-! Staging the fields of a configuration block (R159, R198). -/

namespace Sys2Proof.Proofs

open Sys2Proof Sys2Proof.Machine Sys2Proof.Safety Sys2Proof.Stated Sys2Proof.Laws

/-! ### Fields on the link -/

theorem numberField_eq {α : Type} (w : Nat) (f : Nat → α) : numberField w f = fun v => (wireNat w v).map f := by
  funext v
  unfold numberField wireNat
  split <;> rfl

theorem signedField_eq {α : Type} (f : Int → α) : signedField f = fun v => (wireInt 4 v).map f := by
  funext v
  unfold signedField wireInt
  split <;> rfl

theorem wireNat_one (c : Byte) : wireNat 1 [c] = some c.toNat := by
  have one : readNat [c] = c.toNat := by simp [readNat]
  rw [← one]
  rfl

/-- An enumeration field whose names are numbered as the list orders them. -/
theorem oneOf_eq {α β : Type} {values : List β} {named : Nat → Option β} (numbered : ∀ n, values[n]? = named n)
    (f : β → α) : oneOf values f = fun v => (wireNat 1 v).bind fun n => (named n).map f := by
  funext v
  match v with
  | [c] => rw [wireNat_one, Option.bind_some, ← numbered]; rfl
  | [] => rfl
  | _ :: _ :: _ => rfl

theorem kindField_eq {α : Type} (f : PointKind → α) : oneOf [PointKind.temperature, .pressure, .water] f =
    fun v => (wireNat 1 v).bind fun n => (kindOf n).map f :=
  oneOf_eq (named := kindOf) (fun n => match n with
    | 0 | 1 | 2 => rfl
    | _ + 3 => rfl) f

theorem classField_eq {α : Type} (f : ConditionClass → α) : oneOf [ConditionClass.note, .flag, .trip] f =
    fun v => (wireNat 1 v).bind fun n => (classOf n).map f :=
  oneOf_eq (named := classOf) (fun n => match n with
    | 0 | 1 | 2 => rfl
    | _ + 3 => rfl) f

/-! ### A field of a block by its index -/

/-- A group written through the fields of a block, each in the place of its index. -/
def written {α : Type} (fields : α → List (List Byte → Option α)) (x : α) (g : FieldGroup) : Option α :=
  (fields x)[g.index]?.bind fun f => f g.value

theorem written_run : written runFields = putRunField := by
  funext x ⟨index, value⟩
  simp only [written, runFields, numberField_eq]
  match index with
  | 0 | 1 | 2 | 3 | 4 | 5 | 6 | 7 | 8 | 9 | 10 => rfl
  | _ + 11 => rfl

theorem written_prover : written proverFields = putProverField := by
  funext x ⟨index, value⟩
  simp only [written, proverFields, numberField_eq]
  match index with
  | 0 | 1 | 2 | 3 | 4 | 5 | 6 | 7 | 8 | 9 | 10 => rfl
  | _ + 11 => rfl

theorem written_station : written stationFields = putStationField := by
  funext x ⟨index, value⟩
  simp only [written, stationFields, numberField_eq, classField_eq]
  match index with
  | 0 | 1 | 2 | 21 | 22 => rfl
  | 3 | 4 | 5 | 6 | 7 | 8 | 9 | 10 | 11 | 12 | 13 | 14 | 15 | 16 | 17 | 18 | 19 | 20 => rfl
  | _ + 23 => rfl

/-! ### The POINTS block: ten fields for each setup, then the scan list -/

theorem partner_eq (u : PointSetup) (v : List Byte) :
    ((setupFields u)[8]?.bind fun f => f v) = putSetupField u 8 v := by
  match v with
  | [p, n] =>
    show (if p = 1 then some { u with partner := some n.toNat }
      else if p = 0 ∧ n = 0 then some { u with partner := none } else none) =
        (if p = 1 then some (some n.toNat) else if p = 0 ∧ n = 0 then some none else none).map
          fun x => { u with partner := x }
    rw [apply_ite (Option.map _), apply_ite (Option.map _)]
    rfl
  | [] => rfl
  | [_] => rfl
  | _ :: _ :: _ :: _ => rfl

theorem setupFields_length (u : PointSetup) : (setupFields u).length = 10 := rfl

theorem written_setup (u : PointSetup) (j : Nat) (v : List Byte) :
    ((setupFields u)[j]?.bind fun f => f v) = putSetupField u j v := by
  simp only [setupFields, numberField_eq, signedField_eq, kindField_eq]
  match j with
  | 0 | 1 | 2 | 3 | 4 | 5 | 6 | 7 | 9 => rfl
  | 8 => exact partner_eq u v
  | _ + 10 => rfl

/-- A place in lists of one length, one after another. -/
theorem getElem?_flatten {α : Type} {w : Nat} (wide : 0 < w) {l : List (List α)} (each : ∀ x ∈ l, x.length = w) (i : Nat) :
    l.flatten[i]? = l[i / w]?.bind fun x => x[i % w]? := by
  induction l generalizing i with
  | nil => simp
  | cons x l ih =>
    have length : x.length = w := each x List.mem_cons_self
    rw [List.flatten_cons]
    by_cases first : i < w
    · rw [List.getElem?_append_left (by omega), Nat.div_eq_of_lt first, Nat.mod_eq_of_lt first]
      rfl
    · have next : i / w = (i - w) / w + 1 := by
        rw [← Nat.add_div_right _ wide]
        congr 1
        omega
      rw [List.getElem?_append_right (by omega), length, ih (fun y listed => each y (List.mem_cons_of_mem _ listed)), next,
        List.getElem?_cons_succ, Nat.mod_eq_sub_mod (Nat.le_of_not_lt first)]

/-- The sixteen setups' fields, ten for each. -/
def setupFieldsOf (x : PointsBlock) (k : Fin 16) : List (List Byte → Option PointsBlock) :=
  (setupFields x.setups[k]).map fun f v => (f v).map fun u => { x with setups := x.setups.set k u }

def scanField (x : PointsBlock) (v : List Byte) : Option PointsBlock := (wireScanList v).map fun l => { x with scanList := l }

theorem pointsFields_eq (x : PointsBlock) :
    pointsFields x = ((List.finRange 16).map (setupFieldsOf x)).flatten ++ [scanField x] := by
  unfold pointsFields
  refine append_of_eq rfl (congrArg (fun f => [f]) ?_)
  funext v
  match v with
  | [] => rfl
  | n :: rest =>
    unfold scanField wireScanList
    rw [apply_ite (Option.map _)]
    rfl

theorem length_setupFieldsOf (x : PointsBlock) :
    ∀ l ∈ (List.finRange 16).map (setupFieldsOf x), l.length = 10 := by
  intro l listed
  obtain ⟨k, -, is⟩ := List.mem_map.mp listed
  rw [← is]
  exact List.length_map _

theorem length_setups (x : PointsBlock) : ((List.finRange 16).map (setupFieldsOf x)).flatten.length = 160 := by
  rw [length_flatten_map (f := setupFieldsOf x) fun k => (List.length_map _).trans (setupFields_length _), List.length_finRange]

theorem written_points : written pointsFields = putPointsField := by
  funext x ⟨index, value⟩
  unfold written putPointsField
  rw [pointsFields_eq]
  dsimp only
  by_cases setup : index / 10 < 16
  · rw [dif_pos setup, List.getElem?_append_left (by rw [length_setups]; omega),
      getElem?_flatten (by decide) (length_setupFieldsOf x), List.getElem?_map, List.getElem?_eq_getElem (by simpa using setup)]
    have place : (List.finRange 16)[index / 10]'(by simpa using setup) = ⟨index / 10, setup⟩ := by simp
    rw [place, Option.map_some, Option.bind_some, setupFieldsOf, List.getElem?_map, Option.bind_map, ← written_setup,
      Option.map_bind]
    rfl
  · rw [dif_neg setup, List.getElem?_append_right (by rw [length_setups]; omega), length_setups]
    by_cases scan : index = 160
    · rw [if_pos scan, scan]
      rfl
    · rw [if_neg scan, List.getElem?_eq_none (by rw [List.length_singleton]; omega)]
      rfl

end Sys2Proof.Proofs
end

section
/-! The requests of the configuration unit (R159 to R161, R166). -/

namespace Sys2Proof.Proofs

open Sys2Proof Sys2Proof.Machine Sys2Proof.Safety Sys2Proof.Stated Sys2Proof.Laws

/-! ### Staging (R159) -/

theorem putGroups_eq {α : Type} (put : α → FieldGroup → Option α) (groups : List FieldGroup) (x : α) :
    putGroups put groups x = groups.foldlM put x := by
  induction groups generalizing x with
  | nil => rfl
  | cons g rest ih => exact Option.bind_congr fun y _ => ih y

/-- What a CSTG that found a stageable block answers. -/
def answerStaging (t : State) : Option State → State × Answer
  | none => refuse t .badField
  | some u => (u, ok)

theorem answerStaging_written {α : Type} {fields : α → List (List Byte → Option α)} {put : α → FieldGroup → Option α}
    (same : written fields = put) (copy : α) (store : α → State) (groups : List FieldGroup) (t : State) :
    answerStaging t ((putGroups put groups copy).map store) = outcomeOf (stagedInto fields copy store groups t) := by
  rw [putGroups_eq, ← same]
  unfold stagedInto
  show answerStaging t ((groups.foldlM (written fields) copy).map store) =
    outcomeOf (match groups.foldlM (written fields) copy with
      | some x => done (store x) []
      | none => refusal t .badField)
  cases groups.foldlM (written fields) copy <;> rfl

theorem stageableOf_named {block : Nat} {b : BlockId} (names : blockOf block = some b) (other : b ≠ .grades) :
    stageableOf block = some b := by
  unfold stageableOf
  rw [names]
  cases b with
  | grades => exact absurd rfl other
  | _ => rfl

theorem stageableOf_grades {block : Nat} (names : blockOf block = some .grades) : stageableOf block = none := by
  unfold stageableOf
  rw [names]

theorem stageableOf_unnamed {block : Nat} (unnamed : blockOf block = none) : stageableOf block = none := by
  unfold stageableOf
  rw [unnamed]

theorem reqCstg_of_stageable {block : Nat} {b : BlockId} (stageable : stageableOf block = some b)
    (groups : List FieldGroup) (t : State) : reqCstg block groups t = answerStaging t (stageGroups b groups t) := by
  unfold reqCstg
  rw [stageable]
  dsimp only
  cases stageGroups b groups t <;> rfl

theorem reqCstg_of_none {block : Nat} (none_ : stageableOf block = none) (groups : List FieldGroup) (t : State) :
    reqCstg block groups t = outcomeOf (refusal t .badField) := by
  unfold reqCstg
  rw [none_]
  rfl

theorem reqCstg_eq (block : Nat) (groups : List FieldGroup) (t : State) :
    reqCstg block groups t = outcomeOf (stages block groups t) := by
  unfold stages
  rcases names : blockOf block with _ | b
  · exact reqCstg_of_none (stageableOf_unnamed names) groups t
  cases b with
  | grades => exact reqCstg_of_none (stageableOf_grades names) groups t
  | station =>
    exact (reqCstg_of_stageable (stageableOf_named names nofun) groups t).trans
      (answerStaging_written written_station _ _ groups t)
  | prover =>
    exact (reqCstg_of_stageable (stageableOf_named names nofun) groups t).trans
      (answerStaging_written written_prover _ _ groups t)
  | points =>
    exact (reqCstg_of_stageable (stageableOf_named names nofun) groups t).trans
      (answerStaging_written written_points _ _ groups t)
  | run r =>
    exact (reqCstg_of_stageable (stageableOf_named names nofun) groups t).trans
      (answerStaging_written written_run _ _ groups t)

/-! ### The conditions of a commit (R160) -/

theorem offending_eq (conditions : List Bool) : offending conditions = conditions.findIdx? fun h => !h := by
  induction conditions with
  | nil => rfl
  | cons c rest ih =>
    rw [List.findIdx?_cons, ← ih]
    cases c <;> rfl

theorem inRange_eq (low high v : Int) : inRange low high v = within low high v := by
  unfold inRange within
  rw [Int.emod_one]
  exact decide_eq_decide.mpr (by simp)

/-- A step counted from a low end that is one of its multiples. -/
theorem inRange_step {low : Int} {step : Nat} (multiple : (step : Int) ∣ low) (high : Int) (v : Nat) :
    inRange low high v step = (within low high v && decide (v % step = 0)) := by
  have steps : (v - low) % step = 0 ↔ v % step = 0 := by
    obtain ⟨k, times⟩ := multiple
    rw [times, Int.sub_mul_emod_self_left, ← Int.natCast_emod, Int.natCast_eq_zero]
  unfold inRange within
  rw [← Bool.decide_and, decide_eq_decide, steps, and_assoc]

theorem pointOfKind_eq (t : State) (n : Nat) (k : PointKind) :
    pointOfKind t.store.points.next.setups n k = namesKind t n k := by
  unfold pointOfKind namesKind
  show _ = (t.store.points.next.setups[n]?).any _
  by_cases inside : n < 16
  · rw [dif_pos inside, Vector.getElem?_eq_getElem inside]
    rfl
  · rw [dif_neg inside, Vector.getElem?_eq_none (by omega)]
    rfl

theorem gradeHolding_eq (t : State) (n : Nat) : gradeHolding t.store.grades n = (t.gradeEntry n).isSome := by
  unfold gradeHolding State.gradeEntry
  by_cases inside : n - 1 < 16
  · rw [dif_pos inside, dif_pos inside]
    by_cases least : 1 ≤ n
    · rw [if_pos least, decide_eq_true least, Bool.true_and]
    · rw [if_neg least, decide_eq_false least]
      rfl
  · rw [dif_neg inside, dif_neg inside]
    rfl

theorem runConditions_eq (t : State) (x : RunBlock) : runConditions t.store.points.next.setups x = runHolds t x := by
  unfold runConditions runHolds
  simp only [inRange_eq, pointOfKind_eq]

theorem proverConditions_eq (t : State) (x : ProverBlock) :
    proverConditions t.store.points.next.setups x = proverHolds t x := by
  unfold proverConditions proverHolds
  simp only [inRange_eq, pointOfKind_eq]

/-- Of the classes only that of EXTERNAL_TRIP is judged. -/
theorem classConditions_eq (x : StationBlock) :
    (List.range 13).map (fun _ => true) ++ [true, decide (x.classes[14] ≠ ConditionClass.trip), true, true, true] =
      (List.finRange 18).map fun k => decide (k.val = 14 → x.classes[k] ≠ .trip) := by
  have each (k : Fin 18) : decide (k.val = 14 → x.classes[k] ≠ .trip) =
      if k.val = 14 then decide (x.classes[14] ≠ ConditionClass.trip) else true := by
    by_cases is : k.val = 14
    · have place : k = 14 := Fin.ext is
      subst place
      exact (decide_eq_decide.mpr ⟨fun judged => judged is, fun judged _ => judged⟩).trans (if_pos is).symm
    · rw [if_neg is]
      exact decide_eq_true fun is' => absurd is' is
  rw [List.map_congr_left fun k _ => each k]
  rfl

theorem stationConditions_eq (t : State) (x : StationBlock) :
    stationConditions t.store.points.next.setups t.store.grades x = stationHolds t x := by
  have period : inRange 200 2000 x.periodLength 100 = _ := inRange_step (step := 100) (by decide) 2000 x.periodLength
  have filter : inRange 20 2000 x.filterTime 10 = _ := inRange_step (step := 10) (by decide) 2000 x.filterTime
  unfold stationConditions stationHolds
  rw [← classConditions_eq, period, filter, inRange_eq, pointOfKind_eq, gradeHolding_eq]
  rfl

theorem wanted_eq (t : State) (n : Nat) (k : PointKind) :
    (t.requiredKinds.all fun q => decide (q.1 = n → q.2 = k)) = wanted t n k := by
  unfold State.requiredKinds wanted
  rw [Bool.eq_iff_iff]
  simp only [List.all_append, List.all_flatten, List.all_map, List.all_cons, List.all_nil, Bool.and_true,
    Bool.and_eq_true, decide_eq_true_iff, List.all_eq_true, Function.comp_apply, eq_comm (b := k)]
  rfl

theorem partnerCondition_eq (x : PointsBlock) (n : Fin 16) : partnerCondition x.setups n.val x.setups[n] =
    match x.setups[n].partner with
    | none => true
    | some p => decide (p ≠ n.val) && (x.setups[p]?).any fun q =>
        decide (q.kind = x.setups[n].kind ∧ q.partner = some n.val ∧ q.deviation = x.setups[n].deviation) := by
  unfold partnerCondition
  cases x.setups[n].partner with
  | none => rfl
  | some p =>
    dsimp only
    by_cases inside : p < 16
    · rw [dif_pos inside, Vector.getElem?_eq_getElem inside, Option.any_some, Bool.decide_and, Bool.decide_and]
      simp only [Bool.and_assoc]
    · rw [dif_neg inside, Vector.getElem?_eq_none (by omega), Option.any_none, Bool.and_false]

theorem setupConditions_eq (t : State) (x : PointsBlock) (n : Fin 16) :
    setupConditions x.setups t.requiredKinds n.val x.setups[n] = setupHolds t x n := by
  unfold setupConditions setupHolds
  dsimp only
  rw [wanted_eq, partnerCondition_eq]
  simp only [inRange_eq]
  cases x.setups[n].kind <;> rfl

theorem pointsConditions_eq (t : State) (x : PointsBlock) :
    pointsConditions t.requiredKinds x = pointsHold t x := by
  have setups : (x.setups.toList.zipIdx.map fun e => setupConditions x.setups t.requiredKinds e.2 e.1) =
      (List.finRange 16).map (setupHolds t x) := by
    refine List.ext_getElem (by simp) fun k _ _ => ?_
    have inside : k < 16 := by simp_all
    simp only [List.getElem_map, List.getElem_zipIdx, Vector.getElem_toList, List.getElem_finRange, Nat.zero_add]
    exact setupConditions_eq t x ⟨k, inside⟩
  have scan : (decide (x.scanList.length ≤ 16) && x.scanList.all (fun p => decide (p < 16)) && decide x.scanList.Nodup) =
      decide (x.scanList.length ≤ 16 ∧ (∀ p ∈ x.scanList, p < 16) ∧ x.scanList.Nodup) := by
    rw [Bool.eq_iff_iff]
    simp only [Bool.and_eq_true, List.all_eq_true, decide_eq_true_iff, and_assoc]
  unfold pointsConditions pointsHold
  rw [setups, scan]

end Sys2Proof.Proofs
end

section
/-! Commits and spoiled check codes (R161, R166). -/

namespace Sys2Proof.Proofs

open Sys2Proof Sys2Proof.Machine Sys2Proof.Safety Sys2Proof.Stated Sys2Proof.Laws

/-! ### Commit (R161) -/

/-- A staged copy judged by conditions: what a commit of it finds. -/
def judged {α : Type} (copy : Option α) (conditions : α → List Bool) (encoded : α → List Byte) (put : α → State) : Commit :=
  match copy with
  | none => .unstaged
  | some x =>
    match offending (conditions x) with
    | some i => .offends i
    | none => .made (checkCode (encoded x)) (put x)

/-- What a CCOM of a stageable block answers to what its commit found. -/
def answerCommit (block : Nat) (b : BlockId) (t : State) : Commit → State × Answer
  | .unstaged => refuse t .badState
  | .offends i => (t, { status := .configInvalid, body := num 1 block ++ num 2 i })
  | .made c u =>
    if t.auditFree then
      (addAudit (blockScope b) (.configCommit b (t.storedCode b) c ((blockScope b).map t.cumulativeGSV)) u, ok (code c))
    else refuse t .auditFull

theorem reqCcom_of_stageable {block : Nat} {b : BlockId} (stageable : stageableOf block = some b) (t : State) :
    reqCcom block t = answerCommit block b t (commitBlock b t) := by
  unfold reqCcom
  rw [stageable]
  dsimp only
  cases commitBlock b t <;> rfl

theorem reqCcom_of_none {block : Nat} (none_ : stageableOf block = none) (t : State) :
    reqCcom block t = outcomeOf (refusal t .badField) := by
  unfold reqCcom
  rw [none_]
  rfl

theorem answerCommit_commitBlock {α : Type} {copy : Option α} {conditions holds : α → List Bool}
    {encoded : α → List Byte} {put : α → State} {b : BlockId} {t : State}
    (judges : commitBlock b t = judged copy conditions encoded put) (same : ∀ x, conditions x = holds x) (block : Nat) :
    answerCommit block b t (commitBlock b t) =
      outcomeOf (committed copy holds encoded put block b (blockScope b) (t.storedCode b) t) := by
  rw [judges]
  unfold judged committed
  cases copy with
  | none => rfl
  | some x =>
    dsimp only
    rw [offending_eq, same]
    cases (holds x).findIdx? fun h => !h with
    | some i => rfl
    | none =>
      dsimp only [answerCommit]
      rw [← entryFree_eq_auditFree, ← audited_eq_addAudit]
      by_cases free : entryFree t = true
      · rw [if_pos free, if_pos free]
        rfl
      · rw [if_neg free, if_neg free]
        rfl

theorem commitBlock_station (t : State) : commitBlock .station t =
    judged t.work.stagedStation (stationConditions t.store.points.next.setups t.store.grades) encodeStationBlock
      (fun x => t.withStore { t.store with station := { t.store.station with pending := some x } }) := by
  unfold commitBlock judged
  rcases t.work.stagedStation with _ | x
  · rfl
  · dsimp only
    cases offending (stationConditions t.store.points.next.setups t.store.grades x) <;> rfl

theorem commitBlock_prover (t : State) : commitBlock .prover t =
    judged t.work.stagedProver (proverConditions t.store.points.next.setups) encodeProverBlock
      (fun x => t.withStore { t.store with prover := { t.store.prover with pending := some x } }) := by
  unfold commitBlock judged
  rcases t.work.stagedProver with _ | x
  · rfl
  · dsimp only
    cases offending (proverConditions t.store.points.next.setups x) <;> rfl

theorem commitBlock_points (t : State) : commitBlock .points t =
    judged t.work.stagedPoints (pointsConditions t.requiredKinds) encodePointsBlock
      (fun x => t.withStore { t.store with points := { t.store.points with pending := some x } }) := by
  unfold commitBlock judged
  rcases t.work.stagedPoints with _ | x
  · rfl
  · dsimp only
    cases offending (pointsConditions t.requiredKinds x) <;> rfl

theorem commitBlock_run (t : State) (r : Run) : commitBlock (.run r) t =
    judged (t.work.stagedRuns.get r) (runConditions t.store.points.next.setups) encodeRunBlock
      (fun x => t.withStore { t.store with
        runBlocks := t.store.runBlocks.set r { t.store.runBlocks.get r with pending := some x } }) := by
  unfold commitBlock judged
  dsimp only
  rcases (t.work.stagedRuns.get r) with _ | x
  · rfl
  · cases offending (runConditions t.store.points.next.setups x) <;> rfl

theorem reqCcom_eq (block : Nat) (t : State) : reqCcom block t = outcomeOf (commits block t) := by
  unfold commits
  rcases names : blockOf block with _ | b
  · exact reqCcom_of_none (stageableOf_unnamed names) t
  cases b with
  | grades => exact reqCcom_of_none (stageableOf_grades names) t
  | station =>
    exact (reqCcom_of_stageable (stageableOf_named names nofun) t).trans
      (answerCommit_commitBlock (commitBlock_station t) (stationConditions_eq t) block)
  | prover =>
    exact (reqCcom_of_stageable (stageableOf_named names nofun) t).trans
      (answerCommit_commitBlock (commitBlock_prover t) (proverConditions_eq t) block)
  | points =>
    exact (reqCcom_of_stageable (stageableOf_named names nofun) t).trans
      (answerCommit_commitBlock (commitBlock_points t) (pointsConditions_eq t) block)
  | run r =>
    exact (reqCcom_of_stageable (stageableOf_named names nofun) t).trans
      (answerCommit_commitBlock (commitBlock_run t r) (runConditions_eq t) block)

/-! ### Spoiled check codes (R166) -/

theorem reqKtst_eq (block : Nat) (t : State) : reqKtst block t = outcomeOf (spoils block t) := by
  unfold reqKtst spoils
  rcases blockOf block with _ | b
  · rfl
  · cases b <;> rfl

theorem spoils_state {block : Nat} {b : BlockId} (names : blockOf block = some b) (t : State) :
    (spoils block t).state = setStoredCode b (~~~ t.contentsCode b) t := by
  have spoiled := congrArg Prod.fst (reqKtst_eq block t)
  unfold reqKtst at spoiled
  rw [names] at spoiled
  exact spoiled.symm

theorem storedCode_setStoredCode (b : BlockId) (c : Code) (t : State) : (setStoredCode b c t).storedCode b = c := by
  cases b with
  | run r => exact congrArg Slot.code (PerRun.get_set_same t.store.runBlocks r _)
  | _ => rfl

/-- A RUN block's contents stand as they were when its code is replaced. -/
theorem runBlock_setStoredCode (r : Run) (c : Code) (t : State) : (setStoredCode (.run r) c t).runBlock r = t.runBlock r := by
  have kept := PerRun.get_set_same t.store.runBlocks r { t.store.runBlocks.get r with code := c }
  have current := congrArg Slot.current kept
  exact current

theorem contentsCode_setStoredCode (b : BlockId) (c : Code) (t : State) :
    (setStoredCode b c t).contentsCode b = t.contentsCode b := by
  unfold State.contentsCode
  cases b with
  | run r => exact congrArg runBlockCode (runBlock_setStoredCode r c t)
  | _ => rfl

theorem mismatch_spoils {block : Nat} {b : BlockId} (names : blockOf block = some b) (t : State) :
    (spoils block t).state.mismatch b = true := by
  rw [spoils_state names, mismatch_iff, contentsCode_setStoredCode, storedCode_setStoredCode]
  refine .inl fun same => ?_
  have bit := congrArg (·.getLsbD 0) same
  simp at bit

/-- Settles O23: each request's answer is the effect stated, and a spoiled code is found by verification. -/
theorem configurationRequests : Obligations.ConfigurationRequests :=
  ⟨fun _ _ block groups _ taken => effects_of_handler taken rfl (reqCstg_eq block groups),
    fun _ _ block _ taken => effects_of_handler taken rfl (reqCcom_eq block),
    fun _ _ block _ taken => effects_of_handler taken rfl (reqKtst_eq block),
    fun _ _ t names => mismatch_spoils names t⟩

end Sys2Proof.Proofs
end
